-- ==== Sys2Proof/Word.lean ====
section
/-! DEFINITION. The words of the DL-8 (00_scope.md, "Numeric formats") and the index types of its tables. -/

namespace Sys2Proof

/-- One unescaped byte of the control link (R172). -/
abbrev Byte := BitVec 8

/-- A 32-bit wrapping count: the frame counter (R162), the slot counters (R152), the global counters (R186). -/
abbrev Word32 := BitVec 32

/-- The 24 sample bits of one time slot, two's complement (R1). -/
abbrev Word24 := BitVec 24

/-- The 32 bit periods of one driven output slot, the first the most significant bit (R1). -/
abbrev SlotWord := BitVec 32

/-- The 15-bit state of the sequence step (R15). Bit k of the manual, 1 the newest, is bit k−1 here. -/
abbrev SeqState := BitVec 15

/-- A line index, 0 … 63 (R39). -/
abbrev LineIx := Fin 64

/-- A tap index, 0 … 255 (R66). -/
abbrev TapIx := Fin 256

/-- An effect-slot index, 0 … 7 (R145). -/
abbrev SlotIx := Fin 8

/-- A modulator index, 0 … 15 (R126). -/
abbrev ModIx := Fin 16

/-- A return-bus number, 0 … 15 (R102). -/
abbrev BusIx := Fin 16

/-- An output-map entry number, 0 … 31 (section 1.4). -/
abbrev EntryIx := Fin 32

/-- A page number, 0 … 2,047 (R23). -/
abbrev Page := Fin 2048

/-- A handle of a scheduled action, 0 … 7 (R156). -/
abbrev Handle := Fin 8

end Sys2Proof
end

