-- ==== Sys2Proof/Syntax.lean ====
section
/-! DEFINITION. The commands of the DL-8: one constructor of `Instr` for each row of spec/opcode_table.json. A host request
carries its tag, its disposition and its payload bytes (R175); an event carries what the outside world brings with it. -/

namespace Sys2Proof

/-- What a host request carries besides its kind (R175): the host's tag, the disposition byte (0 apply, 1 stage) and the
payload, laid out as Chapter 10 tabulates it. -/
structure Request where
  tag         : Byte
  disposition : Byte
  payload     : List Byte
  deriving DecidableEq, Repr

/-- Damage to a stored sample, as its check bits show it on read (R36). -/
inductive Damage where
  | correctable
  | uncorrectable
  deriving DecidableEq, Repr

/-- Damage that strikes one sample of delay memory from outside the part: the address page × 4,096 + offset (R23). -/
structure Strike where
  address : Nat
  damage  : Damage
  deriving DecidableEq, Repr

/-- The commands of the part, in the order of spec/opcode_table.json. -/
inductive Instr where
  | status (r : Request)
  | init (r : Request)
  | start (r : Request)
  | stop (r : Request)
  | halt (r : Request)
  | resume (r : Request)
  | reset (r : Request)
  | resetTake
  | powerOnReset
  | timeGet (r : Request)
  | portDrive (r : Request)
  | portBypass (r : Request)
  | outmapSet (r : Request)
  | outmapFill (r : Request)
  | outmapGet (r : Request)
  | checkSet (r : Request)
  | checkRead (r : Request)
  | checkClear (r : Request)
  | lineOpen (r : Request)
  | lineSet (r : Request)
  | lineClose (r : Request)
  | lineReleaseTag (r : Request)
  | lineReleaseAll (r : Request)
  | lineGet (r : Request)
  | poolGet (r : Request)
  | tapCreate (r : Request)
  | tapSet (r : Request)
  | tapFill (r : Request)
  | tapFree (r : Request)
  | tapGet (r : Request)
  | modSet (r : Request)
  | modSync (r : Request)
  | modGet (r : Request)
  | tempoSet (r : Request)
  | beat (r : Request)
  | tempoGet (r : Request)
  | slotSet (r : Request)
  | slotClear (r : Request)
  | slotGet (r : Request)
  | commitNow (r : Request)
  | commitAt (r : Request)
  | discard (r : Request)
  | schedCancel (r : Request)
  | schedGet (r : Request)
  | condEnable (r : Request)
  | condGet (r : Request)
  | alertRelease (r : Request)
  | probeSet (r : Request)
  | probeGet (r : Request)
  | countersGet (r : Request)
  /-- A request whose kind is none of the catalogue's (R175, test 1). -/
  | unknownKindRequest (kind : Byte) (r : Request)
  /-- The marker 0xF5 arrives; `stopLow`: its stop bit was low (R172). -/
  | frameClose (stopLow : Bool)
  | frameTransmitDone
  | frameBoundary
  /-- `strikes`: the damage that came upon delay memory since the last completion (R36). -/
  | frameComputationComplete (strikes : List Strike)
  | pageClearComplete
  /-- `slot`: the input slot; `word`: its 24 sample bits; `fresh`: its first sample bit arrived after the last CHECK_SET (R18). -/
  | inputSlotReceived (slot : Nat) (word : Word24) (fresh : Bool)
  /-- `elapsed`: the reference time of the span, in microseconds (R169). -/
  | rateMeasurementComplete (elapsed : Nat)
  | rateMeasurementLoss
  | clockLost
  | trackerTimeout
  /-- `c`: the character; `stopLow`: its stop bit was low (R172). -/
  | characterReceived (c : Byte) (stopLow : Bool)
  deriving DecidableEq, Repr

end Sys2Proof
end

