-- ==== Sys2Proof/Machine/Records.lean ====
section
/-! DEFINITION. The records of the nine blocks of the DL-8 as plain data. Each record keeps the manual's field names; where the
manual gives a field only in some states of a record, the field stands under the constructor of that state. -/

namespace Sys2Proof.Machine

/-! ## Engine Controller (Chapter 9) -/

/-- The six engine states (R162). -/
inductive EngineState where
  | unconfigured | initializing | stopped | running | stopping | halted
  deriving DecidableEq, Repr

/-- The configured rate: 48,000 or 96,000 frames per second (R164). -/
inductive Rate where
  | r48 | r96
  deriving DecidableEq, Repr

/-- What the return port does while HALTED (R9, R164). -/
inductive HaltAction where
  | mute | bypass
  deriving DecidableEq, Repr

/-- The three halt causes (R167). -/
inductive HaltReason where
  | host | rate | memory
  deriving DecidableEq, Repr

/-- The set of halt reasons (R167). -/
structure HaltReasons where
  host   : Bool
  rate   : Bool
  memory : Bool
  deriving DecidableEq, Repr

/-- The result of the last rate measurement (R169). -/
inductive RateResult where
  | none | agree | disagree
  deriving DecidableEq, Repr

/-- The memory-fault tally (R169). -/
structure Tally where
  window : Option Nat
  count  : Nat
  deriving DecidableEq, Repr

/-- The Engine Controller. `span` is the rate measurement in progress: the boundaries counted since the one that started it. -/
structure Engine where
  engine      : EngineState
  reasons     : HaltReasons
  haltAction  : HaltAction
  rate        : Option Rate
  counter     : Word32
  fade        : Nat
  goal        : Nat
  clockAbsent : Bool
  clockTimer  : Bool
  span        : Option Nat
  rateResult  : RateResult
  tally       : Tally
  budgetUsed  : Nat
  deriving DecidableEq, Repr

/-! ## Send/Return Port Unit (Chapter 1) -/

/-- The seven modes of an output slot (R8). -/
inductive OutMode where
  | ret | directFast | directAligned | fixed | mute | released | pattern
  deriving DecidableEq, Repr

/-- One entry of the output slot map (section 1.4). -/
structure MapEntry where
  mode   : OutMode
  source : Int
  deriving DecidableEq, Repr

/-- The three states of the pattern checker (section 1.8). -/
inductive CheckState where
  | off | seeking | locked
  deriving DecidableEq, Repr

/-- The pattern checker record (section 1.8). `justSet` is the model's: a CHECK_SET was taken in the present frame and the slot
has not been received since, so that the word's first bit may have come before the request (R18). -/
structure Checker where
  slot        : Option Nat
  state       : CheckState
  reference   : Option SeqState
  consecutive : Nat
  running     : BitVec 16
  snapshot    : BitVec 16
  justSet     : Bool
  deriving DecidableEq, Repr

/-- What the SRP took at the boundary that began the present frame; it governs the whole frame (R2). -/
structure FrameLatch where
  engine     : EngineState
  drive      : Bool
  bypass     : Bool
  haltAction : HaltAction
  deriving DecidableEq, Repr

/-- The Send/Return Port Unit. The input history holds S samples in each list (R3). `returnSlots` is the return data output of
the present frame, slot by slot: the 32 bit periods of a driven slot (R1), `none` where the slot is not driven (R9). -/
structure Port where
  receive     : List Int
  previous    : List Int
  before      : List Int
  held        : Vector Int 16
  transmit    : Vector Int 16
  edited      : Vector MapEntry 32
  inUse       : Vector MapEntry 32
  drive       : Bool
  bypass      : Bool
  latch       : FrameLatch
  generator   : SeqState
  patternWord : Word24
  returnSlots : List (Option SlotWord)
  checker     : Checker
  deriving DecidableEq, Repr

/-! ## Delay Memory Controller (Chapters 2 and 3) -/

/-- A stored sample with what its check bits would show (R35, R36). -/
structure Stored where
  value  : Int
  damage : Option Damage
  deriving DecidableEq, Repr

/-- Delay memory: (page × 4,096 + offset, stored sample) pairs in the canonical form of `Memory.wf`. -/
abbrev Memory := List (Nat × Stored)

/-- The states of a line (section 3.2). -/
inductive LineState where
  | free | waiting | active | closing
  deriving DecidableEq, Repr

/-- A line record (R39). -/
structure Line where
  state      : LineState
  slot       : SlotIx
  tag        : Byte
  keep       : Bool
  length     : Nat
  pageCount  : Nat
  pages      : List Page
  w          : Nat
  source     : Option Nat
  sendTarget : Int
  sendGain   : Int
  damping    : Nat
  dampMem    : Int
  refs       : Nat
  deriving DecidableEq, Repr

/-- The Delay Memory Controller: the memory, the places of a page outside the lines (R24), the line table, the wait list (R47)
and the round-robin pointer (R44). -/
structure Dmc where
  memory     : Memory
  clean      : List Page
  dirty      : List Page
  scrubber   : Option Page
  lines      : Vector Line 64
  waitList   : List LineIx
  roundRobin : LineIx
  deriving DecidableEq, Repr

/-! ## Tap Table (Chapters 4 and 6) -/

/-- The states of a tap (section 4.1.1). -/
inductive TapState where
  | unused | live | releasing
  deriving DecidableEq, Repr

/-- Where a tap's contribution goes (R66). -/
inductive Dest where
  | bus (b : BusIx)
  | line (k : LineIx)
  deriving DecidableEq, Repr

/-- A delay spec (R74). -/
inductive DelaySpec where
  | fixed (value : Nat)
  | tempo (num den : Nat)
  deriving DecidableEq, Repr

/-- How the next retune is carried out (R66). -/
inductive RetuneMode where
  | fade | glide
  deriving DecidableEq, Repr

/-- The retune state with the fields that hold a value in it (R108). -/
inductive Retune where
  | idle
  | fading (newPosition count length : Nat) (pending : Option Nat)
  | gliding (step : Nat)
  deriving DecidableEq, Repr

/-- A tap record (R66). -/
structure Tap where
  state        : TapState
  slot         : SlotIx
  source       : LineIx
  dest         : Dest
  spec         : DelaySpec
  target       : Nat
  retuneMode   : RetuneMode
  retuneLength : Nat
  retune       : Retune
  position     : Nat
  modulator    : Option ModIx
  depth        : Nat
  gainTarget   : Int
  gain         : Int
  deriving DecidableEq, Repr

/-! ## Modulation Unit (Chapter 7) -/

/-- The five shapes (R127). -/
inductive Shape where
  | triangle | sawUp | sawDown | randomStep | randomSmooth
  deriving DecidableEq, Repr

/-- A tempo lock num/den (R130). -/
structure Lock where
  num : Nat
  den : Nat
  deriving DecidableEq, Repr

/-- A modulator record (R126). -/
structure Modulator where
  shape          : Shape
  increment      : Nat
  lock           : Option Lock
  beatSync       : Bool
  phase          : Nat
  random         : SeqState
  randomCurrent  : Int
  randomPrevious : Int
  deriving DecidableEq, Repr

/-- The states of the beat tracker (section 7.7). -/
inductive TrackerState where
  | idle | armed | tracking
  deriving DecidableEq, Repr

/-- The beat tracker (section 7.7). -/
structure Tracker where
  state     : TrackerState
  lastMark  : Option Word32
  intervals : List Nat
  deriving DecidableEq, Repr

/-- The Modulation Unit: the modulators, the tempo B (R135), the beat phase (R137) and the tracker. -/
structure ModUnit where
  mods      : Vector Modulator 16
  tempo     : Nat
  beatPhase : Nat
  tracker   : Tracker
  deriving DecidableEq, Repr

/-! ## Slot and Recall Unit (Chapter 8) -/

/-- The eight counters of a slot (R152). -/
structure SlotCounters where
  saturations : Word32
  modClamps   : Word32
  delayClamps : Word32
  started     : Word32
  superseded  : Word32
  trips       : Word32
  skipped     : Word32
  stale       : Word32
  deriving DecidableEq, Repr

/-- An effect-slot record (R145). -/
structure Slot where
  levelTarget     : Nat
  level           : Nat
  mute            : Bool
  safe            : Bool
  limit           : Nat
  runaway         : Nat
  windowCount     : Nat
  windowSaturated : Bool
  windowLeft      : Nat
  counters        : SlotCounters
  deriving DecidableEq, Repr

/-- The parts of a LINE_SET that its mask names, clamped (R53). The source part holds `some none` for NONE. -/
structure LineParts where
  source     : Option (Option Nat)
  sendTarget : Option Int
  damping    : Option Nat
  deriving DecidableEq, Repr

/-- The parts of a TAP_SET that its mask names, clamped (R78). -/
structure TapParts where
  spec      : Option DelaySpec
  modulator : Option (Option ModIx × Nat)
  gain      : Option Int
  retune    : Option (RetuneMode × Nat)
  deriving DecidableEq, Repr

/-- The field a TAP_FILL writes, with its value clamped to the field's format (R80). -/
inductive FillField where
  | gain (g : Int)
  | delay (d : Nat)
  | depth (d : Nat)
  deriving DecidableEq, Repr

/-- The parts of a MOD_SET that its mask names, clamped (R132). The lock part holds `some none` for NONE. -/
structure ModParts where
  shape    : Option Shape
  rate     : Option Nat
  lock     : Option (Option Lock)
  beatSync : Option Bool
  deriving DecidableEq, Repr

/-- The parts of a SLOT_SET that its mask names, clamped (R149). -/
structure SlotParts where
  level : Option Nat
  mute  : Option Bool
  safe  : Option Bool
  limit : Option Nat
  deriving DecidableEq, Repr

/-- One staged edit with its clamped fields and, where its kind has one, its entry slot (section 8.5). -/
inductive Entry where
  | lineSet (line : LineIx) (parts : LineParts) (slot : SlotIx)
  | tapSet (tap : TapIx) (parts : TapParts) (slot : SlotIx)
  | tapFill (slot : SlotIx) (first last : TapIx) (field : FillField)
  | slotSet (slot : SlotIx) (parts : SlotParts)
  | modSet (modulator : ModIx) (parts : ModParts)
  | tempoSet (period : Nat)
  | outmapSet (entry : EntryIx) (value : MapEntry)
  | outmapFill (first last : EntryIx) (step : Bool) (value : MapEntry)
  deriving DecidableEq, Repr

/-- A scheduled action (R156); `isDue` once its due frame has been reached (R157). -/
structure Action where
  handle  : Handle
  frame   : Word32
  isDue   : Bool
  entries : List Entry
  deriving DecidableEq, Repr

/-- The Slot and Recall Unit. The free entries of the pool are those of the 256 that no list holds (R153). -/
structure Sru where
  slots   : Vector Slot 8
  staging : List Entry
  dueNow  : List Entry
  queue   : List Action
  deriving DecidableEq, Repr

/-! ## Condition Unit (Chapter 11) -/

/-- Why a received frame was rejected (R173, R174). -/
inductive RejectReason where
  | checkBad | tooLong | truncated | queueFull
  deriving DecidableEq, Repr

/-- The point a probe watches (section 11.3). -/
inductive Point where
  | off
  | tap (t : TapIx)
  | line (k : LineIx)
  | bus (b : BusIx)
  deriving DecidableEq, Repr

/-- The fifteen conditions, each with its detail (section 11.1). -/
inductive Detail where
  | initDone (rate : Rate)
  | stopDone (counter : Word32)
  | halted (reasons : HaltReasons)
  | clockLost (counter : Word32)
  | clockBack (counter : Word32)
  | poolWait (line : LineIx)
  | lineReady (line : LineIx)
  | runawayTrip (slot : SlotIx) (level : Nat)
  | probeTrip (point : Point) (value : Int)
  | actionLate (handle : Handle) (lateness : Word32)
  | staleEntries (dropped : Nat)
  | checkLock (slot : Nat) (state : CheckState)
  | memFault (line : LineIx) (position : Nat)
  | busClip (bus : BusIx)
  | linkReject (reason : RejectReason)
  deriving DecidableEq, Repr

/-- A detail and its frame stamp (R179). -/
structure Occurrence where
  stamp  : Word32
  detail : Detail
  deriving DecidableEq, Repr

/-- A condition record (R179). -/
structure Condition where
  enabled  : Bool
  pending  : Bool
  reported : Bool
  again    : Bool
  first    : Option Occurrence
  latest   : Option Occurrence
  deriving DecidableEq, Repr

/-- The part of a probe snapshot that depends on the point (R184). -/
inductive SnapPart where
  | tap (retune : Retune) (position : Nat) (gain : Int)
  | line (w : Nat)
  | bus
  deriving DecidableEq, Repr

/-- A probe snapshot (R184). -/
structure Snapshot where
  stamp : Word32
  value : Int
  part  : SnapPart
  deriving DecidableEq, Repr

/-- The probe record (section 11.3). -/
structure Probe where
  point    : Point
  trip     : Nat
  armed    : Bool
  peak     : Nat
  snapshot : Option Snapshot
  deriving DecidableEq, Repr

/-- The nineteen global counters (R186). -/
structure Counters where
  memFaults   : Word32
  linkRejects : Word32
  lateActions : Word32
  clips       : Vector Word32 16
  deriving DecidableEq, Repr

/-- The Condition Unit: the fifteen records by code, the alert latch (R180), the probe and the global counters. -/
structure CondUnit where
  conditions : Vector Condition 15
  latch      : Bool
  probe      : Probe
  counters   : Counters
  deriving DecidableEq, Repr

/-! ## Frame Engine (Chapter 5) -/

/-- The tables as they stood at the boundary, after the due work (R91). -/
structure View where
  taps     : Vector Tap 256
  lines    : Vector Line 64
  mods     : Vector Modulator 16
  slots    : Vector Slot 8
  fade     : Nat
  previous : List Int
  deriving DecidableEq, Repr

/-- What has been written since the boundary of the computation in progress, as R104, R120, R142 and R184 distinguish it. -/
structure Written where
  tapLeft   : Vector Bool 256
  tapRetune : Vector Bool 256
  lineLeft  : Vector Bool 64
  modPhase  : Vector Bool 16
  beatPhase : Bool
  fade      : Bool
  windows   : Bool
  probe     : Bool
  deriving DecidableEq, Repr

/-- The frame computation in progress: its stamp (R90), its view (R91), its sums (R99) and what was written since. -/
structure Computation where
  stamp    : Word32
  view     : View
  busSums  : Vector Int 16
  lineSums : Vector Int 64
  written  : Written
  deriving DecidableEq, Repr

/-- The Frame Engine: the last bus values and the computation in progress, if any (section 5.1). -/
structure FrameEngine where
  busValues   : Vector Int 16
  computation : Option Computation
  deriving DecidableEq, Repr

/-! ## Control Link Unit (Chapter 10) -/

/-- The reply statuses (section 10.4). -/
inductive Status where
  | ok | okClamped | staged | stagedClamped | waiting | waitingClamped
  | unknownKind | badLength | badIndex | badValue | wrongState | notStageable
  | noLine | noMemory | noTap | slotMismatch | overBudget | listFull | scheduleFull | stillFaulted | notFound | notLive
  deriving DecidableEq, Repr

/-- A complete request frame: kind, tag, disposition and payload (R175). -/
structure Frame where
  kind        : Byte
  tag         : Byte
  disposition : Byte
  payload     : List Byte
  deriving DecidableEq, Repr

/-- A formed frame of the transmit queue (R176). -/
inductive TxFrame where
  | reply (kind tag : Byte) (status : Status) (payload : List Byte)
  | alert (items : List Occurrence)
  | reject (reason : RejectReason)
  deriving DecidableEq, Repr

/-- The receiver (R172): in COLLECT, the unescaped bytes gathered, the escape-pending flag and whether the frame is damaged. -/
inductive Receiver where
  | hunt
  | collect (bytes : List Byte) (escape damaged : Bool)
  deriving DecidableEq, Repr

/-- The Control Link Unit: the receiver, the receive queue (R174), the transmit queue (R176) and whether the RESET reply has
been sent in full, so that the reset is due (R177). -/
structure Link where
  receiver  : Receiver
  rx        : List Frame
  tx        : List TxFrame
  resetSent : Bool
  deriving DecidableEq, Repr

end Sys2Proof.Machine
end

