-- ==== Sys2Proof/Machine/Values.lean ====
section
/-! DEFINITION. The values the records take when they are free and after a reset, as each chapter's last section tabulates them
(R22, R32, R39, R65, R66, R88, R89, R144, R161, R171, R187). -/

namespace Sys2Proof.Machine

/-- The free values of a line record (R39). -/
def Line.freeValue : Line :=
  { state := .free, slot := 0, tag := 0, keep := false, length := 0, pageCount := 0, pages := [], w := 0, source := none,
    sendTarget := 0, sendGain := 0, damping := 0, dampMem := 0, refs := 0 }

/-- The free values of a tap record (R66). -/
def Tap.freeValue : Tap :=
  { state := .unused, slot := 0, source := 0, dest := .bus 0, spec := .fixed 0, target := 0, retuneMode := .fade,
    retuneLength := 16, retune := .idle, position := 0, modulator := none, depth := 0, gainTarget := 0, gain := 0 }

/-- Every page in ascending order (R32). -/
def allPages : List Page := List.finRange 2048

/-- No halt reason. -/
def HaltReasons.none : HaltReasons := { host := false, rate := false, memory := false }

/-- An empty memory-fault tally (R169). -/
def Tally.empty : Tally := { window := none, count := 0 }

/-- The Engine Controller after a reset (R171). -/
def Engine.resetValue : Engine :=
  { engine := .unconfigured, reasons := HaltReasons.none, haltAction := .mute, rate := none, counter := 0, fade := 0, goal := 0,
    clockAbsent := false, clockTimer := false, span := none, rateResult := .none, tally := Tally.empty, budgetUsed := 0 }

/-- A map entry after a reset (R6): mode MUTE, source 0. -/
def MapEntry.resetValue : MapEntry := { mode := .mute, source := 0 }

/-- The pattern checker after a reset and after INIT (R18). -/
def Checker.resetValue : Checker :=
  { slot := none, state := .off, reference := none, consecutive := 0, running := 0, snapshot := 0, justSet := false }

/-- The latch before the first frame: the ports do not operate (R2). -/
def FrameLatch.resetValue : FrameLatch := { engine := .unconfigured, drive := false, bypass := false, haltAction := .mute }

/-- The port unit after a reset (R22). There is no S yet, so the histories hold no position. -/
def Port.resetValue : Port :=
  { receive := [], previous := [], before := [], held := Vector.replicate 16 0, transmit := Vector.replicate 16 0,
    edited := Vector.replicate 32 MapEntry.resetValue, inUse := Vector.replicate 32 MapEntry.resetValue, drive := false,
    bypass := false, latch := FrameLatch.resetValue, generator := 1, patternWord := 0, returnSlots := [],
    checker := Checker.resetValue }

/-- The Delay Memory Controller after a reset (R32, R65), with the memory given. -/
def Dmc.resetValue (m : Memory) : Dmc :=
  { memory := m, clean := [], dirty := allPages, scrubber := none, lines := Vector.replicate 64 Line.freeValue, waitList := [],
    roundRobin := 0 }

/-- Modulator k after a reset and after INIT (R144): its random state is k + 1. -/
def Modulator.resetValue (k : Nat) : Modulator :=
  { shape := .triangle, increment := 0, lock := none, beatSync := false, phase := 0, random := BitVec.ofNat 15 (k + 1),
    randomCurrent := 0, randomPrevious := 0 }

/-- The beat tracker after a reset and at its timeout expiry (R140, R144). -/
def Tracker.resetValue : Tracker := { state := .idle, lastMark := none, intervals := [] }

/-- The sixteen modulators after a reset and after INIT (R144). -/
def modsReset : Vector Modulator 16 := ⟨⟨(List.range 16).map Modulator.resetValue⟩, by simp⟩

/-- The Modulation Unit after a reset or an INIT that sets the tempo `b` (R144). -/
def ModUnit.resetValue (b : Nat) : ModUnit :=
  { mods := modsReset, tempo := b, beatPhase := 0, tracker := Tracker.resetValue }

/-- The slot counters cleared (R152, R161). -/
def SlotCounters.zero : SlotCounters :=
  { saturations := 0, modClamps := 0, delayClamps := 0, started := 0, superseded := 0, trips := 0, skipped := 0, stale := 0 }

/-- A slot record after a reset and after INIT (R161). -/
def Slot.resetValue : Slot :=
  { levelTarget := 16384, level := 16384, mute := false, safe := false, limit := 16, runaway := 0, windowCount := 0,
    windowSaturated := false, windowLeft := 0, counters := SlotCounters.zero }

/-- The Slot and Recall Unit after a reset and after INIT (R161). -/
def Sru.resetValue : Sru := { slots := Vector.replicate 8 Slot.resetValue, staging := [], dueNow := [], queue := [] }

/-- A condition record after a reset (R187). -/
def Condition.resetValue : Condition :=
  { enabled := true, pending := false, reported := false, again := false, first := none, latest := none }

/-- The probe after a reset and after INIT (R187). -/
def Probe.resetValue : Probe := { point := .off, trip := 8388608, armed := false, peak := 0, snapshot := none }

/-- The global counters after a reset, after INIT and when cleared (R186). -/
def Counters.zero : Counters := { memFaults := 0, linkRejects := 0, lateActions := 0, clips := Vector.replicate 16 0 }

/-- The Condition Unit after a reset (R187). -/
def CondUnit.resetValue : CondUnit :=
  { conditions := Vector.replicate 15 Condition.resetValue, latch := false, probe := Probe.resetValue, counters := Counters.zero }

/-- The Frame Engine after a reset and after INIT (R89). -/
def FrameEngine.resetValue : FrameEngine := { busValues := Vector.replicate 16 0, computation := none }

/-- The Control Link Unit after a reset (R172, R174, R176). -/
def Link.resetValue : Link := { receiver := .hunt, rx := [], tx := [], resetSent := false }

/-- Nothing written since the boundary. -/
def Written.nothing : Written :=
  { tapLeft := Vector.replicate 256 false, tapRetune := Vector.replicate 256 false, lineLeft := Vector.replicate 64 false,
    modPhase := Vector.replicate 16 false, beatPhase := false, fade := false, windows := false, probe := false }

end Sys2Proof.Machine
end

