-- ==== Sys2Proof/Machine/State.lean ====
section
/-! DEFINITION. The state of the DL-8: one field for each block of 00_scope.md, the model's choice counter and the queue of
commands that wait; the reasons a step could stop; the state after a reset. -/

namespace Sys2Proof.Machine

/-- The DL-8. `choices` is the model's own: how many free values have been drawn. `pending` is the queue of commands that wait,
first in, first out. -/
structure State where
  link    : Link
  ec      : Engine
  port    : Port
  dmc     : Dmc
  taps    : Vector Tap 256
  mu      : ModUnit
  fe      : FrameEngine
  sru     : Sru
  cu      : CondUnit
  choices : Nat
  pending : List Instr
  deriving DecidableEq, Repr

/-- The faults that stop the machine: none. Every error the manual describes is answered by a reply status, a REJECT frame, a
condition or a halt, all of them effects on State. -/
inductive Fault where
  deriving DecidableEq, Repr

/-- The refusals of the model. -/
inductive Refusal where
  /-- Raised by an arm of `exec` whose command has no meaning yet; safe. No arm raises it. -/
  | notModelled (mnemonic : String)
  deriving DecidableEq, Repr

/-- The machine right after a power-on reset: every block at the reset values of its chapter, no command waiting. Delay memory
lists nothing (notes/assumptions/3.md). -/
def State.reset : State :=
  { link := Link.resetValue, ec := Engine.resetValue, port := Port.resetValue, dmc := Dmc.resetValue [],
    taps := Vector.replicate 256 Tap.freeValue, mu := ModUnit.resetValue 24000, fe := FrameEngine.resetValue,
    sru := Sru.resetValue, cu := CondUnit.resetValue, choices := 0, pending := [] }

end Sys2Proof.Machine
end

