-- ==== Sys2Proof/Machine/Operands.lean ====
section
/-! DEFINITION. Operands: the byte order of the link (R172), the clamps of 00_scope.md, the codes of R178 and of the tables of
Chapter 10, the constants that follow from the rate, and the layouts of frames, details and wire bytes. -/

namespace Sys2Proof.Machine

/-! ## Tables indexed by a bounded number -/

/-- The index of a table of `n` records, if the number names one. -/
def index (n k : Nat) : Option (Fin n) :=
  if h : k < n then some ⟨k, h⟩ else none

/-- Every record of a table replaced by a function of its index and itself. -/
def mapIx {α β : Type} {n : Nat} (f : Fin n → α → β) (v : Vector α n) : Vector β n :=
  ⟨⟨List.zipWith f (List.finRange n) v.toList⟩, by simp⟩

/-- One record of a table changed. -/
def updateAt {α : Type} {n : Nat} (v : Vector α n) (i : Fin n) (f : α → α) : Vector α n :=
  v.set i (f v[i])

/-- The records named by a range of a table of `n` records: from first upward to last, wrapping at the end of the table when
first is greater than last (R13, R80). -/
def wrapRange {n : Nat} (first last : Fin n) : List (Fin n) :=
  if first ≤ last then (List.finRange n).filter fun i => first ≤ i ∧ i ≤ last
  else ((List.finRange n).filter fun i => first ≤ i) ++ (List.finRange n).filter fun i => i ≤ last

/-! ## Bytes, high byte first (R172) -/

/-- The `n` low bytes of a number, high byte first. -/
def bytesOf : Nat → Nat → List Byte
  | 0, _ => []
  | n + 1, v => BitVec.ofNat 8 (v / 256 ^ n) :: bytesOf n v

/-- The `n` bytes of a signed number in two's complement, high byte first. -/
def signedBytes (n : Nat) (v : Int) : List Byte :=
  bytesOf n (v % (256 ^ n : Nat)).toNat

/-- The unsigned number that bytes spell, high byte first. -/
def natOf (bs : List Byte) : Nat :=
  bs.foldl (fun acc b => acc * 256 + b.toNat) 0

/-- The two's-complement number that bytes spell, high byte first. -/
def signedOf (bs : List Byte) : Int :=
  if natOf bs < 256 ^ bs.length / 2 then (natOf bs : Int) else (natOf bs : Int) - (256 ^ bs.length : Nat)

/-- The 32 bit periods of a driven output slot that carries the sample `v`: the sample in two's complement in the first 24, most
significant bit first, and 0 in the remaining 8 (R1). -/
def slotWord (v : Int) : SlotWord := BitVec.ofInt 24 v ++ (0 : Byte)

/-- A flag as the byte 0 or 1 (R178). -/
def flagByte (b : Bool) : Byte := if b then 1 else 0

/-- One byte of a number below 256. -/
def byteOf (n : Nat) : Byte := BitVec.ofNat 8 n

/-- An index as a byte, 255 for NONE or OFF. -/
def byteOrNone : Option Nat → Byte
  | none => 255
  | some n => byteOf n

/-! ## Clamps (00_scope.md, "Clamp and refuse") -/

/-- A number clamped into [lo, hi]. -/
def clampNat (lo hi v : Nat) : Nat := max lo (min hi v)

/-- An integer clamped into [lo, hi]. -/
def clampInt (lo hi v : Int) : Int := max lo (min hi v)

/-- Clamped to the sample range. -/
def clampSample (v : Int) : Int := clampInt (-8388608) 8388607 v

/-- Clamped to the gain format. -/
def clampGain (v : Int) : Int := clampInt (-32768) 32767 v

/-- Clamped to the feedback ceiling of R75. -/
def clampFeedback (v : Int) : Int := clampInt (-16000) 16000 v

/-- A gain target as a tap with destination `d` stores it (R75). -/
def clampGainFor (d : Dest) (v : Int) : Int :=
  match d with
  | .bus _ => clampGain v
  | .line _ => clampFeedback v

/-- `current` moved toward `target` by at most `step`, reaching it without passing it (00_scope.md, "Targets and currents"). -/
def approach (step current target : Int) : Int :=
  if current ≤ target then min target (current + step) else max target (current - step)

/-! ## Constants of the rate -/

/-- Frames per second (R164). -/
def Rate.fs : Rate → Nat
  | .r48 => 48000
  | .r96 => 96000

/-- The rate code of R164 and R178. -/
def Rate.code : Rate → Nat
  | .r48 => 0
  | .r96 => 1

/-- The number of time slots in a frame (R1). -/
def Rate.timeSlots : Rate → Nat
  | .r48 => 32
  | .r96 => 16

/-- The budget capacity (R105). -/
def Rate.capacity : Rate → Nat
  | .r48 => 1600
  | .r96 => 800

/-- S, the number of time slots in force; none before the first INIT (R22). -/
def Engine.timeSlots (e : Engine) : Nat := e.rate.elim 0 Rate.timeSlots

/-- The budget capacity in force, 0 before the first INIT (R163). -/
def Engine.capacity (e : Engine) : Nat := e.rate.elim 0 Rate.capacity

/-- fs of the configured rate. Before the first INIT no rule uses it (R131, R161); it then reads 48,000, as B does (R144). -/
def Engine.fs (e : Engine) : Nat := e.rate.elim 48000 Rate.fs

/-- The runaway window length W = fs/10 (R145). -/
def Engine.windowLength (e : Engine) : Nat := e.fs / 10

/-- The least beat period, fs/5 (R135). -/
def Engine.minBeat (e : Engine) : Nat := e.fs / 5

/-- The greatest beat period, 3fs/2 (R135). -/
def Engine.maxBeat (e : Engine) : Nat := 3 * e.fs / 2

/-- The states in which the ports operate (R2, R162). -/
def EngineState.portsOperate : EngineState → Bool
  | .unconfigured | .initializing => false
  | .stopped | .running | .stopping | .halted => true

/-- The states in which frame computations run (R90, R162). -/
def EngineState.computes : EngineState → Bool
  | .running | .stopping => true
  | .unconfigured | .initializing | .stopped | .halted => false

/-- The states in which the frame counter advances (R162). -/
def EngineState.counts : EngineState → Bool
  | .running | .stopping | .halted => true
  | .unconfigured | .initializing | .stopped => false

/-- The states in which the scrubber runs (R27, R162). -/
def EngineState.scrubs : EngineState → Bool
  | .unconfigured => false
  | .initializing | .stopped | .running | .stopping | .halted => true

/-- A frame number is reached at a counter value when their difference modulo 2^32 is below 2^31 (00_scope.md). -/
def reached (counter frame : Word32) : Bool := decide ((counter - frame).toNat < 2 ^ 31)

/-! ## Codes (R178) -/

/-- The engine state's code. -/
def EngineState.code : EngineState → Nat
  | .unconfigured => 0 | .initializing => 1 | .stopped => 2 | .running => 3 | .stopping => 4 | .halted => 5

/-- The halt reasons as bits: 0 HOST, 1 RATE, 2 MEMORY. -/
def HaltReasons.code (r : HaltReasons) : Nat := r.host.toNat + 2 * r.rate.toNat + 4 * r.memory.toNat

/-- The halt action's code. -/
def HaltAction.code : HaltAction → Nat
  | .mute => 0 | .bypass => 1

/-- The last rate measurement's code. -/
def RateResult.code : RateResult → Nat
  | .none => 0 | .agree => 1 | .disagree => 2

/-- The line state's code. -/
def LineState.code : LineState → Nat
  | .free => 0 | .waiting => 1 | .active => 2 | .closing => 3

/-- The tap state's code. -/
def TapState.code : TapState → Nat
  | .unused => 0 | .live => 1 | .releasing => 2

/-- The retune state's code. -/
def Retune.code : Retune → Nat
  | .idle => 0 | .fading _ _ _ _ => 1 | .gliding _ => 2

/-- The retune mode's code (section 4.2). -/
def RetuneMode.code : RetuneMode → Nat
  | .fade => 0 | .glide => 1

/-- The tracker state's code. -/
def TrackerState.code : TrackerState → Nat
  | .idle => 0 | .armed => 1 | .tracking => 2

/-- The checker state's code. -/
def CheckState.code : CheckState → Nat
  | .off => 0 | .seeking => 1 | .locked => 2

/-- The shape's code (section 7.1). -/
def Shape.code : Shape → Nat
  | .triangle => 0 | .sawUp => 1 | .sawDown => 2 | .randomStep => 3 | .randomSmooth => 4

/-- The shape a code names. -/
def Shape.ofCode : Nat → Option Shape
  | 0 => some .triangle | 1 => some .sawUp | 2 => some .sawDown | 3 => some .randomStep | 4 => some .randomSmooth
  | _ => none

/-- The output mode's code (R8). -/
def OutMode.code : OutMode → Nat
  | .ret => 0 | .directFast => 1 | .directAligned => 2 | .fixed => 3 | .mute => 4 | .released => 5 | .pattern => 6

/-- The output mode a code names (R8). -/
def OutMode.ofCode : Nat → Option OutMode
  | 0 => some .ret | 1 => some .directFast | 2 => some .directAligned | 3 => some .fixed | 4 => some .mute
  | 5 => some .released | 6 => some .pattern | _ => none

/-- The flag a byte names: 0 or 1. -/
def flagOf (b : Byte) : Option Bool :=
  if b = 0 then some false else if b = 1 then some true else none

/-- The reject reason's code (R176). -/
def RejectReason.code : RejectReason → Nat
  | .checkBad => 1 | .tooLong => 2 | .truncated => 3 | .queueFull => 4

/-- The probe point's kind code and index (R178, R183). With OFF the index reads 0. -/
def Point.bytes : Point → List Byte
  | .off => [0, 0]
  | .tap t => [1, byteOf t]
  | .line k => [2, byteOf k]
  | .bus b => [3, byteOf b]

/-- The reply status's code (section 10.4). -/
def Status.code : Status → Nat
  | .ok => 0x00 | .okClamped => 0x01 | .staged => 0x02 | .stagedClamped => 0x03 | .waiting => 0x04 | .waitingClamped => 0x05
  | .unknownKind => 0x10 | .badLength => 0x11 | .badIndex => 0x12 | .badValue => 0x13 | .wrongState => 0x14
  | .notStageable => 0x15 | .noLine => 0x20 | .noMemory => 0x21 | .noTap => 0x22 | .slotMismatch => 0x23
  | .overBudget => 0x24 | .listFull => 0x25 | .scheduleFull => 0x26 | .stillFaulted => 0x27 | .notFound => 0x28
  | .notLive => 0x29

/-- The condition code (section 10.5). -/
def Detail.code : Detail → Fin 15
  | .initDone _ => 0 | .stopDone _ => 1 | .halted _ => 2 | .clockLost _ => 3 | .clockBack _ => 4 | .poolWait _ => 5
  | .lineReady _ => 6 | .runawayTrip _ _ => 7 | .probeTrip _ _ => 8 | .actionLate _ _ => 9 | .staleEntries _ => 10
  | .checkLock _ _ => 11 | .memFault _ _ => 12 | .busClip _ => 13 | .linkReject _ => 14

/-- The detail's bytes that are used (section 11.1). -/
def Detail.fields : Detail → List Byte
  | .initDone r => [byteOf r.code]
  | .stopDone c => bytesOf 4 c.toNat
  | .halted r => [byteOf r.code]
  | .clockLost c => bytesOf 4 c.toNat
  | .clockBack c => bytesOf 4 c.toNat
  | .poolWait k => [byteOf k]
  | .lineReady k => [byteOf k]
  | .runawayTrip s l => [byteOf s, byteOf l]
  | .probeTrip p v => p.bytes ++ signedBytes 4 v
  | .actionLate h l => byteOf h :: bytesOf 4 l.toNat
  | .staleEntries n => bytesOf 2 n
  | .checkLock s st => [byteOf s, byteOf st.code]
  | .memFault k p => byteOf k :: bytesOf 4 p
  | .busClip b => [byteOf b]
  | .linkReject r => [byteOf r.code]

/-- The six bytes of a detail, unused bytes 0 (section 11.1). -/
def Detail.bytes (d : Detail) : List Byte := d.fields ++ List.replicate (6 - d.fields.length) 0

/-- A stamp and a detail as COND_GET sends them: 4 and 6 bytes, zeros when absent (R182). -/
def occurrenceBytes : Option Occurrence → List Byte
  | none => List.replicate 10 0
  | some o => bytesOf 4 o.stamp.toNat ++ o.detail.bytes

/-! ## Frames on the wire (R172, R175, R176) -/

/-- The body of a request frame after its length. -/
def Frame.body (f : Frame) : List Byte := f.kind :: f.tag :: f.disposition :: f.payload

/-- The request frame a body spells; a body of a complete frame holds at least three bytes (R173). -/
def Frame.ofBody : List Byte → Option Frame
  | k :: t :: d :: p => some { kind := k, tag := t, disposition := d, payload := p }
  | _ => none

/-- One entry of an ALERT payload: code, stamp, detail (section 10.5). -/
def alertItem (o : Occurrence) : List Byte := byteOf o.detail.code :: occurrenceBytes (some o)

/-- The body of a formed frame after its length (R175, R176). -/
def TxFrame.body : TxFrame → List Byte
  | .reply kind tag status payload => (kind + 0x80) :: tag :: byteOf status.code :: payload
  | .alert items => 0xF0 :: 0 :: byteOf items.length :: items.flatMap alertItem
  | .reject reason => [0xF1, 0, byteOf reason.code]

/-- The check of a frame: the sum of the unescaped bytes it covers, modulo 65,536 (R172). -/
def checkSum (bs : List Byte) : Nat := (bs.map BitVec.toNat).sum % 65536

/-- The unescaped bytes of a frame with the given body: length, body, check (R172). -/
def unescaped (body : List Byte) : List Byte :=
  bytesOf 2 body.length ++ body ++ bytesOf 2 (checkSum (bytesOf 2 body.length ++ body))

/-- An unescaped byte as it is sent (R172). -/
def escapeByte (b : Byte) : List Byte :=
  if b = 0xF5 then [0xF4, 0xE5] else if b = 0xF4 then [0xF4, 0xE4] else [b]

/-- A frame on the wire: marker, escaped bytes, closing marker (R172). -/
def wire (body : List Byte) : List Byte := 0xF5 :: (unescaped body).flatMap escapeByte ++ [0xF5]

/-! ## The catalogue (section 10.4) -/

/-- The request kinds of the catalogue. COMMIT NOW and COMMIT AT are one kind. -/
inductive Kind where
  | status | init | start | stop | halt | resume | reset | timeGet
  | portDrive | portBypass | outmapSet | outmapFill | outmapGet | checkSet | checkRead | checkClear
  | lineOpen | lineSet | lineClose | lineReleaseTag | lineReleaseAll | lineGet | poolGet
  | tapCreate | tapSet | tapFill | tapFree | tapGet
  | modSet | modSync | modGet | tempoSet | beat | tempoGet
  | slotSet | slotClear | slotGet
  | commit | discard | schedCancel | schedGet
  | condEnable | condGet | alertRelease | probeSet | probeGet | countersGet
  deriving DecidableEq, Repr

/-- The kind's code. -/
def Kind.code : Kind → Byte
  | .status => 0x01 | .init => 0x02 | .start => 0x03 | .stop => 0x04 | .halt => 0x05 | .resume => 0x06 | .reset => 0x07
  | .timeGet => 0x08
  | .portDrive => 0x10 | .portBypass => 0x11 | .outmapSet => 0x12 | .outmapFill => 0x13 | .outmapGet => 0x14
  | .checkSet => 0x15 | .checkRead => 0x16 | .checkClear => 0x17
  | .lineOpen => 0x20 | .lineSet => 0x21 | .lineClose => 0x22 | .lineReleaseTag => 0x23 | .lineReleaseAll => 0x24
  | .lineGet => 0x25 | .poolGet => 0x26
  | .tapCreate => 0x30 | .tapSet => 0x31 | .tapFill => 0x32 | .tapFree => 0x33 | .tapGet => 0x34
  | .modSet => 0x40 | .modSync => 0x41 | .modGet => 0x42 | .tempoSet => 0x43 | .beat => 0x44 | .tempoGet => 0x45
  | .slotSet => 0x50 | .slotClear => 0x51 | .slotGet => 0x52
  | .commit => 0x60 | .discard => 0x61 | .schedCancel => 0x62 | .schedGet => 0x63
  | .condEnable => 0x70 | .condGet => 0x71 | .alertRelease => 0x72 | .probeSet => 0x73 | .probeGet => 0x74
  | .countersGet => 0x75

/-- Every kind of the catalogue. -/
def Kind.all : List Kind :=
  [.status, .init, .start, .stop, .halt, .resume, .reset, .timeGet, .portDrive, .portBypass, .outmapSet, .outmapFill,
   .outmapGet, .checkSet, .checkRead, .checkClear, .lineOpen, .lineSet, .lineClose, .lineReleaseTag, .lineReleaseAll, .lineGet,
   .poolGet, .tapCreate, .tapSet, .tapFill, .tapFree, .tapGet, .modSet, .modSync, .modGet, .tempoSet, .beat, .tempoGet,
   .slotSet, .slotClear, .slotGet, .commit, .discard, .schedCancel, .schedGet, .condEnable, .condGet, .alertRelease, .probeSet,
   .probeGet, .countersGet]

/-- The kind a code names, if the catalogue has it. -/
def Kind.ofCode (b : Byte) : Option Kind := Kind.all.find? fun k => k.code = b

/-- The payload length of a kind, in bytes. -/
def Kind.payloadLength : Kind → Nat
  | .init => 2 | .portDrive => 1 | .portBypass => 1 | .outmapSet => 6 | .outmapFill => 8 | .checkSet => 1
  | .lineOpen => 12 | .lineSet => 7 | .lineClose => 1 | .lineReleaseTag => 1 | .lineGet => 1
  | .tapCreate => 17 | .tapSet => 15 | .tapFill => 8 | .tapFree => 1 | .tapGet => 1
  | .modSet => 10 | .modSync => 1 | .modGet => 1 | .tempoSet => 4
  | .slotSet => 7 | .slotClear => 1 | .slotGet => 2 | .commit => 5 | .schedCancel => 1
  | .condEnable => 2 | .probeSet => 6 | .countersGet => 1
  | .status | .start | .stop | .halt | .resume | .reset | .timeGet | .outmapGet | .checkRead | .checkClear
  | .lineReleaseAll | .poolGet | .beat | .tempoGet | .discard | .schedGet | .condGet | .alertRelease | .probeGet => 0

/-- The stageable kinds (R154). -/
def Kind.stageable : Kind → Bool
  | .lineSet | .tapSet | .tapFill | .modSet | .tempoSet | .slotSet | .outmapSet | .outmapFill => true
  | _ => false

/-- The engine states in which a kind is taken (R163). -/
def Kind.takenIn (k : Kind) (e : EngineState) : Bool :=
  match k with
  | .status | .timeGet | .poolGet | .condEnable | .condGet | .alertRelease | .countersGet | .reset => true
  | .init => e == .unconfigured || e == .stopped || e == .halted
  | _ => e.portsOperate

end Sys2Proof.Machine
end

