-- ==== Sys2Proof/Decode.lean ====
section
/-! DEFINITION. Commands from words and from received frames. The opcode table gives no row any bits, so no word spells a
command. A request frame of the receive queue spells the request command of its kind (R175, section 10.4). -/

namespace Sys2Proof

/-- The command that a word spells by the table's bits: no row of spec/opcode_table.json has bits, so none. -/
def decodeTableWord (_nbits _w : Nat) : Option Instr := none

open Machine in
/-- The command of a request of a known kind. COMMIT with the mode byte 1 is COMMIT_AT; any other COMMIT is COMMIT_NOW (R155). -/
def commandOf (k : Kind) (r : Request) : Instr :=
  match k with
  | .status => .status r
  | .init => .init r
  | .start => .start r
  | .stop => .stop r
  | .halt => .halt r
  | .resume => .resume r
  | .reset => .reset r
  | .timeGet => .timeGet r
  | .portDrive => .portDrive r
  | .portBypass => .portBypass r
  | .outmapSet => .outmapSet r
  | .outmapFill => .outmapFill r
  | .outmapGet => .outmapGet r
  | .checkSet => .checkSet r
  | .checkRead => .checkRead r
  | .checkClear => .checkClear r
  | .lineOpen => .lineOpen r
  | .lineSet => .lineSet r
  | .lineClose => .lineClose r
  | .lineReleaseTag => .lineReleaseTag r
  | .lineReleaseAll => .lineReleaseAll r
  | .lineGet => .lineGet r
  | .poolGet => .poolGet r
  | .tapCreate => .tapCreate r
  | .tapSet => .tapSet r
  | .tapFill => .tapFill r
  | .tapFree => .tapFree r
  | .tapGet => .tapGet r
  | .modSet => .modSet r
  | .modSync => .modSync r
  | .modGet => .modGet r
  | .tempoSet => .tempoSet r
  | .beat => .beat r
  | .tempoGet => .tempoGet r
  | .slotSet => .slotSet r
  | .slotClear => .slotClear r
  | .slotGet => .slotGet r
  | .commit => if r.payload.head? = some 1 then .commitAt r else .commitNow r
  | .discard => .discard r
  | .schedCancel => .schedCancel r
  | .schedGet => .schedGet r
  | .condEnable => .condEnable r
  | .condGet => .condGet r
  | .alertRelease => .alertRelease r
  | .probeSet => .probeSet r
  | .probeGet => .probeGet r
  | .countersGet => .countersGet r

/-- The command that takes a received frame (R174, R175). -/
def decodeFrame (f : Machine.Frame) : Instr :=
  let r : Request := { tag := f.tag, disposition := f.disposition, payload := f.payload }
  match Machine.Kind.ofCode f.kind with
  | some k => commandOf k r
  | none => .unknownKindRequest f.kind r

open Machine in
/-- The kind and the request of a request command; none for an event. -/
def kindAndRequest : Instr → Option (Byte × Request)
  | .status r => some (Kind.status.code, r)
  | .init r => some (Kind.init.code, r)
  | .start r => some (Kind.start.code, r)
  | .stop r => some (Kind.stop.code, r)
  | .halt r => some (Kind.halt.code, r)
  | .resume r => some (Kind.resume.code, r)
  | .reset r => some (Kind.reset.code, r)
  | .timeGet r => some (Kind.timeGet.code, r)
  | .portDrive r => some (Kind.portDrive.code, r)
  | .portBypass r => some (Kind.portBypass.code, r)
  | .outmapSet r => some (Kind.outmapSet.code, r)
  | .outmapFill r => some (Kind.outmapFill.code, r)
  | .outmapGet r => some (Kind.outmapGet.code, r)
  | .checkSet r => some (Kind.checkSet.code, r)
  | .checkRead r => some (Kind.checkRead.code, r)
  | .checkClear r => some (Kind.checkClear.code, r)
  | .lineOpen r => some (Kind.lineOpen.code, r)
  | .lineSet r => some (Kind.lineSet.code, r)
  | .lineClose r => some (Kind.lineClose.code, r)
  | .lineReleaseTag r => some (Kind.lineReleaseTag.code, r)
  | .lineReleaseAll r => some (Kind.lineReleaseAll.code, r)
  | .lineGet r => some (Kind.lineGet.code, r)
  | .poolGet r => some (Kind.poolGet.code, r)
  | .tapCreate r => some (Kind.tapCreate.code, r)
  | .tapSet r => some (Kind.tapSet.code, r)
  | .tapFill r => some (Kind.tapFill.code, r)
  | .tapFree r => some (Kind.tapFree.code, r)
  | .tapGet r => some (Kind.tapGet.code, r)
  | .modSet r => some (Kind.modSet.code, r)
  | .modSync r => some (Kind.modSync.code, r)
  | .modGet r => some (Kind.modGet.code, r)
  | .tempoSet r => some (Kind.tempoSet.code, r)
  | .beat r => some (Kind.beat.code, r)
  | .tempoGet r => some (Kind.tempoGet.code, r)
  | .slotSet r => some (Kind.slotSet.code, r)
  | .slotClear r => some (Kind.slotClear.code, r)
  | .slotGet r => some (Kind.slotGet.code, r)
  | .commitNow r => some (Kind.commit.code, r)
  | .commitAt r => some (Kind.commit.code, r)
  | .discard r => some (Kind.discard.code, r)
  | .schedCancel r => some (Kind.schedCancel.code, r)
  | .schedGet r => some (Kind.schedGet.code, r)
  | .condEnable r => some (Kind.condEnable.code, r)
  | .condGet r => some (Kind.condGet.code, r)
  | .alertRelease r => some (Kind.alertRelease.code, r)
  | .probeSet r => some (Kind.probeSet.code, r)
  | .probeGet r => some (Kind.probeGet.code, r)
  | .countersGet r => some (Kind.countersGet.code, r)
  | .unknownKindRequest k r => some (k, r)
  | .resetTake | .powerOnReset | .frameClose _ | .frameTransmitDone | .frameBoundary | .frameComputationComplete _
  | .pageClearComplete | .inputSlotReceived _ _ _ | .rateMeasurementComplete _ | .rateMeasurementLoss | .clockLost
  | .trackerTimeout | .characterReceived _ _ => none

/-- The frame that carries a request command (R175). -/
def encodeFrame (i : Instr) : Option Machine.Frame :=
  (kindAndRequest i).map fun x =>
    { kind := x.1, tag := x.2.tag, disposition := x.2.disposition, payload := x.2.payload }

end Sys2Proof
end

