-- ==== Sys2Proof/Config.lean ====
section
/-! DEFINITION. The free values of the model: choices the manual leaves open. Each is a constant without a body, applied to
the State's choice counter, so that nothing can be proved of any one of them. -/

namespace Sys2Proof.Config

/-- FREE VALUE (notes/assumptions/4.md). R176: "A reply and an ALERT formed at the same moment go out in either order". True:
the ALERT goes first. -/
opaque alertBeforeReply : Nat → Bool

/-- FREE VALUE (notes/assumptions/5.md). R28: which samples of the page in the scrubber an abandoned clear had already zeroed;
the first argument is the choice counter, the second the offset in the page. -/
opaque zeroedBeforeAbandon : Nat → Nat → Bool

end Sys2Proof.Config
end

