-- ==== Sys2Proof/Machine/Arith.lean ====
section
/-! DEFINITION. The integer arithmetic of Chapters 5 to 7. Every divisor below is positive and `/` on `Int` is then floor
division, as R92 asks; the one truncating division is that of R98. -/

namespace Sys2Proof.Machine

/-! ## The sequence step (R15) -/

/-- The bit a step produces: the exclusive-or of bits 14 and 15. -/
def seqBit (r : SeqState) : Bool := xor (r.getLsbD 13) (r.getLsbD 14)

/-- One sequence step: every bit one place older, the produced bit in bit 1. -/
def seqStep (r : SeqState) : SeqState := (r <<< 1) ||| (if seqBit r then 1 else 0)

/-- `n` steps, with the bits produced appended to `w`, the first the most significant. -/
def seqRun : Nat → SeqState → Nat → SeqState × Nat
  | 0, r, w => (r, w)
  | n + 1, r, w => seqRun n (seqStep r) (2 * w + (seqBit r).toNat)

/-- The state after the 24 steps of one frame (R16). -/
def patternState (r : SeqState) : SeqState := (seqRun 24 r 0).1

/-- The pattern word of one frame: the 24 bits produced (R16). -/
def patternWordOf (r : SeqState) : Word24 := BitVec.ofNat 24 (seqRun 24 r 0).2

/-! ## Delay memory (R35, R36, R49) -/

/-- What a sample that the memory does not list reads as: zero with valid check bits. -/
def Stored.blank : Stored := { value := 0, damage := none }

/-- The stored sample at an address. -/
def Memory.read : Memory → Nat → Stored
  | [], _ => Stored.blank
  | (b, x) :: m, a => if b = a then x else Memory.read m a

/-- The memory with one stored sample replaced, in canonical form. -/
def Memory.write : Memory → Nat → Stored → Memory
  | [], a, x => if x = Stored.blank then [] else [(a, x)]
  | (b, y) :: m, a, x =>
    if a < b then (if x = Stored.blank then (b, y) :: m else (a, x) :: (b, y) :: m)
    else if a = b then (if x = Stored.blank then m else (a, x) :: m)
    else (b, y) :: Memory.write m a x

/-- A store writes the value with valid check bits, whatever stood there (R35). -/
def Memory.store (m : Memory) (a : Nat) (v : Int) : Memory := m.write a { value := v, damage := none }

/-- Every sample of a page becomes zero with valid check bits (R28). -/
def Memory.clearPage (m : Memory) (p : Page) : Memory := m.filter fun q => q.1 / 4096 ≠ p.val

/-- The number of samples of delay memory (R23). -/
def memorySize : Nat := 8388608

/-- Damage comes upon one stored sample. An uncorrectable sample stays uncorrectable until it is written (R36). -/
def Memory.strike (m : Memory) (k : Strike) : Memory :=
  if k.address < memorySize ∧ (m.read k.address).damage ≠ some .uncorrectable then
    m.write k.address { value := (m.read k.address).value, damage := some k.damage }
  else m

/-- The canonical form: addresses strictly rising and inside delay memory, no entry equal to what an unlisted one reads as. -/
abbrev Memory.wf (m : Memory) : Prop :=
  m.Pairwise (fun p q => p.1 < q.1) ∧ ∀ p ∈ m, p.1 < memorySize ∧ p.2 ≠ Stored.blank

/-- The address of position `p` of a line: entry p div 4096 of its page list, offset p mod 4096 (R49). -/
def Line.address (l : Line) (p : Nat) : Option Nat :=
  (l.pages[p / 4096]?).map fun g => g.val * 4096 + p % 4096

/-- The position of the sample at delay `k`: (w − k) mod L (R49). -/
def Line.positionAt (l : Line) (k : Nat) : Nat := (((l.w : Int) - k) % l.length).toNat

/-- The value a read yields, and the read faults it reports as line index and position (R36, R37). -/
structure Reading where
  value  : Int
  faults : List (LineIx × Nat)
  deriving DecidableEq, Repr

/-- The sample of line `k` at delay `d` (R36, R49). A position that the page list does not map cannot arise (R24). -/
def readSample (m : Memory) (k : LineIx) (l : Line) (d : Nat) : Reading :=
  match l.address (l.positionAt d) with
  | none => { value := 0, faults := [] }
  | some a =>
    if (m.read a).damage = some .uncorrectable then { value := 0, faults := [(k, l.positionAt d)] }
    else { value := (m.read a).value, faults := [] }

/-! ## Taps (R94 to R99) -/

/-- The interpolation of R95 between the samples at delays D and D + 1. -/
def interpolate (a b : Int) (f : Nat) : Int := a + ((b - a) * f + 128) / 256

/-- The mix of a fading tap (R96). -/
def fadeMix (va vb : Int) (k F : Nat) : Int := va + ((vb - va) * k + (F / 2 : Nat)) / F

/-- The offset of a tap (R94): floor(δ × T / 32,768). -/
def modOffset (depth : Nat) (T : Int) : Int := depth * T / 32768

/-- The greatest delay in the range of a line of length L, (L−1) × 256 (R66). -/
def rangeTop (length : Nat) : Nat := (length - 1) * 256

/-- A read position: base plus offset, clamped to the range of the source line (R94). -/
def readPosition (length base : Nat) (offset : Int) : Nat := (clampInt 256 (rangeTop length) (base + offset)).toNat

/-- Whether R94 clamps the read position. -/
def readClamped (length base : Nat) (offset : Int) : Bool :=
  decide (clampInt 256 (rangeTop length) (base + offset) ≠ base + offset)

/-- The interpolated read at a read position (R95). DESIGN CHOICE (notes/assumptions/30.md): a fault at delay D is reported before one at
delay D + 1. -/
def interpolatedRead (m : Memory) (k : LineIx) (l : Line) (q : Nat) : Reading :=
  let a := readSample m k l (q / 256)
  let b := readSample m k l (q / 256 + 1)
  { value := interpolate a.value b.value (q % 256), faults := a.faults ++ b.faults }

/-- The effective gain of a bus tap (R97). -/
def busGain (gain : Int) (level fade : Nat) : Int := (gain * level * fade + 2097152) / 4194304

/-- The feedback gain of a line tap (R98): truncated toward zero. -/
def feedbackGain (gain : Int) (runaway : Nat) : Int := Int.tdiv gain (2 ^ runaway)

/-- A contribution (R99), and the send contribution of R100. -/
def scaled (sample gain : Int) : Int := (sample * gain + 8192) / 16384

/-- The stored value of R101. -/
def damp (v previous : Int) (d : Nat) : Int := v - ((v - previous) * d + 32768) / 65536

/-! ## Targets and retunes (R74, R108 to R116) -/

/-- The target of a delay spec before clamping (R74). -/
def rawTarget (spec : DelaySpec) (tempo : Nat) : Nat :=
  match spec with
  | .fixed v => v
  | .tempo num den => tempo * 256 * num / den

/-- The target of a delay spec, clamped to the range of a line of the given length (R74). -/
def targetFor (spec : DelaySpec) (tempo length : Nat) : Nat := clampNat 256 (rangeTop length) (rawTarget spec tempo)

/-- Whether R74 clamps the target. -/
def targetClamped (spec : DelaySpec) (tempo length : Nat) : Bool :=
  decide (targetFor spec tempo length ≠ rawTarget spec tempo)

/-- The effective destination (R108). -/
def Tap.effectiveDestination (t : Tap) : Nat :=
  match t.retune with
  | .fading _ _ _ (some p) => p
  | .fading n _ _ none => n
  | _ => t.target

/-- The distance between two delays. -/
def delayDistance (a b : Nat) : Nat := max a b - min a b

/-- The glide step of R110 and R112: max(1, distance div G). -/
def glideStep (target position length : Nat) : Nat := max 1 (delayDistance target position / length)

/-- A retune starts from the tap's position toward `target`, in its mode and with its length (R110, R114). -/
def Tap.startRetune (target : Nat) (t : Tap) : Tap :=
  match t.retuneMode with
  | .fade => { t with target := target, retune := .fading target 0 t.retuneLength none }
  | .glide => { t with target := target, retune := .gliding (glideStep target t.position t.retuneLength) }

/-- What handing a new target to a tap does, besides its fields: nothing, a start, a superseded target, or another change. -/
inductive Retarget where
  | same | started | superseded | changed
  deriving DecidableEq, Repr

/-- A new target is handed to a tap (R109 to R112). -/
def Tap.retarget (target : Nat) (t : Tap) : Tap × Retarget :=
  if target = t.effectiveDestination then (t, .same)
  else
    match t.retune with
    | .idle => (t.startRetune target, .started)
    | .fading n k F pending =>
      if target = n then ({ t with target := n, retune := .fading n k F none }, .changed)
      else
        ({ t with target := target, retune := .fading n k F (some target) },
          if pending.isSome then .superseded else .changed)
    | .gliding _ =>
      if target = t.position then ({ t with target := t.position, retune := .idle }, .changed)
      else ({ t with target := target, retune := .gliding (glideStep target t.position t.retuneLength) }, .changed)

/-- The retune advance of one frame computation (R113, R114, R116), and whether it started a retune (R124). -/
def Tap.advanceRetune (t : Tap) : Tap × Bool :=
  match t.retune with
  | .idle => (t, false)
  | .fading n k F pending =>
    if k + 1 < F then ({ t with retune := .fading n (k + 1) F pending }, false)
    else
      match pending with
      | none => ({ t with position := n, retune := .idle }, false)
      | some p => (({ t with position := n, retune := .idle } : Tap).startRetune p, true)
  | .gliding step =>
    let position := (approach step t.position t.target).toNat
    if position = t.target then ({ t with position := position, retune := .idle }, false)
    else ({ t with position := position }, false)

/-! ## Modulators (R127, R128, R130) -/

/-- The value T of a modulator (R127). -/
def Modulator.value (m : Modulator) : Int :=
  let u : Int := (m.phase / 65536 : Nat)
  match m.shape with
  | .triangle => if u < 32768 then 2 * u - 32768 else 98303 - 2 * u
  | .sawUp => u - 32768
  | .sawDown => 32767 - u
  | .randomStep => m.randomCurrent
  | .randomSmooth => m.randomPrevious + (m.randomCurrent - m.randomPrevious) * u / 65536

/-- Fifteen sequence steps, as a cycle wrap makes (R128). -/
def cycleRandom (r : SeqState) : SeqState := (seqRun 15 r 0).1

/-- The phase advance of one frame computation, with the cycle wrap when the addition wraps (R128). `increment` and `phase` are
those of the view. -/
def Modulator.advance (increment phase : Nat) (m : Modulator) : Modulator :=
  if phase + increment < 2 ^ 32 then { m with phase := phase + increment }
  else
    { m with
      phase := (phase + increment) % 2 ^ 32
      randomPrevious := m.randomCurrent
      random := cycleRandom m.random
      randomCurrent := 2 * ((cycleRandom m.random).toNat : Int) - 32768 }

/-- The increment of a tempo lock (R130). -/
def lockIncrement (tempo : Nat) (l : Lock) : Nat := min 2097151 (2 ^ 32 * l.den / (tempo * l.num))

end Sys2Proof.Machine
end

