-- ==== Sys2Proof/Machine/Flags.lean ====
section
/-! DEFINITION. The status flags of the part: the condition records, the alert latch and the ALERT frames (R179, R180). -/

namespace Sys2Proof.Machine

/-- A formed frame joins the tail of the transmit queue (R176). -/
def State.send (f : TxFrame) (s : State) : State :=
  { s with link := { s.link with tx := s.link.tx ++ [f] } }

/-- What raising a condition does to its record (R179). -/
def Condition.record (o : Occurrence) (c : Condition) : Condition :=
  if c.reported then { c with again := true, latest := some o }
  else if c.pending then { c with latest := some o }
  else { c with pending := true, first := some o, latest := some o }

/-- A condition is raised with the given frame stamp; the alert test is not made yet (R179). -/
def State.post (stamp : Word32) (d : Detail) (s : State) : State :=
  { s with cu := { s.cu with conditions := updateAt s.cu.conditions d.code (Condition.record { stamp := stamp, detail := d }) } }

/-- Enabled, pending and not reported (R180). -/
def Condition.announceable (c : Condition) : Bool := c.enabled && c.pending && !c.reported

/-- The first details of the announceable conditions, in ascending code order (R180). -/
def CondUnit.announcements (u : CondUnit) : List Occurrence :=
  (u.conditions.toList.filter Condition.announceable).filterMap Condition.first

/-- A condition once the ALERT that lists it is formed (R180). -/
def Condition.announce (c : Condition) : Condition :=
  if c.announceable then { c with reported := true } else c

/-- The alert test (R180): with the latch clear and a condition announceable, one ALERT frame is formed and the latch set. -/
def State.alertTest (s : State) : State :=
  if s.cu.latch || !(s.cu.conditions.toList.any Condition.announceable) then s
  else
    let t : State := { s with cu := { s.cu with conditions := mapIx (fun _ c => c.announce) s.cu.conditions, latch := true } }
    t.send (.alert s.cu.announcements)

/-- A single condition is raised with the given frame stamp: its record is written and the alert test follows at once (R179). -/
def State.raiseAt (stamp : Word32) (d : Detail) (s : State) : State := (s.post stamp d).alertTest

/-- A condition is raised by an event other than a frame computation: its stamp is the frame counter (R179). -/
def State.raise (d : Detail) (s : State) : State := s.raiseAt s.ec.counter d

/-- What ALERT_RELEASE does to one record (R181). -/
def Condition.release (c : Condition) : Condition :=
  if c.reported then
    if c.again then { c with reported := false, again := false, first := c.latest }
    else { c with pending := false, reported := false }
  else c

/-- The flags byte of COND_GET (R182). -/
def Condition.flags (c : Condition) : Nat :=
  c.enabled.toNat + 2 * c.pending.toNat + 4 * c.reported.toNat + 8 * c.again.toNat

/-- One condition record as COND_GET sends it: 21 bytes (R182). -/
def Condition.bytes (c : Condition) : List Byte :=
  byteOf c.flags :: occurrenceBytes c.first ++ occurrenceBytes c.latest

end Sys2Proof.Machine
end

