-- ==== Sys2Proof/Machine/Ops.lean ====
section
/-! DEFINITION. The shared operations on State: the tables, the marks of what was written since the boundary, the budget ledger,
the page pool, the life of lines and taps, retunes and tempo, halts, and the taking and answering of a request. -/

namespace Sys2Proof.Machine

/-! ## Records and marks -/

/-- One line record changed. -/
def State.mapLine (k : LineIx) (f : Line → Line) (s : State) : State :=
  { s with dmc := { s.dmc with lines := updateAt s.dmc.lines k f } }

/-- One tap record changed. -/
def State.mapTap (t : TapIx) (f : Tap → Tap) (s : State) : State := { s with taps := updateAt s.taps t f }

/-- One modulator record changed. -/
def State.mapMod (m : ModIx) (f : Modulator → Modulator) (s : State) : State :=
  { s with mu := { s.mu with mods := updateAt s.mu.mods m f } }

/-- One slot record changed. -/
def State.mapSlot (i : SlotIx) (f : Slot → Slot) (s : State) : State :=
  { s with sru := { s.sru with slots := updateAt s.sru.slots i f } }

/-- The counters of one slot changed (R152). -/
def State.countSlot (i : SlotIx) (f : SlotCounters → SlotCounters) (s : State) : State :=
  s.mapSlot i fun r => { r with counters := f r.counters }

/-- 1 is added to a slot's delay clamps when a target was clamped (R74). -/
def State.countDelayClamp (i : SlotIx) (clamped : Bool) (s : State) : State :=
  if clamped then s.countSlot i fun c => { c with delayClamps := c.delayClamps + 1 } else s

/-- The marks of the computation in progress changed; without one there is nothing to mark (R104). -/
def State.note (f : Written → Written) (s : State) : State :=
  { s with fe := { s.fe with computation := s.fe.computation.map fun c => { c with written := f c.written } } }

/-- The tap has left its life since the boundary (R104). -/
def Written.leaveTap (t : TapIx) (w : Written) : Written := { w with tapLeft := w.tapLeft.set t true }

/-- A trigger wrote the tap's retune fields since the boundary (R120). -/
def Written.retuneTap (t : TapIx) (w : Written) : Written := { w with tapRetune := w.tapRetune.set t true }

/-- The line has left its life since the boundary (R91, R104). -/
def Written.leaveLine (k : LineIx) (w : Written) : Written := { w with lineLeft := w.lineLeft.set k true }

/-- The modulator's phase was set since the boundary (R142). -/
def Written.setPhase (m : ModIx) (w : Written) : Written := { w with modPhase := w.modPhase.set m true }

/-- The beat phase was set since the boundary (R142). -/
def Written.setBeatPhase (w : Written) : Written := { w with beatPhase := true }

/-- The master fade was set since the boundary (R104). -/
def Written.setFade (w : Written) : Written := { w with fade := true }

/-- The runaway windows were begun since the boundary (R104, R148). -/
def Written.setWindows (w : Written) : Written := { w with windows := true }

/-- The probe was set since the boundary (R184). -/
def Written.setProbe (w : Written) : Written := { w with probe := true }

/-! ## The budget ledger (R105) -/

/-- Whether the ledger has `n` free units below the capacity (R43, R71). -/
def State.budgetAdmits (n : Nat) (s : State) : Bool := decide (s.ec.budgetUsed + n ≤ s.ec.capacity)

/-- `n` units are charged. -/
def State.charge (n : Nat) (s : State) : State := { s with ec := { s.ec with budgetUsed := s.ec.budgetUsed + n } }

/-- `n` units return. -/
def State.refund (n : Nat) (s : State) : State := { s with ec := { s.ec with budgetUsed := s.ec.budgetUsed - n } }

/-! ## The page pool (Chapter 2) -/

/-- The pages that no line holds (R24). -/
def Dmc.unowned (d : Dmc) : Nat := d.clean.length + d.dirty.length + d.scrubber.toList.length

/-- The pages that ACTIVE and CLOSING lines hold (R24). -/
def Dmc.owned (d : Dmc) : Nat := (d.lines.toList.map fun l => l.pages.length).sum

/-- The pages promised to WAITING lines (R45). -/
def Dmc.promised (d : Dmc) : Nat :=
  ((d.lines.toList.filter fun l => l.state = .waiting).map fun l => l.pageCount).sum

/-- The scrubber starts a page clear when it is IDLE, a page is dirty and the engine is in a state in which it runs (R27). -/
def State.startScrub (s : State) : State :=
  match s.dmc.scrubber, s.dmc.dirty with
  | none, p :: rest =>
    if s.ec.engine.scrubs then { s with dmc := { s.dmc with scrubber := some p, dirty := rest } } else s
  | _, _ => s

/-- What a clear in progress leaves in memory when it is abandoned (R28): a part of the page zeroed, which part is free. -/
def State.abandonedMemory (s : State) : Memory :=
  match s.dmc.scrubber with
  | none => s.dmc.memory
  | some p => s.dmc.memory.filter fun q => !(q.1 / 4096 == p.val && Config.zeroedBeforeAbandon s.choices (q.1 % 4096))

/-! ## The life of lines (Chapter 3) -/

/-- A line at the moment it becomes ACTIVE with its pages (R46, R48). -/
def Line.activate (pages : List Page) (l : Line) : Line :=
  { l with state := .active, pages := pages, w := 0, dampMem := 0, sendGain := 0 }

/-- The line takes the first P pages of the clean pool and becomes ACTIVE (R25). -/
def State.activateLine (k : LineIx) (s : State) : State :=
  let P := s.dmc.lines[k].pageCount
  let s1 := s.mapLine k (Line.activate (s.dmc.clean.take P))
  { s1 with dmc := { s1.dmc with clean := s.dmc.clean.drop P } }

/-- Wait-list service, examining at most `fuel` heads (R48). -/
def serveUpTo : Nat → State → State
  | 0, s => s
  | fuel + 1, s =>
    match s.dmc.waitList with
    | [] => s
    | k :: rest =>
      if s.dmc.lines[k].pageCount ≤ s.dmc.clean.length then
        let s1 : State := { s with dmc := { s.dmc with waitList := rest } }
        serveUpTo fuel ((s1.activateLine k).raise (.lineReady k))
      else s

/-- Wait-list service (R48). It examines each waiting line at most once. -/
def State.serveWaitList (s : State) : State := serveUpTo s.dmc.waitList.length s

/-- The line becomes FREE with its free values and its 2 units return (R39, R43). -/
def State.freeLine (k : LineIx) (s : State) : State :=
  ((s.mapLine k fun _ => Line.freeValue).refund 2).note (Written.leaveLine k)

/-- A CLOSING line whose reference count is 0 (R60). -/
def Line.closeIsDone (l : Line) : Bool := decide (l.state = .closing ∧ l.refs = 0)

/-- The close of one line completes, if it is due: its pages join the dirty queue in page-list order and it becomes FREE (R60). -/
def State.completeClose (k : LineIx) (s : State) : State :=
  if s.dmc.lines[k].closeIsDone then
    let s1 : State := { s with dmc := { s.dmc with dirty := s.dmc.dirty ++ s.dmc.lines[k].pages } }
    s1.freeLine k
  else s

/-- Every close that is due completes, in ascending order of line index, and the scrubber starts if it was IDLE (R60, R61). -/
def State.completeCloses (s : State) : State :=
  ((List.finRange 64).foldl (fun s k => s.completeClose k) s).startScrub

/-- Whether the tap's source or destination is the line (R55). -/
def Tap.references (k : LineIx) (t : Tap) : Bool := decide (t.source = k ∨ t.dest = .line k)

/-- The lines of a tap, each once (R55). -/
def Tap.lines (t : Tap) : List LineIx :=
  match t.dest with
  | .line k => if k = t.source then [t.source] else [t.source, k]
  | .bus _ => [t.source]

/-- A tap is asked to release: LIVE becomes RELEASING with gain target 0 (R57, R83). -/
def Tap.release (t : Tap) : Tap :=
  if t.state = .live then { t with state := .releasing, gainTarget := 0 } else t

/-- Every tap that references the line is released (R57). -/
def State.releaseTapsOf (k : LineIx) (s : State) : State :=
  { s with taps := mapIx (fun _ t => if t.references k then t.release else t) s.taps }

/-- A tap becomes UNUSED: its free values, its 4 units returned, its lines' reference counts lowered (R85, R86). -/
def State.removeTap (t : TapIx) (s : State) : State :=
  let lowered := s.taps[t].lines.foldl (fun s k => s.mapLine k fun l => { l with refs := l.refs - 1 }) s
  ((lowered.mapTap t fun _ => Tap.freeValue).refund 4).note (Written.leaveTap t)

/-- One tap becomes UNUSED at once if it references the line and is not UNUSED (R58, R86). -/
def State.removeTapOf (k : LineIx) (s : State) (t : TapIx) : State :=
  if s.taps[t].state ≠ .unused ∧ s.taps[t].references k then s.removeTap t else s

/-- Every tap that references the line and is not UNUSED becomes UNUSED at once (R58, R86). -/
def State.removeTapsOf (k : LineIx) (s : State) : State := (List.finRange 256).foldl (State.removeTapOf k) s

/-- A WAITING line leaves the wait list, its taps become UNUSED and it becomes FREE (R58, steps 1 to 3). -/
def State.dropWaiting (k : LineIx) (s : State) : State :=
  let s1 : State := { s with dmc := { s.dmc with waitList := s.dmc.waitList.filter (· ≠ k) } }
  (s1.removeTapsOf k).freeLine k

/-- An ACTIVE line has its taps released and becomes CLOSING (R59). -/
def State.beginClose (k : LineIx) (s : State) : State :=
  (s.releaseTapsOf k).mapLine k fun l => { l with state := .closing }

/-- Closing a WAITING line (R58). -/
def State.closeWaiting (k : LineIx) (s : State) : State := (s.dropWaiting k).completeCloses.serveWaitList

/-- Closing an ACTIVE line (R59, R60). -/
def State.closeActive (k : LineIx) (s : State) : State := (s.beginClose k).completeCloses

/-- The lines a group close reports as closed: those of its set that are WAITING or ACTIVE (R61). -/
def State.closedBy (p : Line → Bool) (s : State) : List LineIx :=
  (List.finRange 64).filter fun k =>
    p s.dmc.lines[k] && (s.dmc.lines[k].state == .waiting || s.dmc.lines[k].state == .active)

/-- Closing a set of lines together (R61). -/
def State.groupClose (p : Line → Bool) (s : State) : State :=
  let set := s.closedBy p
  let waiting := set.filter fun k => s.dmc.lines[k].state = .waiting
  let active := set.filter fun k => s.dmc.lines[k].state = .active
  let s1 := waiting.foldl (fun s k => s.dropWaiting k) s
  let s2 := active.foldl (fun s k => s.beginClose k) s1
  s2.completeCloses.serveWaitList

/-! ## Retunes and tempo (Chapters 6 and 7) -/

/-- A new target is handed to a tap, with the counters of R124 and the mark of R120. -/
def State.handTarget (t : TapIx) (target : Nat) (s : State) : State :=
  let tap := s.taps[t]
  match (tap.retarget target).2 with
  | .same => s
  | .started =>
    ((s.mapTap t fun x => (x.retarget target).1).countSlot tap.slot fun c => { c with started := c.started + 1 }).note
      (Written.retuneTap t)
  | .superseded =>
    ((s.mapTap t fun x => (x.retarget target).1).countSlot tap.slot fun c => { c with superseded := c.superseded + 1 }).note
      (Written.retuneTap t)
  | .changed => (s.mapTap t fun x => (x.retarget target).1).note (Written.retuneTap t)

/-- The tap's spec forms a target, clamped and counted, which is handed to retuning (R74). -/
def State.formTarget (t : TapIx) (s : State) : State :=
  let tap := s.taps[t]
  let length := s.dmc.lines[tap.source].length
  (s.countDelayClamp tap.slot (targetClamped tap.spec s.mu.tempo length)).handTarget t
    (targetFor tap.spec s.mu.tempo length)

/-- A LIVE tap whose delay spec is TEMPO (R74). -/
def Tap.followsTempo (t : Tap) : Bool :=
  match t.state, t.spec with
  | .live, .tempo _ _ => true
  | _, _ => false

/-- One tap has its target formed anew from B, if it follows the tempo (R74). -/
def State.followTempo (s : State) (t : TapIx) : State := if s.taps[t].followsTempo then s.formTarget t else s

/-- B takes a value; a different one retargets the TEMPO taps, forms the locked increments and resets an overlong beat phase
(R135). -/
def State.setTempo (b : Nat) (s : State) : State :=
  if b = s.mu.tempo then s
  else
    let s1 : State :=
      { s with mu := { s.mu with
          tempo := b
          mods := mapIx (fun _ m => match m.lock with
            | some l => { m with increment := lockIncrement b l }
            | none => m) s.mu.mods } }
    let s2 := (List.finRange 256).foldl State.followTempo s1
    if b ≤ s2.mu.beatPhase then
      ({ s2 with mu := { s2.mu with beatPhase := 0 } } : State).note Written.setBeatPhase
    else s2

/-- A beat occurs: every beat-synced modulator's phase becomes 0 without a cycle wrap (R137). -/
def State.beatOccurs (s : State) : State :=
  ({ s with mu := { s.mu with mods := mapIx (fun _ m => if m.beatSync then { m with phase := 0 } else m) s.mu.mods } } : State).note
    fun w => { w with modPhase := mapIx (fun i x => x || s.mu.mods[i].beatSync) w.modPhase }

/-- A mark sets the beat phase to 0 with a beat (R138, R139). -/
def State.markBeat (s : State) : State :=
  (({ s with mu := { s.mu with beatPhase := 0 } } : State).note Written.setBeatPhase).beatOccurs

/-! ## Engine (Chapter 9) -/

/-- Whether a reason is in the set (R167). -/
def HaltReasons.has (r : HaltReasons) : HaltReason → Bool
  | .host => r.host
  | .rate => r.rate
  | .memory => r.memory

/-- A reason added to the set (R167). -/
def HaltReasons.add (r : HaltReasons) : HaltReason → HaltReasons
  | .host => { r with host := true }
  | .rate => { r with rate := true }
  | .memory => { r with memory := true }

/-- A halt cause arises; HALTED is raised with the given stamp where R167 says so. -/
def State.haltCause (stamp : Word32) (why : HaltReason) (s : State) : State :=
  let reasons := s.ec.reasons.add why
  match s.ec.engine with
  | .running | .stopping =>
    ({ s with ec := { s.ec with
        engine := .halted, reasons := reasons, clockAbsent := false, clockTimer := false } } : State).raiseAt stamp (.halted reasons)
  | .halted =>
    if s.ec.reasons.has why then s
    else ({ s with ec := { s.ec with reasons := reasons } } : State).raiseAt stamp (.halted reasons)
  | _ => s

/-- M is set by a request or by the return of the clock, with its goal (R165, R168, R170). -/
def State.setFade (fade goal : Nat) (s : State) : State :=
  ({ s with ec := { s.ec with fade := fade, goal := goal } } : State).note Written.setFade

/-! ## The output of the return port (R8, R9) -/

/-- What an output slot carries by its mode (R8). -/
def Port.modeOutput (p : Port) (e : MapEntry) : Option Int :=
  match e.mode with
  | .ret => some ((index 16 e.source.toNat).elim 0 fun b => p.transmit[b])
  | .directFast => some (p.previous.getD e.source.toNat 0)
  | .directAligned => some (p.before.getD e.source.toNat 0)
  | .fixed => some e.source
  | .mute => some 0
  | .released => none
  | .pattern => some p.patternWord.toInt

/-- What output slot t carries in the present frame: the tests of R9 in order. -/
def Port.output (p : Port) (t : Nat) (e : MapEntry) : Option Int :=
  if !p.latch.engine.portsOperate then none
  else if !p.latch.drive then none
  else if e.mode = .released then none
  else if p.latch.bypass || (p.latch.engine == .halted && p.latch.haltAction == .bypass) then some (p.previous.getD t 0)
  else if p.latch.engine == .halted && p.latch.haltAction == .mute && e.mode == .ret then some 0
  else if p.latch.engine == .stopped && e.mode == .ret then some 0
  else p.modeOutput e

/-- The return data output of the present frame, output slot 0 to S−1, each driven slot in its 32 bit periods (R1, R9). -/
def Port.formReturn (S : Nat) (p : Port) : Port :=
  { p with returnSlots := (p.inUse.toList.take S).zipIdx.map fun x => (p.output x.2 x.1).map slotWord }

/-! ## Reset and INIT -/

/-- A reset by the pin or by the RESET request: every block at its reset values; delay memory keeps its contents (R32), and an
abandoned clear draws a free value (R28). -/
def State.resetBlocks (s : State) : State :=
  { State.reset with
    dmc := Dmc.resetValue s.abandonedMemory
    choices := s.choices + s.dmc.scrubber.toList.length
    pending := s.pending }

/-- What INIT does at once (R164): every block at its INIT values for the rate, every page dirty and the scrub begun. The drive
and bypass flags, the frame's latch, the condition records, the latch of the CU and the link stand as they were. -/
def State.initBlocks (rate : Rate) (action : HaltAction) (s : State) : State :=
  let zeros := List.replicate rate.timeSlots (0 : Int)
  let port : Port :=
    { Port.resetValue with
      receive := zeros, previous := zeros, before := zeros
      drive := s.port.drive, bypass := s.port.bypass, latch := s.port.latch }
  ({ s with
      ec := { Engine.resetValue with engine := .initializing, rate := some rate, haltAction := action }
      port := port.formReturn rate.timeSlots
      dmc := Dmc.resetValue s.abandonedMemory
      taps := Vector.replicate 256 Tap.freeValue
      mu := ModUnit.resetValue (rate.fs / 2)
      fe := FrameEngine.resetValue
      sru := Sru.resetValue
      cu := { s.cu with probe := Probe.resetValue, counters := Counters.zero }
      choices := s.choices + s.dmc.scrubber.toList.length } : State).startScrub

/-! ## Taking and answering a request (R174, R175) -/

/-- What the owner of a request decides: a refusal, or the state with the request's changes, a success status and the payload of
the reply. -/
inductive Verdict where
  | refuse (status : Status)
  | done (s : State) (status : Status) (payload : List Byte)

/-- A formed frame that is the reply to a taken RESET (R177). -/
def TxFrame.isResetReply : TxFrame → Bool
  | .reply kind _ status _ => kind == Kind.reset.code && status == .ok
  | _ => false

/-- Whether a RESET reply waits to be sent, or has been sent and the reset is due: the CLU then takes no request (R177). -/
def Link.resetWaits (l : Link) : Bool := l.resetSent || l.tx.any TxFrame.isResetReply

/-- The CLU takes a request (R174): the head of the receive queue, or a request that reaches an empty queue. `none` where the
request cannot be taken now. -/
def State.takeFrame (f : Frame) (s : State) : Option State :=
  if s.link.resetWaits then none
  else
    match s.link.rx with
    | [] => some s
    | g :: rest => if g = f then some { s with link := { s.link with rx := rest } } else none

/-- The reply joins the transmit queue. Of a reply and an ALERT formed by the same request either may go first (R176). -/
def State.placeReply (f : TxFrame) (before after : State) : State :=
  let formed := after.link.tx.drop before.link.tx.length
  if formed.isEmpty then after.send f
  else
    { after with
      link := { after.link with
        tx := if Config.alertBeforeReply after.choices then after.link.tx ++ [f] else before.link.tx ++ f :: formed }
      choices := after.choices + 1 }

/-- The verdict on a taken request becomes its one reply (R175). -/
def State.conclude (kind tag : Byte) (s : State) : Verdict → State
  | .refuse status => s.send (.reply kind tag status [])
  | .done t status payload => State.placeReply (.reply kind tag status payload) s t

/-- The tests 2 to 6 of R175 on a request of a known kind; the owner is told whether the request is staged. -/
def judge (k : Kind) (r : Request) (owner : Bool → List Byte → State → Verdict) (s : State) : Verdict :=
  if r.disposition ≠ 0 ∧ r.disposition ≠ 1 then .refuse .badValue
  else if r.disposition = 1 ∧ k.stageable = false then .refuse .notStageable
  else if k.takenIn s.ec.engine = false then .refuse .wrongState
  else if r.payload.length ≠ k.payloadLength then .refuse .badLength
  else owner (r.disposition == 1) r.payload s

/-- The frame that carries a request of a kind. -/
def requestFrame (kind : Byte) (r : Request) : Frame :=
  { kind := kind, tag := r.tag, disposition := r.disposition, payload := r.payload }

/-- A request of a known kind is taken, judged and answered. One that cannot be taken now changes nothing. -/
def State.take (k : Kind) (r : Request) (owner : Bool → List Byte → State → Verdict) (s : State) : State :=
  match s.takeFrame (requestFrame k.code r) with
  | none => s
  | some s1 => s1.conclude k.code r.tag (judge k r owner s1)

/-! ## Staging (R154) -/

/-- The number of entries of the pool that a list holds (R153). -/
def Sru.heldEntries (u : Sru) : Nat :=
  u.staging.length + u.dueNow.length + (u.queue.map fun a => a.entries.length).sum

/-- The number of free entries of the pool (R153). -/
def Sru.freeEntries (u : Sru) : Nat := 256 - u.heldEntries

/-- An entry joins the tail of the staging list, if the pool has one (R154, steps 4 and 5). -/
def stageEntry (e : Entry) (clamped : Bool) (s : State) : Verdict :=
  if s.sru.freeEntries = 0 then .refuse .listFull
  else .done { s with sru := { s.sru with staging := s.sru.staging ++ [e] } } (if clamped then .stagedClamped else .staged) []

/-- OK, or OK_CLAMPED when a value was clamped. -/
def okStatus (clamped : Bool) : Status := if clamped then .okClamped else .ok

end Sys2Proof.Machine
end

