-- ==== Sys2Proof/Machine/ControlLink.lean ====
section
/-! DEFINITION. The control link: the receiver, the judging of frames, the queues (Chapter 10). -/

namespace Sys2Proof.Machine

/-- A frame that is a REJECT (R176). -/
def TxFrame.isReject : TxFrame → Bool
  | .reject _ => true
  | _ => false

/-- A received frame is rejected (R173): a REJECT frame, unless four wait (R176), the link-reject counter and LINK_REJECT. DESIGN CHOICE:
the REJECT frame goes before an ALERT that LINK_REJECT forms (notes/assumptions/27.md). -/
def State.rejectFrame (why : RejectReason) (s : State) : State :=
  let s1 := if (s.link.tx.filter TxFrame.isReject).length < 4 then s.send (.reject why) else s
  ({ s1 with cu := { s1.cu with counters := { s1.cu.counters with linkRejects := s1.cu.counters.linkRejects + 1 } } } : State).raise
    (.linkReject why)

/-- The receiver takes a state. -/
def State.setReceiver (r : Receiver) (s : State) : State := { s with link := { s.link with receiver := r } }

/-- A complete frame is offered to the receive queue (R174). -/
def State.enqueue (f : Frame) (s : State) : State :=
  if s.link.rx.length < 4 then { s with link := { s.link with rx := s.link.rx ++ [f] } }
  else s.rejectFrame .queueFull

/-- The length that the first two gathered bytes give (R172). -/
def claimedLength (bytes : List Byte) : Nat := natOf (bytes.take 2)

/-- An unescaped byte is gathered: the tests 1 to 3 of R173 that do not wait for the close. -/
def State.gather (bytes : List Byte) (damaged : Bool) (b : Byte) (s : State) : State :=
  let now := bytes ++ [b]
  if now.length = 2 ∧ 1027 < claimedLength now then (s.setReceiver .hunt).rejectFrame .tooLong
  else if now.length = 2 ∧ claimedLength now < 3 then (s.setReceiver .hunt).rejectFrame .truncated
  else if 2 < now.length ∧ 2 + claimedLength now + 2 < now.length then (s.setReceiver .hunt).rejectFrame .tooLong
  else s.setReceiver (.collect now false damaged)

/-- The frame that gathered bytes spell when they are complete and their check is right (R173). -/
def completeFrame (bytes : List Byte) : Option Frame :=
  let covered := bytes.take (bytes.length - 2)
  if natOf (bytes.drop (bytes.length - 2)) = checkSum covered then Frame.ofBody (covered.drop 2) else none

/-- The frame in progress closes at a marker and is judged (R172, R173); the marker opens the next frame. -/
def State.closeFrame (bytes : List Byte) (escape damaged : Bool) (s : State) : State :=
  let s1 := s.setReceiver (.collect [] false false)
  if bytes = [] then s1
  else if escape = true ∨ bytes.length < 2 ∨ bytes.length < 2 + claimedLength bytes + 2 then s1.rejectFrame .truncated
  else if damaged then s1.rejectFrame .checkBad
  else
    match completeFrame bytes with
    | none => s1.rejectFrame .checkBad
    | some f => s1.enqueue f

/-- A character arrives on the receive input (R172). -/
def State.receiveCharacter (c : Byte) (stopLow : Bool) (s : State) : State :=
  match s.link.receiver with
  | .hunt => if c = 0xF5 ∧ stopLow = false then s.setReceiver (.collect [] false false) else s
  | .collect bytes escape damaged0 =>
    let damaged := damaged0 || stopLow
    if c = 0xF5 then s.closeFrame bytes escape damaged
    else if c = 0xF4 then s.setReceiver (.collect bytes true damaged)
    else if escape then
      if c = 0xE5 then s.gather bytes damaged 0xF5
      else if c = 0xE4 then s.gather bytes damaged 0xF4
      else s.gather bytes true c
    else s.gather bytes damaged c

/-- CHARACTER_RECEIVED (R172). -/
def execCharacterReceived (c : Byte) (stopLow : Bool) (s : State) : Host.Outcome State Fault Refusal :=
  .next (s.receiveCharacter c stopLow)

/-- FRAME_CLOSE (R172, R173): the marker arrives. In HUNT it opens a frame. -/
def execFrameClose (stopLow : Bool) (s : State) : Host.Outcome State Fault Refusal :=
  .next (s.receiveCharacter 0xF5 stopLow)

/-- FRAME_TRANSMIT_DONE (R176): the head frame has been sent whole. Once a RESET reply has gone out, the reset is due and nothing
further is sent (R177). -/
def execFrameTransmitDone (s : State) : Host.Outcome State Fault Refusal :=
  .next (
    if s.link.resetSent then s
    else
      match s.link.tx with
      | [] => s
      | f :: rest => { s with link := { s.link with tx := rest, resetSent := f.isResetReply } })

/-- UNKNOWN_KIND_REQUEST (R175, test 1). A kind of the catalogue is no unknown kind: that request has its own command. -/
def execUnknownKindRequest (kind : Byte) (r : Request) (s : State) : Host.Outcome State Fault Refusal :=
  .next (
    if (Kind.ofCode kind).isSome then s
    else
      match s.takeFrame (requestFrame kind r) with
      | none => s
      | some s1 => s1.conclude kind r.tag (.refuse .unknownKind))

end Sys2Proof.Machine
end

