-- ==== Sys2Proof/Machine/EngineControl.lean ====
section
/-! DEFINITION. The engine requests and the engine's own events (Chapter 9). -/

namespace Sys2Proof.Machine

/-- The payload of STATUS (R163, R178). -/
def statusPayload (s : State) : List Byte :=
  [byteOf s.ec.engine.code, byteOf s.ec.reasons.code, byteOf s.ec.haltAction.code, byteOrNone (s.ec.rate.map Rate.code)]
    ++ bytesOf 4 s.ec.counter.toNat ++ bytesOf 2 s.ec.fade ++ bytesOf 2 s.ec.goal
    ++ [flagByte s.ec.clockAbsent, byteOf s.ec.rateResult.code]
    ++ bytesOf 2 s.ec.budgetUsed ++ bytesOf 2 s.ec.capacity ++ [flagByte s.port.drive, flagByte s.port.bypass]

/-- STATUS (R163). -/
def ownStatus (_ : Bool) (_ : List Byte) (s : State) : Verdict := .done s .ok (statusPayload s)

/-- The rate a byte of INIT names (R164). -/
def rateOf (b : Byte) : Option Rate := if b = 0 then some .r48 else if b = 1 then some .r96 else none

/-- The halt action a byte of INIT names (R164). -/
def haltActionOf (b : Byte) : Option HaltAction := if b = 0 then some .mute else if b = 1 then some .bypass else none

/-- INIT (R164). -/
def ownInit (_ : Bool) (p : List Byte) (s : State) : Verdict :=
  match p with
  | [r, a] =>
    match rateOf r, haltActionOf a with
    | some rate, some action => .done (s.initBlocks rate action) .ok []
    | _, _ => .refuse .badValue
  | _ => .refuse .badLength

/-- The runaway windows of all eight slots begin (R148). -/
def State.beginWindows (s : State) : State :=
  ({ s with sru := { s.sru with slots := mapIx (fun _ r =>
      { r with windowCount := 0, windowSaturated := false, windowLeft := s.ec.windowLength }) s.sru.slots } } : State).note
    Written.setWindows

/-- The engine becomes RUNNING with M at 0 and goal 256, the clock-loss timer started (R165, R168). -/
def State.enterRunning (s : State) : State :=
  ({ s with ec := { s.ec with engine := .running, clockTimer := true } } : State).setFade 0 256

/-- START (R165). DESIGN CHOICE (notes/assumptions/32.md): in STOPPING and RUNNING it does not start the clock-loss timer, also
while the clock-absent mark is set (R170). -/
def ownStart (_ : Bool) (_ : List Byte) (s : State) : Verdict :=
  match s.ec.engine with
  | .stopped => .done s.enterRunning.beginWindows .ok []
  | .running => .done s .ok []
  | .stopping => .done { s with ec := { s.ec with engine := .running, goal := 256 } } .ok []
  | _ => .refuse .wrongState

/-- The engine becomes STOPPED: the clock-absent mark and the clock-loss timer are cleared (R170). -/
def State.enterStopped (s : State) : State :=
  { s with ec := { s.ec with engine := .stopped, clockAbsent := false, clockTimer := false } }

/-- STOP (R165). -/
def ownStop (_ : Bool) (_ : List Byte) (s : State) : Verdict :=
  match s.ec.engine with
  | .stopped | .stopping => .done s .ok []
  | .running => .done { s with ec := { s.ec with engine := .stopping, goal := 0 } } .ok []
  | .halted =>
    let t : State := s.enterStopped
    .done (({ t with ec := { t.ec with reasons := HaltReasons.none } } : State).raise (.stopDone s.ec.counter)) .ok []
  | _ => .refuse .wrongState

/-- HALT (R167). -/
def ownHalt (_ : Bool) (_ : List Byte) (s : State) : Verdict :=
  match s.ec.engine with
  | .running | .stopping | .halted => .done (s.haltCause s.ec.counter .host) .ok []
  | _ => .refuse .wrongState

/-- RESUME (R168). -/
def ownResume (_ : Bool) (_ : List Byte) (s : State) : Verdict :=
  if s.ec.engine ≠ .halted then .refuse .wrongState
  else if s.ec.reasons.rate = true ∧ s.ec.rateResult = .disagree then .refuse .stillFaulted
  else .done ({ s with ec := { s.ec with reasons := HaltReasons.none } } : State).enterRunning .ok []

/-- RESET (R171): only its reply is formed; the reset follows when that reply has been sent (R177). -/
def ownReset (_ : Bool) (_ : List Byte) (s : State) : Verdict := .done s .ok []

/-- TIME_GET (R162). -/
def ownTimeGet (_ : Bool) (_ : List Byte) (s : State) : Verdict := .done s .ok (bytesOf 4 s.ec.counter.toNat)

/-- STATUS. -/
def execStatus (r : Request) (s : State) : Host.Outcome State Fault Refusal := .next (s.take .status r ownStatus)

/-- INIT. -/
def execInit (r : Request) (s : State) : Host.Outcome State Fault Refusal := .next (s.take .init r ownInit)

/-- START. -/
def execStart (r : Request) (s : State) : Host.Outcome State Fault Refusal := .next (s.take .start r ownStart)

/-- STOP. -/
def execStop (r : Request) (s : State) : Host.Outcome State Fault Refusal := .next (s.take .stop r ownStop)

/-- HALT. -/
def execHalt (r : Request) (s : State) : Host.Outcome State Fault Refusal := .next (s.take .halt r ownHalt)

/-- RESUME. -/
def execResume (r : Request) (s : State) : Host.Outcome State Fault Refusal := .next (s.take .resume r ownResume)

/-- RESET. -/
def execReset (r : Request) (s : State) : Host.Outcome State Fault Refusal := .next (s.take .reset r ownReset)

/-- TIME_GET. -/
def execTimeGet (r : Request) (s : State) : Host.Outcome State Fault Refusal := .next (s.take .timeGet r ownTimeGet)

/-- Whether the reset that a RESET asked for is due (R177): its reply has been sent, or is the frame whose closing marker goes out
at this moment. -/
def Link.resetIsDue (l : Link) : Bool := l.resetSent || (l.tx.head?.elim false TxFrame.isResetReply)

/-- RESET_TAKE (R171, R177). Without a RESET reply sent no reset is due and nothing happens. -/
def execResetTake (s : State) : Host.Outcome State Fault Refusal :=
  .next (if s.link.resetIsDue then s.resetBlocks else s)

/-- POWER_ON_RESET (R171): the pin falls, the part holds its reset state, and begins from it when the pin rises. -/
def execPowerOnReset (s : State) : Host.Outcome State Fault Refusal := .next s.resetBlocks

/-- The class of a measured span agrees with the rate: 64 ms or more is of the 48,000 class (R169). -/
def spanAgrees (rate : Option Rate) (elapsed : Nat) : Bool :=
  match rate with
  | some .r48 => decide (64000 ≤ elapsed)
  | some .r96 => decide (elapsed < 64000)
  | none => true

/-- RATE_MEASUREMENT_COMPLETE (R169), due when 4,096 boundaries have followed the one that began the span. -/
def execRateMeasurementComplete (elapsed : Nat) (s : State) : Host.Outcome State Fault Refusal :=
  .next (
    if s.ec.span ≠ some 4096 then s
    else if spanAgrees s.ec.rate elapsed then { s with ec := { s.ec with span := some 0, rateResult := .agree } }
    else
      ({ s with ec := { s.ec with span := some 0, rateResult := .disagree } } : State).haltCause s.ec.counter .rate)

/-- RATE_MEASUREMENT_LOSS (R169): in a state in which the ports operate, the measurement in progress is abandoned. -/
def execRateMeasurementLoss (s : State) : Host.Outcome State Fault Refusal :=
  .next (if s.ec.engine.portsOperate then { s with ec := { s.ec with span := none } } else s)

/-- CLOCK_LOST (R170): the clock-loss timer expires. -/
def execClockLost (s : State) : Host.Outcome State Fault Refusal :=
  .next (
    if s.ec.engine.computes && s.ec.clockTimer then
      ({ s with ec := { s.ec with clockAbsent := true, clockTimer := false } } : State).raise (.clockLost s.ec.counter)
    else s)

end Sys2Proof.Machine
end

