-- ==== Sys2Proof/Machine/Modulation.lean ====
section
/-! DEFINITION. The modulation requests, the tempo and the beat tracker (Chapter 7). -/

namespace Sys2Proof.Machine

/-- The lock that num and den bytes name: num 0 for NONE, otherwise each clamped to 1 … 16 (R132). -/
def lockOf (num den : Byte) : Option Lock :=
  if num = 0 then none else some { num := clampNat 1 16 num.toNat, den := clampNat 1 16 den.toNat }

/-- Whether R132 clamps a lock part. -/
def lockClamped (num den : Byte) : Bool :=
  decide (num ≠ 0 ∧ (clampNat 1 16 num.toNat ≠ num.toNat ∨ clampNat 1 16 den.toNat ≠ den.toNat))

/-- MOD_SET writes its parts in the order shape, rate, lock, beat sync, with the tempo as it stands (R132). -/
def Modulator.write (tempo : Nat) (p : ModParts) (m : Modulator) : Modulator :=
  let m1 : Modulator := { m with shape := p.shape.getD m.shape }
  let m2 : Modulator := p.rate.elim m1 fun i => { m1 with increment := i, lock := none }
  let m3 : Modulator := p.lock.elim m2 fun l =>
    l.elim { m2 with lock := none } fun k => { m2 with lock := some k, increment := lockIncrement tempo k }
  { m3 with beatSync := p.beatSync.getD m3.beatSync }

/-- A MOD_SET is applied (R132). -/
def State.applyModSet (i : ModIx) (p : ModParts) (s : State) : State := s.mapMod i (Modulator.write s.mu.tempo p)

/-- MOD_SET (R132, R133). -/
def ownModSet (staged : Bool) (p : List Byte) (s : State) : Verdict :=
  match p with
  | [modu, mask, shape, r3, r2, r1, r0, num, den, sync] =>
    match index 16 modu.toNat with
    | none => .refuse .badIndex
    | some i =>
      if mask.getLsbD 0 = true ∧ Shape.ofCode shape.toNat = none then .refuse .badValue
      else if mask.getLsbD 3 = true ∧ flagOf sync = none then .refuse .badValue
      else if mask.getLsbD 1 = true ∧ mask.getLsbD 2 = true ∧ num ≠ 0 then .refuse .badValue
      else
        let asked := natOf [r3, r2, r1, r0]
        let rate := clampNat 0 2097151 asked
        let parts : ModParts :=
          { shape := if mask.getLsbD 0 then Shape.ofCode shape.toNat else none
            rate := if mask.getLsbD 1 then some rate else none
            lock := if mask.getLsbD 2 then some (lockOf num den) else none
            beatSync := if mask.getLsbD 3 then flagOf sync else none }
        let clamped := (mask.getLsbD 1 && decide (rate ≠ asked)) || (mask.getLsbD 2 && lockClamped num den)
        if staged then stageEntry (.modSet i parts) clamped s
        else .done (s.applyModSet i parts) (okStatus clamped) []
  | _ => .refuse .badLength

/-- MOD_SYNC (R134): the phase becomes 0, with no cycle wrap. -/
def ownModSync (_ : Bool) (p : List Byte) (s : State) : Verdict :=
  match p with
  | [modu] =>
    match index 16 modu.toNat with
    | none => .refuse .badIndex
    | some i => .done ((s.mapMod i fun m => { m with phase := 0 }).note (Written.setPhase i)) .ok []
  | _ => .refuse .badLength

/-- The payload of MOD_GET (R134, R178). -/
def modPayload (m : Modulator) : List Byte :=
  byteOf m.shape.code :: bytesOf 4 m.increment ++ [byteOf (m.lock.elim 0 Lock.num), byteOf (m.lock.elim 0 Lock.den),
    flagByte m.beatSync] ++ bytesOf 4 m.phase ++ bytesOf 2 m.random.toNat ++ signedBytes 2 m.randomCurrent
    ++ signedBytes 2 m.randomPrevious ++ signedBytes 2 m.value

/-- MOD_GET (R134). -/
def ownModGet (_ : Bool) (p : List Byte) (s : State) : Verdict :=
  match p with
  | [modu] =>
    match index 16 modu.toNat with
    | none => .refuse .badIndex
    | some i => .done s .ok (modPayload s.mu.mods[i])
  | _ => .refuse .badLength

/-- TEMPO_SET (R136). -/
def ownTempoSet (staged : Bool) (p : List Byte) (s : State) : Verdict :=
  match p with
  | [b3, b2, b1, b0] =>
    let asked := natOf [b3, b2, b1, b0]
    let b := clampNat s.ec.minBeat s.ec.maxBeat asked
    if staged then stageEntry (.tempoSet b) (decide (b ≠ asked)) s
    else .done (s.setTempo b) (okStatus (decide (b ≠ asked))) []
  | _ => .refuse .badLength

/-- The payload of BEAT: the stamp, the outcome, then the tracker state and B after the mark (R138, R178). -/
def beatPayload (stamp : Word32) (outcome : Nat) (u : ModUnit) : List Byte :=
  bytesOf 4 stamp.toNat ++ [byteOf outcome, byteOf u.tracker.state.code] ++ bytesOf 4 u.tempo

/-- The interval list with an accepted interval at its tail, the oldest of five removed (R139). -/
def pushInterval (i : Nat) (l : List Nat) : List Nat :=
  if (l ++ [i]).length = 5 then (l ++ [i]).drop 1 else l ++ [i]

/-- A mark that arms the tracker (R138). -/
def State.armTracker (s : State) : State :=
  ({ s with mu := { s.mu with tracker := { s.mu.tracker with state := .armed, lastMark := some s.ec.counter } } } : State).markBeat

/-- A mark accepted with the interval `i` (R139). -/
def State.acceptMark (i : Nat) (s : State) : State :=
  let l := pushInterval (clampNat s.ec.minBeat s.ec.maxBeat i) s.mu.tracker.intervals
  let t : State := { s with mu := { s.mu with
    tracker := { state := .tracking, lastMark := some s.ec.counter, intervals := l } } }
  (t.setTempo (l.sum / l.length)).markBeat

/-- The interval of a mark since the last one, modulo 2^32 (R139). -/
def Tracker.interval (t : Tracker) (counter : Word32) : Nat := (counter - t.lastMark.getD counter).toNat

/-- BEAT (R138, R139). -/
def ownBeat (_ : Bool) (_ : List Byte) (s : State) : Verdict :=
  if s.mu.tracker.state = .idle then
    .done s.armTracker .ok (beatPayload s.ec.counter 0 s.armTracker.mu)
  else if s.mu.tracker.interval s.ec.counter < s.ec.fs / 10 then
    .done s .ok (beatPayload s.ec.counter 2 s.mu)
  else
    let t := s.acceptMark (s.mu.tracker.interval s.ec.counter)
    .done t .ok (beatPayload s.ec.counter 1 t.mu)

/-- The payload of TEMPO_GET (R143). -/
def tempoPayload (u : ModUnit) : List Byte :=
  bytesOf 4 u.tempo ++ [byteOf u.tracker.state.code, flagByte u.tracker.lastMark.isSome]
    ++ bytesOf 4 (u.tracker.lastMark.elim 0 BitVec.toNat) ++ [byteOf u.tracker.intervals.length]
    ++ u.tracker.intervals.flatMap (bytesOf 4) ++ bytesOf 4 u.beatPhase

/-- TEMPO_GET (R143). -/
def ownTempoGet (_ : Bool) (_ : List Byte) (s : State) : Verdict := .done s .ok (tempoPayload s.mu)

/-- MOD_SET. -/
def execModSet (r : Request) (s : State) : Host.Outcome State Fault Refusal := .next (s.take .modSet r ownModSet)

/-- MOD_SYNC. -/
def execModSync (r : Request) (s : State) : Host.Outcome State Fault Refusal := .next (s.take .modSync r ownModSync)

/-- MOD_GET. -/
def execModGet (r : Request) (s : State) : Host.Outcome State Fault Refusal := .next (s.take .modGet r ownModGet)

/-- TEMPO_SET. -/
def execTempoSet (r : Request) (s : State) : Host.Outcome State Fault Refusal := .next (s.take .tempoSet r ownTempoSet)

/-- BEAT. -/
def execBeat (r : Request) (s : State) : Host.Outcome State Fault Refusal := .next (s.take .beat r ownBeat)

/-- TEMPO_GET. -/
def execTempoGet (r : Request) (s : State) : Host.Outcome State Fault Refusal := .next (s.take .tempoGet r ownTempoGet)

/-- Whether the tracker's timeout is due: ARMED or TRACKING, and the frame last mark + 2fs reached (R140). DESIGN CHOICE
(notes/assumptions/31.md): an expiry that fell due before the engine became STOPPED or the clock was lost may still be taken there. -/
def State.timeoutIsDue (s : State) : Bool :=
  match s.mu.tracker.state, s.mu.tracker.lastMark with
  | .idle, _ => false
  | _, none => false
  | _, some m => reached s.ec.counter (m + BitVec.ofNat 32 (2 * s.ec.fs))

/-- TRACKER_TIMEOUT (R140). Before it is due there is no expiry to take. -/
def execTrackerTimeout (s : State) : Host.Outcome State Fault Refusal :=
  .next (if s.timeoutIsDue then { s with mu := { s.mu with tracker := Tracker.resetValue } } else s)

end Sys2Proof.Machine
end

