-- ==== Sys2Proof/Machine/PortUnit.lean ====
section
/-! DEFINITION. The port requests, the output slot map and the pattern checker (Chapter 1). -/

namespace Sys2Proof.Machine

/-- PORT_DRIVE (R10). -/
def ownPortDrive (_ : Bool) (p : List Byte) (s : State) : Verdict :=
  match p with
  | [v] =>
    match flagOf v with
    | some b => .done { s with port := { s.port with drive := b } } .ok []
    | none => .refuse .badValue
  | _ => .refuse .badLength

/-- PORT_BYPASS (R11). -/
def ownPortBypass (_ : Bool) (p : List Byte) (s : State) : Verdict :=
  match p with
  | [v] =>
    match flagOf v with
    | some b => .done { s with port := { s.port with bypass := b } } .ok []
    | none => .refuse .badValue
  | _ => .refuse .badLength

/-- The source of a map entry checked against its mode and stored as R7 gives, with whether it was clamped (R12). -/
def mapEntryFor (S : Nat) (mode : OutMode) (source : Int) : Option (MapEntry × Bool) :=
  match mode with
  | .ret => if 0 ≤ source ∧ source ≤ 15 then some ({ mode := mode, source := source }, false) else none
  | .directFast | .directAligned =>
    if 0 ≤ source ∧ source < S then some ({ mode := mode, source := source }, false) else none
  | .fixed => some ({ mode := mode, source := clampSample source }, decide (clampSample source ≠ source))
  | .mute | .released | .pattern => some ({ mode := mode, source := 0 }, false)

/-- One entry of the edited map is written (R12). -/
def State.writeMapEntry (i : EntryIx) (e : MapEntry) (s : State) : State :=
  { s with port := { s.port with edited := s.port.edited.set i e } }

/-- The entry that an OUTMAP_FILL writes `n` places into its range: with step 1 an index source advances and wraps (R13). -/
def steppedEntry (S : Nat) (step : Bool) (e : MapEntry) (n : Nat) : MapEntry :=
  if step then
    match e.mode with
    | .ret => { e with source := (e.source + n) % 16 }
    | .directFast | .directAligned => { e with source := (e.source + n) % S }
    | _ => e
  else e

/-- A range of entries of the edited map is written (R13). -/
def State.fillMap (first last : EntryIx) (step : Bool) (e : MapEntry) (s : State) : State :=
  (wrapRange first last).zipIdx.foldl (fun s x => s.writeMapEntry x.1 (steppedEntry s.ec.timeSlots step e x.2)) s

/-- OUTMAP_SET (R12). -/
def ownOutmapSet (staged : Bool) (p : List Byte) (s : State) : Verdict :=
  match p with
  | [entry, mode, s3, s2, s1, s0] =>
    match index 32 entry.toNat with
    | none => .refuse .badIndex
    | some i =>
      match OutMode.ofCode mode.toNat with
      | none => .refuse .badValue
      | some m =>
        match mapEntryFor s.ec.timeSlots m (signedOf [s3, s2, s1, s0]) with
        | none => .refuse .badIndex
        | some (e, clamped) =>
          if staged then stageEntry (.outmapSet i e) clamped s
          else .done (s.writeMapEntry i e) (okStatus clamped) []
  | _ => .refuse .badLength

/-- OUTMAP_FILL (R13). -/
def ownOutmapFill (staged : Bool) (p : List Byte) (s : State) : Verdict :=
  match p with
  | [first, last, mode, step, s3, s2, s1, s0] =>
    match index 32 first.toNat, index 32 last.toNat with
    | some i, some j =>
      match OutMode.ofCode mode.toNat with
      | none => .refuse .badValue
      | some m =>
        match flagOf step with
        | none => .refuse .badValue
        | some st =>
          match mapEntryFor s.ec.timeSlots m (signedOf [s3, s2, s1, s0]) with
          | none => .refuse .badIndex
          | some (e, clamped) =>
            if staged then stageEntry (.outmapFill i j st e) clamped s
            else .done (s.fillMap i j st e) (okStatus clamped) [byteOf (wrapRange i j).length]
    | _, _ => .refuse .badIndex
  | _ => .refuse .badLength

/-- One map entry as OUTMAP_GET sends it (R178). -/
def MapEntry.bytes (e : MapEntry) : List Byte := byteOf e.mode.code :: signedBytes 4 e.source

/-- OUTMAP_GET (R14). -/
def ownOutmapGet (_ : Bool) (_ : List Byte) (s : State) : Verdict :=
  .done s .ok (s.port.edited.toList.flatMap MapEntry.bytes ++ [byteOf s.ec.timeSlots])

/-- The checker set to a slot, or turned off (R18). The counts stay. -/
def Checker.setTo (slot : Option Nat) (c : Checker) : Checker :=
  { c with
    slot := slot, state := if slot.isSome then .seeking else .off, reference := none, consecutive := 0
    justSet := slot.isSome }

/-- CHECK_SET (R18). -/
def ownCheckSet (_ : Bool) (p : List Byte) (s : State) : Verdict :=
  match p with
  | [v] =>
    if v = 255 then .done { s with port := { s.port with checker := s.port.checker.setTo none } } .ok []
    else if v.toNat < s.ec.timeSlots then
      .done { s with port := { s.port with checker := s.port.checker.setTo (some v.toNat) } } .ok []
    else .refuse .badIndex
  | _ => .refuse .badLength

/-- CHECK_READ (R21). -/
def ownCheckRead (_ : Bool) (_ : List Byte) (s : State) : Verdict :=
  let c := s.port.checker
  .done { s with port := { s.port with checker := { c with snapshot := c.running } } } .ok
    (bytesOf 2 c.running.toNat ++ [byteOf c.state.code, byteOrNone c.slot])

/-- CHECK_CLEAR (R21). -/
def ownCheckClear (_ : Bool) (_ : List Byte) (s : State) : Verdict :=
  .done { s with port := { s.port with checker := { s.port.checker with running := 0, snapshot := 0 } } } .ok []

/-- PORT_DRIVE. -/
def execPortDrive (r : Request) (s : State) : Host.Outcome State Fault Refusal := .next (s.take .portDrive r ownPortDrive)

/-- PORT_BYPASS. -/
def execPortBypass (r : Request) (s : State) : Host.Outcome State Fault Refusal := .next (s.take .portBypass r ownPortBypass)

/-- OUTMAP_SET. -/
def execOutmapSet (r : Request) (s : State) : Host.Outcome State Fault Refusal := .next (s.take .outmapSet r ownOutmapSet)

/-- OUTMAP_FILL. -/
def execOutmapFill (r : Request) (s : State) : Host.Outcome State Fault Refusal := .next (s.take .outmapFill r ownOutmapFill)

/-- OUTMAP_GET. -/
def execOutmapGet (r : Request) (s : State) : Host.Outcome State Fault Refusal := .next (s.take .outmapGet r ownOutmapGet)

/-- CHECK_SET. -/
def execCheckSet (r : Request) (s : State) : Host.Outcome State Fault Refusal := .next (s.take .checkSet r ownCheckSet)

/-- CHECK_READ. -/
def execCheckRead (r : Request) (s : State) : Host.Outcome State Fault Refusal := .next (s.take .checkRead r ownCheckRead)

/-- CHECK_CLEAR. -/
def execCheckClear (r : Request) (s : State) : Host.Outcome State Fault Refusal := .next (s.take .checkClear r ownCheckClear)

/-- The number of bit positions in which two words differ (R20). -/
def bitsDiffering (a b : Word24) : Nat := ((List.range 24).filter fun i => a.getLsbD i != b.getLsbD i).length

/-- What the checker loads from a word: its last 15 bits, or nothing when they are all zero (R17). -/
def loadReference (w : Word24) : Option SeqState := if w.setWidth 15 = 0 then none else some (w.setWidth 15)

/-- The checker examines a word; true when its state changed, so that CHECK_LOCK is raised (R19, R20). -/
def Checker.examine (w : Word24) (c : Checker) : Checker × Bool :=
  match c.state, c.reference with
  | .off, _ => (c, false)
  | .seeking, none => ({ c with reference := loadReference w }, false)
  | .seeking, some r =>
    if patternWordOf r = w then
      if c.consecutive + 1 = 4 then ({ c with reference := some (patternState r), state := .locked, consecutive := 0 }, true)
      else ({ c with reference := some (patternState r), consecutive := c.consecutive + 1 }, false)
    else ({ c with reference := loadReference w, consecutive := 0 }, false)
  | .locked, none => (c, false)
  | .locked, some r =>
    let d := bitsDiffering (patternWordOf r) w
    let counted := { c with running := c.running + BitVec.ofNat 16 d, reference := some (patternState r) }
    if d < 6 then ({ counted with consecutive := 0 }, false)
    else if c.consecutive + 1 = 4 then
      ({ counted with state := .seeking, consecutive := 0, reference := loadReference w }, true)
    else ({ counted with consecutive := c.consecutive + 1 }, false)

/-- The checker examines the word of its slot and raises CHECK_LOCK on a change of lock (R17, R19, R20). A word whose first bit
came before the CHECK_SET that chose the slot is not examined (R18). -/
def State.checkWord (slot : Nat) (w : Word24) (fresh : Bool) (s : State) : State :=
  if s.port.checker.slot ≠ some slot then s
  else
    let settled : Checker := { s.port.checker with justSet := false }
    if s.port.checker.justSet && !fresh then { s with port := { s.port with checker := settled } }
    else
      let t : State := { s with port := { s.port with checker := (settled.examine w).1 } }
      if (settled.examine w).2 then t.raise (.checkLock slot (settled.examine w).1.state) else t

/-- INPUT_SLOT_RECEIVED (R3, R17): the sample enters the receive buffer and the checker examines its slot's word. In a frame in
which the ports do not operate, and after an INIT taken within the frame, the sample is discarded (R2, R22). -/
def execInputSlotReceived (slot : Nat) (word : Word24) (fresh : Bool) (s : State) : Host.Outcome State Fault Refusal :=
  .next (
    if s.port.latch.engine.portsOperate && s.ec.engine.portsOperate && decide (slot < s.ec.timeSlots) then
      ({ s with port := { s.port with receive := s.port.receive.set slot word.toInt } } : State).checkWord slot word fresh
    else s)

end Sys2Proof.Machine
end

