-- ==== Sys2Proof/Machine/LineTable.lean ====
section
/-! DEFINITION. The line requests, POOL_GET and the page-clear completion (Chapters 2 and 3). -/

namespace Sys2Proof.Machine

/-- The send source a byte names: 255 for NONE, or an input slot 0 … S−1 (R42). -/
def sendSourceOf (S : Nat) (b : Byte) : Option (Option Nat) :=
  if b = 255 then some none else if b.toNat < S then some (some b.toNat) else none

/-- The record that the next open takes: the first FREE one from the round-robin pointer upward, wrapping (R44). -/
def Dmc.chooseRecord (d : Dmc) : Option LineIx :=
  ((List.finRange 64).map fun i => d.roundRobin + i).find? fun k => d.lines[k].state = .free

/-- The record of a line just opened (R46). -/
def openedLine (slot : SlotIx) (tag : Byte) (keep : Bool) (length : Nat) (source : Option Nat) (gain : Int) (damping : Nat) : Line :=
  { Line.freeValue with
    state := .waiting, slot := slot, tag := tag, keep := keep, length := length, pageCount := (length + 4095) / 4096
    source := source, sendTarget := gain, damping := damping }

/-- The outcome of an admitted LINE_OPEN: activation at once, or waiting with POOL_WAIT raised (R46). -/
def admitLine (k : LineIx) (l : Line) (clamped : Bool) (s : State) : Verdict :=
  let s1 := (s.mapLine k fun _ => l).charge 2
  let s2 : State := { s1 with dmc := { s1.dmc with roundRobin := k + 1 } }
  if s.dmc.waitList = [] ∧ l.pageCount ≤ s.dmc.clean.length then
    .done (s2.activateLine k) (okStatus clamped) [byteOf k]
  else
    let s3 : State := { s2 with dmc := { s2.dmc with waitList := s2.dmc.waitList ++ [k] } }
    .done (s3.raise (.poolWait k)) (if clamped then .waitingClamped else .waiting) [byteOf k]

/-- LINE_OPEN (R42 to R46). -/
def ownLineOpen (_ : Bool) (p : List Byte) (s : State) : Verdict :=
  match p with
  | [slot, tag, keep, l3, l2, l1, l0, src, g1, g0, d1, d0] =>
    match index 8 slot.toNat with
    | none => .refuse .badIndex
    | some i =>
      match flagOf keep with
      | none => .refuse .badValue
      | some kp =>
        match sendSourceOf s.ec.timeSlots src with
        | none => .refuse .badIndex
        | some source =>
          let asked := natOf [l3, l2, l1, l0]
          let length := clampNat 64 1048576 asked
          let l := openedLine i tag kp length source (clampGain (signedOf [g1, g0])) (clampNat 0 65535 (natOf [d1, d0]))
          if s.budgetAdmits 2 = false then .refuse .overBudget
          else
            match s.dmc.chooseRecord with
            | none => .refuse .noLine
            | some k =>
              if s.dmc.unowned < s.dmc.promised + l.pageCount then .refuse .noMemory
              else admitLine k l (decide (length ≠ asked)) s
  | _ => .refuse .badLength

/-- A line that is neither FREE nor CLOSING (R53, R71). -/
def Line.isLive (l : Line) : Bool := l.state == .waiting || l.state == .active

/-- LINE_SET writes the parts present (R53). -/
def Line.write (p : LineParts) (l : Line) : Line :=
  { l with
    source := p.source.getD l.source
    sendTarget := p.sendTarget.getD l.sendTarget
    damping := p.damping.getD l.damping }

/-- LINE_SET (R53, R54). -/
def ownLineSet (staged : Bool) (p : List Byte) (s : State) : Verdict :=
  match p with
  | [line, mask, src, g1, g0, d1, d0] =>
    match index 64 line.toNat with
    | none => .refuse .badIndex
    | some k =>
      if s.dmc.lines[k].isLive = false then .refuse .notLive
      else if mask.getLsbD 0 = true ∧ sendSourceOf s.ec.timeSlots src = none then .refuse .badIndex
      else
        let parts : LineParts :=
          { source := if mask.getLsbD 0 then sendSourceOf s.ec.timeSlots src else none
            sendTarget := if mask.getLsbD 1 then some (clampGain (signedOf [g1, g0])) else none
            damping := if mask.getLsbD 2 then some (clampNat 0 65535 (natOf [d1, d0])) else none }
        if staged then stageEntry (.lineSet k parts s.dmc.lines[k].slot) false s
        else .done (s.mapLine k (Line.write parts)) .ok []
  | _ => .refuse .badLength

/-- LINE_CLOSE (R56). -/
def ownLineClose (_ : Bool) (p : List Byte) (s : State) : Verdict :=
  match p with
  | [line] =>
    match index 64 line.toNat with
    | none => .refuse .badIndex
    | some k =>
      match s.dmc.lines[k].state with
      | .free => .refuse .notLive
      | .waiting => .done (s.closeWaiting k) .ok []
      | .active => .done (s.closeActive k) .ok []
      | .closing => .done s .ok []
  | _ => .refuse .badLength

/-- The set of LINE_RELEASE_TAG: not FREE, with the tag, keep false (R62). -/
def Line.releasedByTag (tag : Byte) (l : Line) : Bool := l.state != .free && l.tag == tag && !l.keep

/-- LINE_RELEASE_TAG (R62). -/
def ownLineReleaseTag (_ : Bool) (p : List Byte) (s : State) : Verdict :=
  match p with
  | [tag] =>
    .done (s.groupClose (Line.releasedByTag tag)) .ok [byteOf (s.closedBy (Line.releasedByTag tag)).length]
  | _ => .refuse .badLength

/-- The set of LINE_RELEASE_ALL: every line that is not FREE (R63). -/
def Line.isNotFree (l : Line) : Bool := l.state != .free

/-- LINE_RELEASE_ALL (R63). -/
def ownLineReleaseAll (_ : Bool) (_ : List Byte) (s : State) : Verdict :=
  let t := s.groupClose Line.isNotFree
  .done { t with dmc := { t.dmc with roundRobin := 0 } } .ok [byteOf (s.closedBy Line.isNotFree).length]

/-- The line's place in the wait list counted from 1, or 0 (R64). -/
def waitPosition (k : LineIx) (waitList : List LineIx) : Nat :=
  if k ∈ waitList then waitList.idxOf k + 1 else 0

/-- The payload of LINE_GET (R64, R178). -/
def linePayload (k : LineIx) (d : Dmc) : List Byte :=
  let l := d.lines[k]
  [byteOf l.state.code, byteOf l.slot, l.tag, flagByte l.keep] ++ bytesOf 4 l.length ++ bytesOf 2 l.pageCount
    ++ bytesOf 4 l.w ++ [byteOrNone l.source] ++ signedBytes 2 l.sendTarget ++ signedBytes 2 l.sendGain
    ++ bytesOf 2 l.damping ++ signedBytes 4 l.dampMem ++ bytesOf 2 l.refs ++ [byteOf (waitPosition k d.waitList)]
    ++ l.pages.flatMap fun g => bytesOf 2 g

/-- LINE_GET (R64). -/
def ownLineGet (_ : Bool) (p : List Byte) (s : State) : Verdict :=
  match p with
  | [line] =>
    match index 64 line.toNat with
    | none => .refuse .badIndex
    | some k => .done s .ok (linePayload k s.dmc)
  | _ => .refuse .badLength

/-- The payload of POOL_GET (R38). -/
def poolPayload (d : Dmc) : List Byte :=
  bytesOf 2 d.clean.length ++ bytesOf 2 d.dirty.length ++ [byteOf d.scrubber.toList.length]
    ++ bytesOf 2 (d.scrubber.elim 0xFFFF Fin.val) ++ bytesOf 2 d.owned ++ bytesOf 2 d.promised
    ++ byteOf d.waitList.length :: d.waitList.map fun k => byteOf k

/-- POOL_GET (R38). -/
def ownPoolGet (_ : Bool) (_ : List Byte) (s : State) : Verdict := .done s .ok (poolPayload s.dmc)

/-- LINE_OPEN. -/
def execLineOpen (r : Request) (s : State) : Host.Outcome State Fault Refusal := .next (s.take .lineOpen r ownLineOpen)

/-- LINE_SET. -/
def execLineSet (r : Request) (s : State) : Host.Outcome State Fault Refusal := .next (s.take .lineSet r ownLineSet)

/-- LINE_CLOSE. -/
def execLineClose (r : Request) (s : State) : Host.Outcome State Fault Refusal := .next (s.take .lineClose r ownLineClose)

/-- LINE_RELEASE_TAG. -/
def execLineReleaseTag (r : Request) (s : State) : Host.Outcome State Fault Refusal :=
  .next (s.take .lineReleaseTag r ownLineReleaseTag)

/-- LINE_RELEASE_ALL. -/
def execLineReleaseAll (r : Request) (s : State) : Host.Outcome State Fault Refusal :=
  .next (s.take .lineReleaseAll r ownLineReleaseAll)

/-- LINE_GET. -/
def execLineGet (r : Request) (s : State) : Host.Outcome State Fault Refusal := .next (s.take .lineGet r ownLineGet)

/-- POOL_GET. -/
def execPoolGet (r : Request) (s : State) : Host.Outcome State Fault Refusal := .next (s.take .poolGet r ownPoolGet)

/-- INIT's scrub completes when the last clear leaves nothing dirty: the engine becomes STOPPED and INIT_DONE is raised (R34,
R164). -/
def State.memoryClean (s : State) : State :=
  if s.ec.engine = .initializing ∧ s.dmc.scrubber = none ∧ s.dmc.dirty = [] then
    ({ s with ec := { s.ec with engine := .stopped } } : State).raise (.initDone (s.ec.rate.getD .r48))
  else s

/-- PAGE_CLEAR_COMPLETE (R28, R29): the page, all zero, joins the clean pool; wait-list service runs; the next clear starts. With
no clear in progress there is none to complete. -/
def execPageClearComplete (s : State) : Host.Outcome State Fault Refusal :=
  .next (
    match s.dmc.scrubber with
    | none => s
    | some p =>
      (({ s with dmc := { s.dmc with
          memory := s.dmc.memory.clearPage p, clean := s.dmc.clean ++ [p], scrubber := none } } : State).serveWaitList).startScrub.memoryClean)

end Sys2Proof.Machine
end

