-- ==== Sys2Proof/Machine/SlotUnit.lean ====
section
/-! DEFINITION. The slot requests (Chapter 8, sections 8.1 to 8.4). -/

namespace Sys2Proof.Machine

/-- SLOT_SET writes the parts present (R149). -/
def Slot.write (p : SlotParts) (r : Slot) : Slot :=
  { r with
    levelTarget := p.level.getD r.levelTarget
    mute := p.mute.getD r.mute
    safe := p.safe.getD r.safe
    limit := p.limit.getD r.limit }

/-- SLOT_SET (R149, R150). -/
def ownSlotSet (staged : Bool) (p : List Byte) (s : State) : Verdict :=
  match p with
  | [slot, mask, v1, v0, mute, safe, limit] =>
    if staged = true ∧ mask.getLsbD 2 = true then .refuse .notStageable
    else
      match index 8 slot.toNat with
      | none => .refuse .badIndex
      | some i =>
        if mask.getLsbD 1 = true ∧ flagOf mute = none then .refuse .badValue
        else if mask.getLsbD 2 = true ∧ flagOf safe = none then .refuse .badValue
        else
          let asked := natOf [v1, v0]
          let parts : SlotParts :=
            { level := if mask.getLsbD 0 then some (clampNat 0 16384 asked) else none
              mute := if mask.getLsbD 1 then flagOf mute else none
              safe := if mask.getLsbD 2 then flagOf safe else none
              limit := if mask.getLsbD 3 then some (clampNat 1 255 limit.toNat) else none }
          let clamped := (mask.getLsbD 0 && decide (16384 < asked)) || (mask.getLsbD 3 && decide (limit = 0))
          if staged then stageEntry (.slotSet i parts) clamped s
          else .done (s.mapSlot i (Slot.write parts)) (okStatus clamped) []
  | _ => .refuse .badLength

/-- The set of SLOT_CLEAR: not FREE, of the slot (R151). -/
def Line.ofSlot (i : SlotIx) (l : Line) : Bool := l.state != .free && l.slot == i

/-- SLOT_CLEAR (R151). -/
def ownSlotClear (_ : Bool) (p : List Byte) (s : State) : Verdict :=
  match p with
  | [slot] =>
    match index 8 slot.toNat with
    | none => .refuse .badIndex
    | some i => .done (s.groupClose (Line.ofSlot i)) .ok [byteOf (s.closedBy (Line.ofSlot i)).length]
  | _ => .refuse .badLength

/-- The eight counters in the order of R152. -/
def SlotCounters.bytes (c : SlotCounters) : List Byte :=
  [c.saturations, c.modClamps, c.delayClamps, c.started, c.superseded, c.trips, c.skipped, c.stale].flatMap fun x =>
    bytesOf 4 x.toNat

/-- The payload of SLOT_GET (R152, R178). -/
def slotPayload (r : Slot) : List Byte :=
  bytesOf 2 r.levelTarget ++ bytesOf 2 r.level ++ [flagByte r.mute, flagByte r.safe, byteOf r.limit, byteOf r.runaway,
    byteOf r.windowCount, flagByte r.windowSaturated] ++ bytesOf 2 r.windowLeft ++ r.counters.bytes

/-- SLOT_GET (R149, R152). DESIGN CHOICE: the slot index is tested before the clear flag (notes/assumptions/26.md). -/
def ownSlotGet (_ : Bool) (p : List Byte) (s : State) : Verdict :=
  match p with
  | [slot, clear] =>
    match index 8 slot.toNat with
    | none => .refuse .badIndex
    | some i =>
      match flagOf clear with
      | none => .refuse .badValue
      | some c =>
        .done (if c then s.countSlot i fun _ => SlotCounters.zero else s) .ok (slotPayload s.sru.slots[i])
  | _ => .refuse .badLength

/-- SLOT_SET. -/
def execSlotSet (r : Request) (s : State) : Host.Outcome State Fault Refusal := .next (s.take .slotSet r ownSlotSet)

/-- SLOT_CLEAR. -/
def execSlotClear (r : Request) (s : State) : Host.Outcome State Fault Refusal := .next (s.take .slotClear r ownSlotClear)

/-- SLOT_GET. -/
def execSlotGet (r : Request) (s : State) : Host.Outcome State Fault Refusal := .next (s.take .slotGet r ownSlotGet)

end Sys2Proof.Machine
end

