-- ==== Sys2Proof/Machine/TapTable.lean ====
section
/-! DEFINITION. The tap requests (Chapter 4). -/

namespace Sys2Proof.Machine

/-- The destination that a kind byte and an index byte name; the error is the refusal of R70, checks 3 and 4. -/
def destOf (kind ix : Byte) : Except Status Dest :=
  if kind = 0 then (index 16 ix.toNat).elim (.error .badIndex) fun b => .ok (.bus b)
  else if kind = 1 then (index 64 ix.toNat).elim (.error .badIndex) fun k => .ok (.line k)
  else .error .badValue

/-- A delay spec from its kind and its four value bytes, num and den clamped to 1 … 16, with whether they were (R70, R79). -/
def specOf (kind v3 v2 v1 v0 : Byte) : Option (DelaySpec × Bool) :=
  if kind = 0 then some (.fixed (natOf [v3, v2, v1, v0]), false)
  else if kind = 1 then
    some (.tempo (clampNat 1 16 v3.toNat) (clampNat 1 16 v2.toNat),
      decide (clampNat 1 16 v3.toNat ≠ v3.toNat ∨ clampNat 1 16 v2.toNat ≠ v2.toNat))
  else none

/-- The modulator a byte names: 255 for NONE, or 0 … 15 (R70, check 6). -/
def modulatorOf (b : Byte) : Option (Option ModIx) :=
  if b = 255 then some none else (index 16 b.toNat).map some

/-- A retune mode and length, the length clamped to the mode's range, with whether it was (R70). -/
def retunePartOf (mode l1 l0 : Byte) : Option ((RetuneMode × Nat) × Bool) :=
  let asked := natOf [l1, l0]
  if mode = 0 then some ((.fade, clampNat 16 16384 asked), decide (clampNat 16 16384 asked ≠ asked))
  else if mode = 1 then some ((.glide, clampNat 16 65535 asked), decide (clampNat 16 65535 asked ≠ asked))
  else none

/-- The lowest-numbered UNUSED record (R71). -/
def State.freeTap (s : State) : Option TapIx := (List.finRange 256).find? fun t => s.taps[t].state = .unused

/-- The lines a request names: its source, and its destination when that is a line (R71). -/
def namedLines (source : LineIx) (dest : Dest) : List LineIx :=
  match dest with
  | .bus _ => [source]
  | .line k => [source, k]

/-- A tap at its create (R73); the target has been formed and clamped. -/
def createdTap (slot : SlotIx) (source : LineIx) (dest : Dest) (spec : DelaySpec) (target : Nat) (modulator : Option ModIx)
    (depth : Nat) (gain : Int) (retune : RetuneMode × Nat) : Tap :=
  { state := .live, slot := slot, source := source, dest := dest, spec := spec, target := target, retuneMode := retune.1,
    retuneLength := retune.2, retune := .idle, position := target, modulator := modulator, depth := depth,
    gainTarget := gain, gain := 0 }

/-- An admitted tap takes its record, charges 4 units and raises its lines' reference counts (R73). -/
def State.enterTap (t : TapIx) (tap : Tap) (s : State) : State :=
  (tap.lines.foldl (fun s k => s.mapLine k fun l => { l with refs := l.refs + 1 }) (s.mapTap t fun _ => tap)).charge 4

/-- TAP_CREATE (R70 to R73). -/
def ownTapCreate (_ : Bool) (p : List Byte) (s : State) : Verdict :=
  match p with
  | [slot, source, dkind, dindex, kind, v3, v2, v1, v0, modu, e1, e0, g1, g0, mode, l1, l0] =>
    match index 8 slot.toNat, index 64 source.toNat with
    | some i, some k =>
      match destOf dkind dindex with
      | .error st => .refuse st
      | .ok dest =>
        match specOf kind v3 v2 v1 v0 with
        | none => .refuse .badValue
        | some (spec, specClamped) =>
          match modulatorOf modu with
          | none => .refuse .badIndex
          | some m =>
            match retunePartOf mode l1 l0 with
            | none => .refuse .badValue
            | some (retune, retuneClamped) =>
              if (namedLines k dest).any (fun j => !s.dmc.lines[j].isLive) then .refuse .notLive
              else if (namedLines k dest).any (fun j => s.dmc.lines[j].slot != i) then .refuse .slotMismatch
              else
                match s.freeTap with
                | none => .refuse .noTap
                | some t =>
                  if s.budgetAdmits 4 = false then .refuse .overBudget
                  else
                    let length := s.dmc.lines[k].length
                    let asked := signedOf [g1, g0]
                    let gain := clampGainFor dest asked
                    let tc := targetClamped spec s.mu.tempo length
                    let tap := createdTap i k dest spec (targetFor spec s.mu.tempo length) m (clampNat 0 65535 (natOf [e1, e0]))
                      gain retune
                    .done ((s.enterTap t tap).countDelayClamp i tc)
                      (okStatus (specClamped || retuneClamped || decide (gain ≠ asked) || tc)) [byteOf t]
    | _, _ => .refuse .badIndex
  | _ => .refuse .badLength

/-- The retune, modulator and gain parts of a TAP_SET are written, and the delay spec (R78). The gain target is clamped to the
destination of the tap that holds the record (R75, R79). -/
def Tap.write (p : TapParts) (t : Tap) : Tap :=
  { t with
    retuneMode := (p.retune.map Prod.fst).getD t.retuneMode
    retuneLength := (p.retune.map Prod.snd).getD t.retuneLength
    modulator := (p.modulator.map Prod.fst).getD t.modulator
    depth := (p.modulator.map Prod.snd).getD t.depth
    gainTarget := (p.gain.map (clampGainFor t.dest)).getD t.gainTarget
    spec := p.spec.getD t.spec }

/-- A TAP_SET writes its parts in the order of R78, and a delay part forms a new target and hands it to retuning. -/
def State.applyTapSet (t : TapIx) (p : TapParts) (s : State) : State :=
  let s1 := s.mapTap t (Tap.write p)
  if p.spec.isSome then s1.formTarget t else s1

/-- The parts of a TAP_SET that its mask names and whether any was clamped; the error is the refusal of R78, checks 3 to 5. -/
def tapPartsOf (dest : Dest) (mask kind v3 v2 v1 v0 modu e1 e0 g1 g0 mode l1 l0 : Byte) : Except Status (TapParts × Bool) :=
  if mask.getLsbD 0 = true ∧ specOf kind v3 v2 v1 v0 = none then .error .badValue
  else if mask.getLsbD 1 = true ∧ modulatorOf modu = none then .error .badIndex
  else if mask.getLsbD 3 = true ∧ retunePartOf mode l1 l0 = none then .error .badValue
  else
    let spec := if mask.getLsbD 0 then specOf kind v3 v2 v1 v0 else none
    let retune := if mask.getLsbD 3 then retunePartOf mode l1 l0 else none
    let asked := signedOf [g1, g0]
    let gain := if mask.getLsbD 2 then some (clampGainFor dest asked) else none
    .ok ({ spec := spec.map Prod.fst
           modulator := if mask.getLsbD 1 then (modulatorOf modu).map fun m => (m, clampNat 0 65535 (natOf [e1, e0])) else none
           gain := gain
           retune := retune.map Prod.fst },
      (spec.map Prod.snd).getD false || (retune.map Prod.snd).getD false || gain.elim false fun g => decide (g ≠ asked))

/-- TAP_SET (R78, R79). -/
def ownTapSet (staged : Bool) (p : List Byte) (s : State) : Verdict :=
  match p with
  | [tap, mask, kind, v3, v2, v1, v0, modu, e1, e0, g1, g0, mode, l1, l0] =>
    match index 256 tap.toNat with
    | none => .refuse .badIndex
    | some t =>
      if s.taps[t].state ≠ .live then .refuse .notLive
      else
        match tapPartsOf s.taps[t].dest mask kind v3 v2 v1 v0 modu e1 e0 g1 g0 mode l1 l0 with
        | .error st => .refuse st
        | .ok (parts, clamped) =>
          let tc := parts.spec.elim false fun sp => targetClamped sp s.mu.tempo s.dmc.lines[s.taps[t].source].length
          if staged then stageEntry (.tapSet t parts s.taps[t].slot) (clamped || tc) s
          else .done (s.applyTapSet t parts) (okStatus (clamped || tc)) []
  | _ => .refuse .badLength

/-- The field of a TAP_FILL with its value clamped to the field's format, and whether it was (R80). -/
def fillFieldOf (field : Byte) (value : Int) : Option (FillField × Bool) :=
  if field = 0 then some (.gain (clampGain value), decide (clampGain value ≠ value))
  else if field = 1 then
    some (.delay (clampInt 0 268435200 value).toNat, decide (clampInt 0 268435200 value ≠ value))
  else if field = 2 then some (.depth (clampInt 0 65535 value).toNat, decide (clampInt 0 65535 value ≠ value))
  else none

/-- Whether a TAP_FILL of the slot reaches the tap (R81). -/
def Tap.reachedBy (slot : SlotIx) (t : Tap) : Bool := t.state == .live && t.slot == slot

/-- The taps a TAP_FILL reaches, in range order (R81). -/
def State.fillTargets (slot : SlotIx) (first last : TapIx) (s : State) : List TapIx :=
  (wrapRange first last).filter fun t => s.taps[t].reachedBy slot

/-- One tap receives the field of a TAP_FILL (R81). -/
def State.fillTap (f : FillField) (t : TapIx) (s : State) : State :=
  match f with
  | .gain g => s.mapTap t fun x => { x with gainTarget := clampGainFor x.dest g }
  | .delay d => (s.mapTap t fun x => { x with spec := .fixed d }).formTarget t
  | .depth d => s.mapTap t fun x => { x with depth := d }

/-- Whether the field is clamped further for one tap (R81). -/
def State.fillClamps (f : FillField) (t : TapIx) (s : State) : Bool :=
  match f with
  | .gain g => decide (clampGainFor s.taps[t].dest g ≠ g)
  | .delay d => targetClamped (.fixed d) s.mu.tempo s.dmc.lines[s.taps[t].source].length
  | .depth _ => false

/-- A TAP_FILL is applied to every tap it reaches (R81). -/
def State.applyTapFill (slot : SlotIx) (first last : TapIx) (f : FillField) (s : State) : State :=
  (s.fillTargets slot first last).foldl (fun s t => s.fillTap f t) s

/-- TAP_FILL (R80 to R82). -/
def ownTapFill (staged : Bool) (p : List Byte) (s : State) : Verdict :=
  match p with
  | [slot, first, last, field, v3, v2, v1, v0] =>
    match index 8 slot.toNat with
    | none => .refuse .badIndex
    | some i =>
      match index 256 first.toNat, index 256 last.toNat with
      | some a, some b =>
        match fillFieldOf field (signedOf [v3, v2, v1, v0]) with
        | none => .refuse .badValue
        | some (f, clamped) =>
          if staged then stageEntry (.tapFill i a b f) clamped s
          else
            let set := s.fillTargets i a b
            .done (s.applyTapFill i a b f) (okStatus (clamped || set.any fun t => s.fillClamps f t)) (bytesOf 2 set.length)
      | _, _ => .refuse .badIndex
  | _ => .refuse .badLength

/-- TAP_FREE (R83). -/
def ownTapFree (_ : Bool) (p : List Byte) (s : State) : Verdict :=
  match p with
  | [tap] =>
    match index 256 tap.toNat with
    | none => .refuse .badIndex
    | some t =>
      if s.taps[t].state = .unused then .refuse .notLive
      else .done (s.mapTap t Tap.release) .ok []
  | _ => .refuse .badLength

/-- A destination's kind and index (R178). -/
def Dest.bytes : Dest → List Byte
  | .bus b => [0, byteOf b]
  | .line k => [1, byteOf k]

/-- A delay spec's kind and its four bytes (R178). -/
def DelaySpec.bytes : DelaySpec → List Byte
  | .fixed v => 0 :: bytesOf 4 v
  | .tempo num den => [1, byteOf num, byteOf den, 0, 0]

/-- The new position of a fade, 0 where there is none (R87). -/
def Retune.newPosition : Retune → Nat
  | .fading n _ _ _ => n
  | _ => 0

/-- The fade count, 0 where there is none (R87). -/
def Retune.fadeCount : Retune → Nat
  | .fading _ k _ _ => k
  | _ => 0

/-- The fade length, 0 where there is none (R87). -/
def Retune.fadeLength : Retune → Nat
  | .fading _ _ F _ => F
  | _ => 0

/-- The glide step, 0 where there is none (R87). -/
def Retune.glideStepOr0 : Retune → Nat
  | .gliding st => st
  | _ => 0

/-- The pending target. -/
def Retune.pending : Retune → Option Nat
  | .fading _ _ _ p => p
  | _ => none

/-- The payload of TAP_GET (R87, R178). -/
def tapPayload (t : Tap) : List Byte :=
  [byteOf t.state.code, byteOf t.slot, byteOf t.source] ++ t.dest.bytes ++ t.spec.bytes ++ bytesOf 4 t.target
    ++ [byteOf t.retuneMode.code] ++ bytesOf 2 t.retuneLength ++ [byteOf t.retune.code] ++ bytesOf 4 t.position
    ++ bytesOf 4 t.retune.newPosition ++ bytesOf 2 t.retune.fadeCount ++ bytesOf 2 t.retune.fadeLength
    ++ bytesOf 4 t.retune.glideStepOr0 ++ [flagByte t.retune.pending.isSome] ++ bytesOf 4 (t.retune.pending.getD 0)
    ++ [byteOrNone (t.modulator.map Fin.val)] ++ bytesOf 2 t.depth ++ signedBytes 2 t.gainTarget ++ signedBytes 2 t.gain

/-- TAP_GET (R87). -/
def ownTapGet (_ : Bool) (p : List Byte) (s : State) : Verdict :=
  match p with
  | [tap] =>
    match index 256 tap.toNat with
    | none => .refuse .badIndex
    | some t => .done s .ok (tapPayload s.taps[t])
  | _ => .refuse .badLength

/-- TAP_CREATE. -/
def execTapCreate (r : Request) (s : State) : Host.Outcome State Fault Refusal := .next (s.take .tapCreate r ownTapCreate)

/-- TAP_SET. -/
def execTapSet (r : Request) (s : State) : Host.Outcome State Fault Refusal := .next (s.take .tapSet r ownTapSet)

/-- TAP_FILL. -/
def execTapFill (r : Request) (s : State) : Host.Outcome State Fault Refusal := .next (s.take .tapFill r ownTapFill)

/-- TAP_FREE. -/
def execTapFree (r : Request) (s : State) : Host.Outcome State Fault Refusal := .next (s.take .tapFree r ownTapFree)

/-- TAP_GET. -/
def execTapGet (r : Request) (s : State) : Host.Outcome State Fault Refusal := .next (s.take .tapGet r ownTapGet)

end Sys2Proof.Machine
end

