-- ==== Sys2Proof/Machine/Recall.lean ====
section
/-! DEFINITION. Recall staging and the schedule: applying lists, committing, discarding, cancelling (Chapter 8, sections 8.5 to
8.9). -/

namespace Sys2Proof.Machine

/-- The entry slot of an entry, for the kinds that have one (section 8.5). -/
def Entry.slot : Entry → Option SlotIx
  | .lineSet _ _ i => some i
  | .tapSet _ _ i => some i
  | .tapFill i _ _ _ => some i
  | .slotSet i _ => some i
  | .modSet _ _ => none
  | .tempoSet _ => none
  | .outmapSet _ _ => none
  | .outmapFill _ _ _ _ => none

/-- A DIRECT source beyond S−1 (section 8.5). -/
def MapEntry.beyond (S : Nat) (e : MapEntry) : Bool :=
  match e.mode with
  | .directFast | .directAligned => decide (¬ e.source < S)
  | _ => false

/-- Whether the entry's target is no longer valid (section 8.5). -/
def Entry.isStale (e : Entry) (s : State) : Bool :=
  match e with
  | .lineSet k p _ =>
    !s.dmc.lines[k].isLive ||
      (match p.source with
        | some (some n) => decide (¬ n < s.ec.timeSlots)
        | _ => false)
  | .tapSet t _ _ => s.taps[t].state != .live
  | .outmapSet _ v => v.beyond s.ec.timeSlots
  | .outmapFill _ _ _ v => v.beyond s.ec.timeSlots
  | .tapFill _ _ _ _ | .slotSet _ _ | .modSet _ _ | .tempoSet _ => false

/-- Whether the entry has an entry slot whose safe flag is true (R158). -/
def Entry.isSafe (e : Entry) (s : State) : Bool := e.slot.elim false fun i => s.sru.slots[i].safe

/-- The entry applied as its request would be with disposition apply (R158). -/
def Entry.apply (e : Entry) (s : State) : State :=
  match e with
  | .lineSet k p _ => s.mapLine k (Line.write p)
  | .tapSet t p _ => s.applyTapSet t p
  | .tapFill i a b f => s.applyTapFill i a b f
  | .slotSet i p => s.mapSlot i (Slot.write p)
  | .modSet m p => s.applyModSet m p
  | .tempoSet b => s.setTempo b
  | .outmapSet i v => s.writeMapEntry i v
  | .outmapFill i j st v => s.fillMap i j st v

/-- How many entries of a list were applied, skipped as safe and dropped as stale (R155). -/
structure Tallied where
  applied : Nat
  skipped : Nat
  stale   : Nat
  deriving DecidableEq, Repr

/-- One entry is handled by the first case of R158 that fits. -/
def handleEntry (x : State × Tallied) (e : Entry) : State × Tallied :=
  if e.isSafe x.1 then
    (e.slot.elim x.1 fun i => x.1.countSlot i fun c => { c with skipped := c.skipped + 1 },
      { x.2 with skipped := x.2.skipped + 1 })
  else if e.isStale x.1 then
    (e.slot.elim x.1 fun i => x.1.countSlot i fun c => { c with stale := c.stale + 1 }, { x.2 with stale := x.2.stale + 1 })
  else (e.apply x.1, { x.2 with applied := x.2.applied + 1 })

/-- A list is applied entry by entry; one that drops entries raises STALE_ENTRIES (R158). -/
def applyList (l : List Entry) (s : State) : State × Tallied :=
  let x := l.foldl handleEntry (s, { applied := 0, skipped := 0, stale := 0 })
  (if x.2.stale = 0 then x.1 else x.1.raise (.staleEntries x.2.stale), x.2)

/-- A due action is applied, with ACTION_LATE when its lateness is above 0 (R157). -/
def State.applyAction (a : Action) (s : State) : State :=
  let lateness := s.ec.counter - a.frame
  let s1 :=
    if lateness = 0 then s
    else
      ({ s with cu := { s.cu with counters := { s.cu.counters with lateActions := s.cu.counters.lateActions + 1 } } } : State).raise
        (.actionLate a.handle lateness)
  (applyList a.entries s1).1

/-- The due work of a computation's first stage: the due actions in queue order, then the due-now list (R158). -/
def State.applyDueWork (s : State) : State :=
  let s1 : State := { s with sru := { s.sru with queue := s.sru.queue.filter fun a => !a.isDue, dueNow := [] } }
  let s2 := (s.sru.queue.filter fun a => a.isDue).foldl (fun s a => s.applyAction a) s1
  (applyList s.sru.dueNow s2).1

/-- Every waiting action is tested against the counter; one found due stays due (R157). -/
def State.testSchedule (s : State) : State :=
  { s with sru := { s.sru with queue := s.sru.queue.map fun a => { a with isDue := a.isDue || reached s.ec.counter a.frame } } }

/-- The lead of an action over the counter (R156). -/
def Action.lead (c : Word32) (a : Action) : Nat := if a.isDue then 0 else (a.frame - c).toNat

/-- An action is placed after every action whose lead is at most its own (R156). -/
def placeAction (c : Word32) (a : Action) (q : List Action) : List Action :=
  q.takeWhile (fun x => decide (x.lead c ≤ a.lead c)) ++ a :: q.dropWhile fun x => decide (x.lead c ≤ a.lead c)

/-- The lowest handle that no action in the queue holds (R156). -/
def freeHandle (q : List Action) : Option Handle := (List.finRange 8).find? fun h => q.all fun a => a.handle != h

/-- COMMIT NOW (R155). -/
def commitNow (s : State) : Verdict :=
  if s.ec.engine.computes then
    if s.sru.staging = [] then .done s .ok (bytesOf 2 0)
    else
      let l := s.sru.dueNow ++ s.sru.staging
      .done { s with sru := { s.sru with staging := [], dueNow := l } } .ok (bytesOf 2 l.length)
  else
    let s1 : State := { s with sru := { s.sru with staging := [], dueNow := [] } }
    let x := applyList s.sru.dueNow s1
    let y := applyList s.sru.staging x.1
    .done y.1 .ok (bytesOf 2 (x.2.applied + y.2.applied) ++ bytesOf 2 (x.2.skipped + y.2.skipped)
      ++ bytesOf 2 (x.2.stale + y.2.stale))

/-- COMMIT AT the frame `f` (R156). -/
def commitAt (f : Word32) (s : State) : Verdict :=
  if s.sru.staging = [] then .refuse .notFound
  else if 8 ≤ s.sru.queue.length then .refuse .scheduleFull
  else
    match freeHandle s.sru.queue with
    | none => .refuse .scheduleFull
    | some h =>
      let a : Action := { handle := h, frame := f, isDue := reached s.ec.counter f, entries := s.sru.staging }
      .done { s with sru := { s.sru with staging := [], queue := placeAction s.ec.counter a s.sru.queue } } .ok [byteOf h]

/-- COMMIT, by its mode byte (R155). The due frame of mode NOW is not read (R175). -/
def ownCommit (_ : Bool) (p : List Byte) (s : State) : Verdict :=
  match p with
  | [mode, f3, f2, f1, f0] =>
    if mode = 0 then commitNow s
    else if mode = 1 then commitAt (BitVec.ofNat 32 (natOf [f3, f2, f1, f0])) s
    else .refuse .badValue
  | _ => .refuse .badLength

/-- DISCARD (R159). -/
def ownDiscard (_ : Bool) (_ : List Byte) (s : State) : Verdict :=
  .done { s with sru := { s.sru with staging := [] } } .ok (bytesOf 2 s.sru.staging.length)

/-- SCHED_CANCEL (R159). -/
def ownSchedCancel (_ : Bool) (p : List Byte) (s : State) : Verdict :=
  match p with
  | [handle] =>
    match index 8 handle.toNat with
    | none => .refuse .badIndex
    | some h =>
      match s.sru.queue.find? fun a => a.handle = h with
      | none => .refuse .notFound
      | some a =>
        .done { s with sru := { s.sru with queue := s.sru.queue.filter fun x => x.handle ≠ h } } .ok
          (bytesOf 2 a.entries.length)
  | _ => .refuse .badLength

/-- One action as SCHED_GET sends it (R160). -/
def Action.bytes (a : Action) : List Byte :=
  byteOf a.handle :: bytesOf 4 a.frame.toNat ++ bytesOf 2 a.entries.length ++ [flagByte a.isDue]

/-- The payload of SCHED_GET (R160). -/
def schedPayload (u : Sru) : List Byte :=
  bytesOf 2 u.freeEntries ++ bytesOf 2 u.staging.length ++ bytesOf 2 u.dueNow.length
    ++ byteOf u.queue.length :: u.queue.flatMap Action.bytes

/-- SCHED_GET (R160). -/
def ownSchedGet (_ : Bool) (_ : List Byte) (s : State) : Verdict := .done s .ok (schedPayload s.sru)

/-- COMMIT_NOW. -/
def execCommitNow (r : Request) (s : State) : Host.Outcome State Fault Refusal := .next (s.take .commit r ownCommit)

/-- COMMIT_AT. -/
def execCommitAt (r : Request) (s : State) : Host.Outcome State Fault Refusal := .next (s.take .commit r ownCommit)

/-- DISCARD. -/
def execDiscard (r : Request) (s : State) : Host.Outcome State Fault Refusal := .next (s.take .discard r ownDiscard)

/-- SCHED_CANCEL. -/
def execSchedCancel (r : Request) (s : State) : Host.Outcome State Fault Refusal :=
  .next (s.take .schedCancel r ownSchedCancel)

/-- SCHED_GET. -/
def execSchedGet (r : Request) (s : State) : Host.Outcome State Fault Refusal := .next (s.take .schedGet r ownSchedGet)

end Sys2Proof.Machine
end

