-- ==== Sys2Proof/Machine/FrameEngine.lean ====
section
/-! DEFINITION. The frame boundary and the frame computation (Chapters 1, 5 and 9). -/

namespace Sys2Proof.Machine

/-! ## Stages 2 to 4: one tap -/

/-- What stages 3 and 4 form for one tap of the view. -/
structure TapOut where
  sample       : Int
  clamps       : Nat
  faults       : List (LineIx × Nat)
  contribution : Int
  deriving DecidableEq, Repr

/-- A tap that takes part in the computation (R67). -/
def Tap.takesPart (t : Tap) : Bool := t.state != .unused

/-- A line that is written and read (R40). -/
def Line.isWritten (l : Line) : Bool := l.state == .active || l.state == .closing

/-- A tap that is readable in the view (R94). -/
def View.readable (v : View) (t : TapIx) : Bool := v.taps[t].takesPart && v.lines[v.taps[t].source].isWritten

/-- The offset of a tap in the view (R93, R94). -/
def View.offset (v : View) (t : TapIx) : Int :=
  v.taps[t].modulator.elim 0 fun m => modOffset v.taps[t].depth v.mods[m].value

/-- The base positions of a tap: two while it fades (R94). -/
def Tap.bases (t : Tap) : List Nat :=
  match t.retune with
  | .fading n _ _ _ => [t.position, n]
  | _ => [t.position]

/-- The tap sample from its interpolated reads (R96). -/
def Tap.mix (t : Tap) (reads : List Int) : Int :=
  match t.retune, reads with
  | .fading _ k F _, [va, vb] => fadeMix va vb k F
  | _, [v] => v
  | _, _ => 0

/-- The effective gain of a tap (R97, R98). -/
def View.effectiveGain (v : View) (t : TapIx) : Int :=
  match v.taps[t].dest with
  | .bus _ => busGain v.taps[t].gain v.slots[v.taps[t].slot].level v.fade
  | .line _ => feedbackGain v.taps[t].gain v.slots[v.taps[t].slot].runaway

/-- Stages 3 and 4 for one tap. A tap that is not readable, or whose source line has left its life since the boundary, has tap
sample 0, makes no read and counts no clamp (R91, R94). DESIGN CHOICE (notes/assumptions/30.md): the faults of a fading tap are those of
its old position before those of its new one. -/
def Computation.tapOut (c : Computation) (m : Memory) (t : TapIx) : TapOut :=
  let v := c.view
  let tap := v.taps[t]
  let line := v.lines[tap.source]
  if v.readable t && !c.written.lineLeft[tap.source] then
    let reads := tap.bases.map fun q => interpolatedRead m tap.source line (readPosition line.length q (v.offset t))
    let sample := tap.mix (reads.map Reading.value)
    { sample := sample
      clamps := (tap.bases.filter fun q => readClamped line.length q (v.offset t)).length
      faults := reads.flatMap Reading.faults
      contribution := scaled sample (v.effectiveGain t) }
  else
    { sample := 0, clamps := 0, faults := [], contribution := if tap.takesPart then scaled 0 (v.effectiveGain t) else 0 }

/-- What every tap of the view gives. -/
def Computation.tapOuts (c : Computation) (m : Memory) : Vector TapOut 256 := mapIx (fun t _ => c.tapOut m t) c.view.taps

/-- The contributions of stage 4 with their destinations (R99). -/
def Computation.contributions (c : Computation) (outs : Vector TapOut 256) : List (Dest × Int) :=
  (List.zip c.view.taps.toList outs.toList).filterMap fun x =>
    if x.1.takesPart then some (x.1.dest, x.2.contribution) else none

/-- What one destination receives, without any limit (R99). -/
def sumFor (d : Dest) (cs : List (Dest × Int)) : Int := ((cs.filter fun x => x.1 = d).map Prod.snd).sum

/-! ## Stages 5 and 6 -/

/-- The value formed for a line before its clamp: the send contribution and the line's sum (R100). -/
def View.formedValue (v : View) (k : LineIx) (sum : Int) : Int :=
  v.lines[k].source.elim 0 (fun n => scaled (v.previous.getD n 0) v.lines[k].sendGain) + sum

/-- What stage 5 stores in a line: the stored value and whether it saturated; nothing for a line that is not written in the view,
or has left its life since the boundary (R100, R101). -/
def Computation.stored (c : Computation) (cs : List (Dest × Int)) (k : LineIx) : Option (Int × Bool) :=
  let l := c.view.lines[k]
  if l.isWritten && !c.written.lineLeft[k] then
    let v := c.view.formedValue k (c.lineSums[k] + sumFor (.line k) cs)
    some (damp (clampSample v) l.dampMem l.damping, decide (clampSample v ≠ v))
  else none

/-- The finished sum of a bus (R99). -/
def Computation.busSum (c : Computation) (cs : List (Dest × Int)) (b : BusIx) : Int := c.busSums[b] + sumFor (.bus b) cs

/-- The bus values: every sum clamped to the sample range (R102). -/
def Computation.busValues (c : Computation) (cs : List (Dest × Int)) : Vector Int 16 :=
  mapIx (fun b _ => clampSample (c.busSum cs b)) c.busSums

/-! ## The results, block by block -/

/-- One read fault is reported as it occurs in stage 3: tallied, counted, MEM_FAULT raised, with the halt of R169 when the tally
reaches 8 (R37). Each condition has its own alert test, since it is raised before the completion (R89, R179). DESIGN CHOICE
(notes/assumptions/29.md): MEM_FAULT is raised before the HALTED that the same fault causes. -/
def State.reportFault (stamp : Word32) (s : State) (f : LineIx × Nat) : State :=
  let window := stamp.toNat / s.ec.fs
  let count := if s.ec.tally.window = some window then s.ec.tally.count + 1 else 1
  let s1 := (({ s with
      ec := { s.ec with tally := { window := some window, count := count } }
      cu := { s.cu with counters := { s.cu.counters with memFaults := s.cu.counters.memFaults + 1 } } } : State).raiseAt stamp
        (.memFault f.1 f.2))
  if 8 ≤ count then s1.haltCause stamp .memory else s1

/-- The stores of stage 5 and the send gain ramps (R50, R51, R101). -/
def State.storeLine (c : Computation) (cs : List (Dest × Int)) (s : State) (k : LineIx) : State :=
  let l := c.view.lines[k]
  match c.stored cs k with
  | none => s
  | some (y, _) =>
    let s1 := s.mapLine k fun x =>
      { x with w := (l.w + 1) % l.length, dampMem := y, sendGain := approach 64 l.sendGain l.sendTarget }
    { s1 with dmc := { s1.dmc with memory := (l.address l.w).elim s1.dmc.memory fun a => s1.dmc.memory.store a y } }

/-- A bus clip is counted and BUS_CLIP raised as it is found in stage 6, with an alert test of its own (R102, R179). -/
def State.clipBus (c : Computation) (cs : List (Dest × Int)) (s : State) (b : BusIx) : State :=
  if clampSample (c.busSum cs b) = c.busSum cs b then s
  else
    ({ s with cu := { s.cu with counters := { s.cu.counters with
      clips := updateAt s.cu.counters.clips b (· + 1) } } } : State).raiseAt c.stamp (.busClip b)

/-- The bus values are handed to the FE and to the held set, and the clips reported (R5, R102). -/
def State.deliverBuses (c : Computation) (cs : List (Dest × Int)) (s : State) : State :=
  let s1 := (List.finRange 16).foldl (State.clipBus c cs) s
  { s1 with
    fe := { s1.fe with busValues := c.busValues cs }
    port := { s1.port with held := c.busValues cs } }

/-- The modulation clamps of one tap are counted for its slot (R94). -/
def State.countClamps (c : Computation) (outs : Vector TapOut 256) (s : State) (t : TapIx) : State :=
  if outs[t].clamps = 0 then s
  else s.countSlot c.view.taps[t].slot fun x => { x with modClamps := x.modClamps + BitVec.ofNat 32 outs[t].clamps }

/-- Whether the advances of stage 7 reach the tap: it takes part in the view and has not left its life since (R104). -/
def Computation.advancesTap (c : Computation) (t : TapIx) : Bool := c.view.taps[t].takesPart && !c.written.tapLeft[t]

/-- The advances of one tap: the gain step of the view, and the retune advance unless a trigger wrote the retune fields (R76, R104,
R120). A start is counted for its slot (R124). -/
def State.advanceTap (c : Computation) (s : State) (t : TapIx) : State :=
  if c.advancesTap t then
    let v := c.view.taps[t]
    let s1 := s.mapTap t fun x => { x with gain := approach 64 v.gain v.gainTarget }
    if c.written.tapRetune[t] then s1
    else
      let s2 := s1.mapTap t fun x => x.advanceRetune.1
      if (s1.taps[t].advanceRetune).2 then s2.countSlot v.slot fun x => { x with started := x.started + 1 } else s2
  else s

/-- A release completes: RELEASING in the view and at gain 0 after the step (R85, R104). -/
def State.completeRelease (c : Computation) (s : State) (t : TapIx) : State :=
  if c.advancesTap t && c.view.taps[t].state == .releasing && s.taps[t].gain == 0 then s.removeTap t else s

/-- One line saturation is reported to the runaway control of its slot: the counters, and a trip at the limit. The window fields
keep what a START wrote since the boundary (R104, R147). -/
def State.reportSaturation (c : Computation) (i : SlotIx) (s : State) : State :=
  let s1 := s.countSlot i fun x => { x with saturations := x.saturations + 1 }
  if c.written.windows then s1
  else
    let r := s1.sru.slots[i]
    if r.limit ≤ r.windowCount + 1 then
      let level := min 4 (r.runaway + 1)
      ((s1.mapSlot i fun x => { x with windowCount := 0, windowSaturated := true, runaway := level }).countSlot i fun x =>
        { x with trips := x.trips + 1 }).post c.stamp (.runawayTrip i level)
    else s1.mapSlot i fun x => { x with windowCount := x.windowCount + 1, windowSaturated := true }

/-- The saturation of one line, if it made one (R100). -/
def State.saturateLine (c : Computation) (cs : List (Dest × Int)) (s : State) (k : LineIx) : State :=
  match c.stored cs k with
  | some (_, true) => s.reportSaturation c c.view.lines[k].slot
  | _ => s

/-- The effective level target (R146). -/
def Slot.effectiveTarget (r : Slot) : Nat := if r.mute then 0 else r.levelTarget

/-- The runaway window advances by one computation (R148). -/
def Slot.advanceWindow (W : Nat) (r : Slot) : Slot :=
  if 1 < r.windowLeft then { r with windowLeft := r.windowLeft - 1 }
  else
    { r with
      runaway := if r.windowSaturated = false then r.runaway - 1 else r.runaway
      windowCount := 0, windowSaturated := false, windowLeft := W }

/-- The level step of the view and the window (R104, R146, R148). -/
def State.advanceSlots (c : Computation) (s : State) : State :=
  { s with sru := { s.sru with slots := mapIx (fun i r =>
      let v := c.view.slots[i]
      let r1 : Slot := { r with level := (approach 64 v.level v.effectiveTarget).toNat }
      if c.written.windows then r1 else r1.advanceWindow s.ec.windowLength) s.sru.slots } }

/-- The modulator phases (R128), save where MOD_SYNC or a beat set the phase since the boundary (R142). -/
def State.advanceMods (c : Computation) (s : State) : State :=
  { s with mu := { s.mu with mods := mapIx (fun i m =>
      if c.written.modPhase[i] then m else m.advance c.view.mods[i].increment c.view.mods[i].phase) s.mu.mods } }

/-- The beat phase, with the beat of its wrap, save where a mark or a change of B set it since the boundary (R137, R142). -/
def State.advanceBeat (c : Computation) (s : State) : State :=
  if c.written.beatPhase then s
  else if s.mu.tempo ≤ s.mu.beatPhase + 1 then
    ({ s with mu := { s.mu with beatPhase := 0 } } : State).beatOccurs
  else { s with mu := { s.mu with beatPhase := s.mu.beatPhase + 1 } }

/-- The master fade steps from its value in the view toward the goal, save where it was set since the boundary; then STOPPING with
M at 0 becomes STOPPED with STOP_DONE (R166). DESIGN CHOICE (notes/assumptions/28.md): after a START taken within the last computation
of a stop R166 says both that M steps from its value in the view toward the goal at completion and that the next computation steps it up
from 0; the model follows the first, so that this completion steps M up already. -/
def State.advanceFade (c : Computation) (s : State) : State :=
  let fade := if c.written.fade then s.ec.fade else (approach 1 c.view.fade s.ec.goal).toNat
  let s1 : State := { s with ec := { s.ec with fade := fade } }
  if s1.ec.engine = .stopping ∧ fade = 0 then
    ({ s1 with ec := { s1.ec with engine := .stopped, clockAbsent := false, clockTimer := false } } : State).post c.stamp
      (.stopDone s1.ec.counter)
  else s1

/-- The value that the computation offers to the probe at its point, with the snapshot part, when the point is live (R184). -/
def Computation.offer (c : Computation) (outs : Vector TapOut 256) (cs : List (Dest × Int)) (p : Point) : Option (Int × SnapPart) :=
  match p with
  | .off => none
  | .tap t =>
    if c.view.readable t then
      some (outs[t].sample, .tap c.view.taps[t].retune c.view.taps[t].position c.view.taps[t].gain)
    else none
  | .line k => (c.stored cs k).map fun x => (x.1, .line c.view.lines[k].w)
  | .bus b => some ((c.busValues cs)[b], .bus)

/-- The offer is made, unless a PROBE_SET was taken since the boundary: the peak, and the trip with its snapshot (R184). -/
def State.offerProbe (c : Computation) (outs : Vector TapOut 256) (cs : List (Dest × Int)) (s : State) : State :=
  if c.written.probe then s
  else
    match c.offer outs cs s.cu.probe.point with
    | none => s
    | some (v, part) =>
      let p := s.cu.probe
      let p1 : Probe := { p with peak := max p.peak v.natAbs }
      if p.armed && decide (p.trip ≤ v.natAbs) then
        ({ s with cu := { s.cu with probe :=
          { p1 with armed := false, snapshot := some { stamp := c.stamp, value := v, part := part } } } } : State).post c.stamp
          (.probeTrip p.point v)
      else { s with cu := { s.cu with probe := p1 } }

/-- The computation completes and its results are written as one step (R104): reads and their faults, stores, buses, counts, the
advances of every block, releases and the closes they complete, the probe. The faults of stage 3, with their halt, and the clips of
stage 6 have each had their alert test; the conditions raised at the completion itself have one after them all (R179). -/
def State.finish (c : Computation) (s : State) : State :=
  let outs := c.tapOuts s.dmc.memory
  let cs := c.contributions outs
  let s0 : State := { s with fe := { s.fe with computation := none } }
  let s1 := (outs.toList.flatMap TapOut.faults).foldl (State.reportFault c.stamp) s0
  let s2 := (List.finRange 64).foldl (State.storeLine c cs) s1
  let s3 := s2.deliverBuses c cs
  let s4 := (List.finRange 256).foldl (State.countClamps c outs) s3
  let s5 := (List.finRange 64).foldl (State.saturateLine c cs) s4
  let s6 := s5.advanceSlots c
  let s7 := (List.finRange 256).foldl (State.advanceTap c) s6
  let s8 := ((s7.advanceMods c).advanceBeat c).advanceFade c
  let s9 := s8.offerProbe c outs cs
  let s10 := (List.finRange 256).foldl (State.completeRelease c) s9
  s10.completeCloses.alertTest

/-- The computation in progress, if any, completes, once the damage given has come upon the memory. -/
def State.completeComputation (strikes : List Strike) (s : State) : State :=
  let t : State := { s with dmc := { s.dmc with memory := strikes.foldl Memory.strike s.dmc.memory } }
  match t.fe.computation with
  | none => t
  | some c => t.finish c

/-- FRAME_COMPUTATION_COMPLETE (R104). With no computation in progress only the damage comes about. -/
def execFrameComputationComplete (strikes : List Strike) (s : State) : Host.Outcome State Fault Refusal :=
  .next (s.completeComputation strikes)

/-! ## The frame boundary -/

/-- The input history at the boundary that ends a frame in which the ports operated (R3). -/
def Port.shiftHistory (S : Nat) (p : Port) : Port :=
  if p.latch.engine.portsOperate then { p with before := p.previous, previous := p.receive, receive := List.replicate S 0 } else p

/-- The boundary at the port unit, from the engine state it takes: the history (R3), the latch (R2), and in a frame in which the
ports operate the return sets (R5), the map in use (R6), the pattern word (R16). The output slots follow from R9. -/
def Port.boundary (e : Engine) (p : Port) : Port :=
  let p1 := p.shiftHistory e.timeSlots
  let p2 : Port :=
    { p1 with
      latch := { engine := e.engine, drive := p1.drive, bypass := p1.bypass, haltAction := e.haltAction }
      checker := { p1.checker with justSet := false } }
  let p3 : Port :=
    if e.engine.portsOperate then
      { p2 with
        transmit := p2.held
        held := if e.engine.computes then p2.held else Vector.replicate 16 0
        inUse := p2.edited
        generator := patternState p2.generator
        patternWord := patternWordOf p2.generator }
    else p2
  p3.formReturn e.timeSlots

/-- The rate measurement at a boundary (R169): it starts at one boundary and is complete at the 4,096th after it. -/
def countSpan : Option Nat → Option Nat
  | none => some 0
  | some n => some (min 4096 (n + 1))

/-- The boundary at the Engine Controller: the counter (R162), the clock-loss timer (R170), the rate measurement (R169). -/
def Engine.boundary (e : Engine) : Engine :=
  { e with
    counter := if e.engine.counts then e.counter + 1 else e.counter
    clockTimer := if e.engine.computes then true else e.clockTimer
    span := if e.engine.portsOperate then countSpan e.span else e.span }

/-- The return of the frame clock: the mark is cleared, M becomes 0 and CLOCK_BACK is raised (R170). -/
def State.clockBack (s : State) : State :=
  if s.ec.clockAbsent then
    (({ s with ec := { s.ec with clockAbsent := false } } : State).setFade 0 (if s.ec.engine = .stopping then 0 else 256)).raise
      (.clockBack s.ec.counter)
  else s

/-- The view of a computation that begins now (R91). -/
def State.takeView (s : State) : View :=
  { taps := s.taps, lines := s.dmc.lines, mods := s.mu.mods, slots := s.sru.slots, fade := s.ec.fade
    previous := s.port.previous }

/-- A frame computation begins: the due work, then the stamp and the view (R90, R91). -/
def State.beginComputation (s : State) : State :=
  let s1 := s.applyDueWork
  let c : Computation :=
    { stamp := s1.ec.counter, view := s1.takeView, busSums := Vector.replicate 16 0, lineSums := Vector.replicate 64 0
      written := Written.nothing }
  { s1 with fe := { s1.fe with computation := some c } }

/-- FRAME_BOUNDARY (R2 to R6, R16, R90, R91, R157, R162, R169, R170). A computation still in progress completes first, as it does
before the next boundary (R90). -/
def execFrameBoundary (s : State) : Host.Outcome State Fault Refusal :=
  .next (
    let s0 := s.completeComputation []
    let s1 : State := { s0 with port := s0.port.boundary s0.ec, ec := s0.ec.boundary }
    let s2 := if s0.ec.engine.counts then s1.testSchedule else s1
    let s3 := s2.clockBack
    if s0.ec.engine.computes then s3.beginComputation else s3)

end Sys2Proof.Machine
end

