-- ==== Sys2Proof/Machine/Reporting.lean ====
section
/-! DEFINITION. The reporting requests: conditions, the alert latch, the probe, the global counters (Chapter 11). -/

namespace Sys2Proof.Machine

/-- COND_ENABLE (R182): all fifteen flags, then the alert test. -/
def ownCondEnable (_ : Bool) (p : List Byte) (s : State) : Verdict :=
  match p with
  | [m1, m0] =>
    .done ({ s with cu := { s.cu with
      conditions := mapIx (fun i c => { c with enabled := (natOf [m1, m0]).testBit i }) s.cu.conditions } } : State).alertTest .ok []
  | _ => .refuse .badLength

/-- COND_GET (R182). -/
def ownCondGet (_ : Bool) (_ : List Byte) (s : State) : Verdict :=
  .done s .ok (flagByte s.cu.latch :: s.cu.conditions.toList.flatMap Condition.bytes)

/-- The number of conditions that are reported (R181). -/
def CondUnit.reportedCount (u : CondUnit) : Nat := (u.conditions.toList.filter Condition.reported).length

/-- ALERT_RELEASE (R181). -/
def ownAlertRelease (_ : Bool) (_ : List Byte) (s : State) : Verdict :=
  if s.cu.latch = false then .done s .ok [0]
  else
    .done ({ s with cu := { s.cu with
      conditions := mapIx (fun _ c => c.release) s.cu.conditions, latch := false } } : State).alertTest .ok
      [byteOf s.cu.reportedCount]

/-- The probe point that a kind byte and an index byte name; the error is the refusal of R183. -/
def pointOf (kind ix : Byte) : Except Status Point :=
  if kind = 0 then .ok .off
  else if kind = 1 then (index 256 ix.toNat).elim (.error .badIndex) fun t => .ok (.tap t)
  else if kind = 2 then (index 64 ix.toNat).elim (.error .badIndex) fun k => .ok (.line k)
  else if kind = 3 then (index 16 ix.toNat).elim (.error .badIndex) fun b => .ok (.bus b)
  else .error .badValue

/-- PROBE_SET (R183). -/
def ownProbeSet (_ : Bool) (p : List Byte) (s : State) : Verdict :=
  match p with
  | [kind, ix, v3, v2, v1, v0] =>
    match pointOf kind ix with
    | .error st => .refuse st
    | .ok point =>
      let asked := natOf [v3, v2, v1, v0]
      let trip := clampNat 1 8388608 asked
      .done (({ s with cu := { s.cu with
          probe := { point := point, trip := trip, armed := decide (point ≠ .off), peak := 0, snapshot := none } } } : State).note
          Written.setProbe) (okStatus (decide (trip ≠ asked))) []
  | _ => .refuse .badLength

/-- The 25 bytes of a snapshot: fields that do not apply are zeros (R185). -/
def Snapshot.bytes (x : Snapshot) : List Byte :=
  bytesOf 4 x.stamp.toNat ++ signedBytes 4 x.value ++
    match x.part with
    | .tap r pos g =>
      byteOf r.code :: bytesOf 4 pos ++ bytesOf 4 r.newPosition ++ bytesOf 2 r.fadeCount ++ signedBytes 2 g ++ bytesOf 4 0
    | .line w => List.replicate 13 0 ++ bytesOf 4 w
    | .bus => List.replicate 17 0

/-- The payload of PROBE_GET (R185, R178). -/
def probePayload (p : Probe) : List Byte :=
  p.point.bytes ++ bytesOf 4 p.trip ++ [flagByte p.armed] ++ bytesOf 4 p.peak
    ++ flagByte p.snapshot.isSome :: (p.snapshot.elim (List.replicate 25 0) Snapshot.bytes)

/-- PROBE_GET (R185): the peak becomes 0 once its value is in the reply. -/
def ownProbeGet (_ : Bool) (_ : List Byte) (s : State) : Verdict :=
  .done { s with cu := { s.cu with probe := { s.cu.probe with peak := 0 } } } .ok (probePayload s.cu.probe)

/-- The nineteen counters in the order of R186. -/
def Counters.bytes (c : Counters) : List Byte :=
  (c.memFaults :: c.linkRejects :: c.lateActions :: c.clips.toList).flatMap fun x => bytesOf 4 x.toNat

/-- COUNTERS_GET (R186). -/
def ownCountersGet (_ : Bool) (p : List Byte) (s : State) : Verdict :=
  match p with
  | [clear] =>
    match flagOf clear with
    | none => .refuse .badValue
    | some c =>
      .done (if c then { s with cu := { s.cu with counters := Counters.zero } } else s) .ok s.cu.counters.bytes
  | _ => .refuse .badLength

/-- COND_ENABLE. -/
def execCondEnable (r : Request) (s : State) : Host.Outcome State Fault Refusal := .next (s.take .condEnable r ownCondEnable)

/-- COND_GET. -/
def execCondGet (r : Request) (s : State) : Host.Outcome State Fault Refusal := .next (s.take .condGet r ownCondGet)

/-- ALERT_RELEASE. -/
def execAlertRelease (r : Request) (s : State) : Host.Outcome State Fault Refusal :=
  .next (s.take .alertRelease r ownAlertRelease)

/-- PROBE_SET. -/
def execProbeSet (r : Request) (s : State) : Host.Outcome State Fault Refusal := .next (s.take .probeSet r ownProbeSet)

/-- PROBE_GET. -/
def execProbeGet (r : Request) (s : State) : Host.Outcome State Fault Refusal := .next (s.take .probeGet r ownProbeGet)

/-- COUNTERS_GET. -/
def execCountersGet (r : Request) (s : State) : Host.Outcome State Fault Refusal :=
  .next (s.take .countersGet r ownCountersGet)

end Sys2Proof.Machine
end

