-- ==== Sys2Proof/Machine/Dispatch.lean ====
section
/-! DEFINITION. The meaning of every command, one arm per constructor. -/

namespace Sys2Proof.Machine

/-- The effect of a command on everything but the queue of waiting commands. -/
def exec (i : Instr) (s : State) : Host.Outcome State Fault Refusal :=
  match i with
  | .status r => Sys2Proof.Machine.execStatus r s
  | .init r => Sys2Proof.Machine.execInit r s
  | .start r => Sys2Proof.Machine.execStart r s
  | .stop r => Sys2Proof.Machine.execStop r s
  | .halt r => Sys2Proof.Machine.execHalt r s
  | .resume r => Sys2Proof.Machine.execResume r s
  | .reset r => Sys2Proof.Machine.execReset r s
  | .resetTake => Sys2Proof.Machine.execResetTake s
  | .powerOnReset => Sys2Proof.Machine.execPowerOnReset s
  | .timeGet r => Sys2Proof.Machine.execTimeGet r s
  | .portDrive r => Sys2Proof.Machine.execPortDrive r s
  | .portBypass r => Sys2Proof.Machine.execPortBypass r s
  | .outmapSet r => Sys2Proof.Machine.execOutmapSet r s
  | .outmapFill r => Sys2Proof.Machine.execOutmapFill r s
  | .outmapGet r => Sys2Proof.Machine.execOutmapGet r s
  | .checkSet r => Sys2Proof.Machine.execCheckSet r s
  | .checkRead r => Sys2Proof.Machine.execCheckRead r s
  | .checkClear r => Sys2Proof.Machine.execCheckClear r s
  | .lineOpen r => Sys2Proof.Machine.execLineOpen r s
  | .lineSet r => Sys2Proof.Machine.execLineSet r s
  | .lineClose r => Sys2Proof.Machine.execLineClose r s
  | .lineReleaseTag r => Sys2Proof.Machine.execLineReleaseTag r s
  | .lineReleaseAll r => Sys2Proof.Machine.execLineReleaseAll r s
  | .lineGet r => Sys2Proof.Machine.execLineGet r s
  | .poolGet r => Sys2Proof.Machine.execPoolGet r s
  | .tapCreate r => Sys2Proof.Machine.execTapCreate r s
  | .tapSet r => Sys2Proof.Machine.execTapSet r s
  | .tapFill r => Sys2Proof.Machine.execTapFill r s
  | .tapFree r => Sys2Proof.Machine.execTapFree r s
  | .tapGet r => Sys2Proof.Machine.execTapGet r s
  | .modSet r => Sys2Proof.Machine.execModSet r s
  | .modSync r => Sys2Proof.Machine.execModSync r s
  | .modGet r => Sys2Proof.Machine.execModGet r s
  | .tempoSet r => Sys2Proof.Machine.execTempoSet r s
  | .beat r => Sys2Proof.Machine.execBeat r s
  | .tempoGet r => Sys2Proof.Machine.execTempoGet r s
  | .slotSet r => Sys2Proof.Machine.execSlotSet r s
  | .slotClear r => Sys2Proof.Machine.execSlotClear r s
  | .slotGet r => Sys2Proof.Machine.execSlotGet r s
  | .commitNow r => Sys2Proof.Machine.execCommitNow r s
  | .commitAt r => Sys2Proof.Machine.execCommitAt r s
  | .discard r => Sys2Proof.Machine.execDiscard r s
  | .schedCancel r => Sys2Proof.Machine.execSchedCancel r s
  | .schedGet r => Sys2Proof.Machine.execSchedGet r s
  | .condEnable r => Sys2Proof.Machine.execCondEnable r s
  | .condGet r => Sys2Proof.Machine.execCondGet r s
  | .alertRelease r => Sys2Proof.Machine.execAlertRelease r s
  | .probeSet r => Sys2Proof.Machine.execProbeSet r s
  | .probeGet r => Sys2Proof.Machine.execProbeGet r s
  | .countersGet r => Sys2Proof.Machine.execCountersGet r s
  | .unknownKindRequest kind r => Sys2Proof.Machine.execUnknownKindRequest kind r s
  | .frameClose stopLow => Sys2Proof.Machine.execFrameClose stopLow s
  | .frameTransmitDone => Sys2Proof.Machine.execFrameTransmitDone s
  | .frameBoundary => Sys2Proof.Machine.execFrameBoundary s
  | .frameComputationComplete strikes => Sys2Proof.Machine.execFrameComputationComplete strikes s
  | .pageClearComplete => Sys2Proof.Machine.execPageClearComplete s
  | .inputSlotReceived slot word fresh => Sys2Proof.Machine.execInputSlotReceived slot word fresh s
  | .rateMeasurementComplete elapsed => Sys2Proof.Machine.execRateMeasurementComplete elapsed s
  | .rateMeasurementLoss => Sys2Proof.Machine.execRateMeasurementLoss s
  | .clockLost => Sys2Proof.Machine.execClockLost s
  | .trackerTimeout => Sys2Proof.Machine.execTrackerTimeout s
  | .characterReceived c stopLow => Sys2Proof.Machine.execCharacterReceived c stopLow s

end Sys2Proof.Machine
end

