-- ==== Sys2Proof/Safety.lean ====
section
/-! DEFINITION. The terms the claims use: when a request is taken, what its reply adds, and the invariants of the tables. -/

namespace Sys2Proof.Machine

/-! ## Requests -/

/-- The CLU can take this request now (R174, R177): no RESET reply waits, and the request heads the receive queue or reaches an
empty one (notes/assumptions/1.md). -/
def Link.canTake (l : Link) (f : Frame) : Prop := l.resetWaits = false ∧ (l.rx = [] ∨ l.rx.head? = some f)

/-- A request that is taken, with disposition `d`, in an engine state that takes its kind (R163, R175 tests 1 to 4). -/
def Taken (k : Kind) (d : Byte) (r : Request) (s : State) : Prop :=
  s.link.canTake (requestFrame k.code r) ∧ r.disposition = d ∧ k.takenIn s.ec.engine = true

/-- A request taken to be applied (R175: disposition 0). -/
abbrev Applies (k : Kind) (r : Request) (s : State) : Prop := Taken k 0 r s

/-- A request taken to be staged (R175: disposition 1). -/
abbrev Stages (k : Kind) (r : Request) (s : State) : Prop := Taken k 1 r s

/-- The state once the request is out of the receive queue (R174). -/
def State.accepted (s : State) : State := { s with link := { s.link with rx := s.link.rx.tail } }

/-- The state with the reply to a request at the tail of the transmit queue (R175, R176). -/
def State.replied (k : Kind) (r : Request) (status : Status) (payload : List Byte) (s : State) : State :=
  s.send (.reply k.code r.tag status payload)

/-- The state `u` that a request reached from `s`, with its reply in the transmit queue: behind every frame that waited, and on
either side of an ALERT that the request itself formed (R176). -/
def State.repliedFrom (s : State) (k : Kind) (r : Request) (status : Status) (payload : List Byte) (u : State) : State :=
  State.placeReply (.reply k.code r.tag status payload) s.accepted u

/-! ## Ranges -/

/-- The sample range (00_scope.md, "Sample"). -/
def InSample (v : Int) : Prop := -8388608 ≤ v ∧ v ≤ 8388607

/-- Every element of a list is a sample. -/
def AllSamples (l : List Int) : Prop := ∀ v ∈ l, InSample v

/-- A map entry whose source, when it is a fixed sample, is in the sample range (R7). -/
def MapEntry.inRange (e : MapEntry) : Prop := e.mode = .fixed → InSample e.source

/-- A line whose damping memory is a sample and whose damping is below 65,536 (R39). -/
def Line.inRange (l : Line) : Prop := InSample l.dampMem ∧ l.damping ≤ 65535

/-- The ranges that a staged entry carries into the tables. -/
def Entry.samplesInRange : Entry → Prop
  | .lineSet _ p _ => ∀ d, p.damping = some d → d ≤ 65535
  | .outmapSet _ v => v.inRange
  | .outmapFill _ _ _ v => v.inRange
  | .tapSet _ _ _ | .tapFill _ _ _ _ | .slotSet _ _ | .modSet _ _ | .tempoSet _ => True

/-- Every entry that a list holds (R153). -/
def Sru.entries (u : Sru) : List Entry := u.staging ++ u.dueNow ++ u.queue.flatMap Action.entries

/-- Every stored sample, damping memory, received sample, bus value and fixed source lies in the sample range, and a driven output
slot carries 0 behind the 24 bits of its sample (R1, R9, R35, R101, R102). -/
structure State.SamplesInRange (s : State) : Prop where
  memory   : ∀ q ∈ s.dmc.memory, InSample q.2.value
  lines    : ∀ l ∈ s.dmc.lines.toList, l.inRange
  receive  : AllSamples s.port.receive
  previous : AllSamples s.port.previous
  before   : AllSamples s.port.before
  held     : AllSamples s.port.held.toList
  transmit : AllSamples s.port.transmit.toList
  edited   : ∀ e ∈ s.port.edited.toList, e.inRange
  inUse    : ∀ e ∈ s.port.inUse.toList, e.inRange
  returns  : ∀ v ∈ s.port.returnSlots, ∀ x, v = some x → x.setWidth 8 = 0
  buses    : AllSamples s.fe.busValues.toList
  entries  : ∀ e ∈ s.sru.entries, e.samplesInRange
  view     : ∀ c, s.fe.computation = some c → ∀ l ∈ c.view.lines.toList, l.inRange

/-! ## The control link and the conditions -/

/-- Every frame the queue holds has at most 1,024 payload bytes (R175). -/
def Frame.fits (f : Frame) : Prop := f.payload.length ≤ 1024

/-- What the receiver may have gathered (R172, R173): once both length bytes are there the length is 3 to 1,027, and no byte
beyond the check has been taken. -/
def Receiver.bounded : Receiver → Prop
  | .hunt => True
  | .collect bytes _ _ =>
    2 ≤ bytes.length → 3 ≤ claimedLength bytes ∧ claimedLength bytes ≤ 1027 ∧ bytes.length ≤ claimedLength bytes + 4

/-- At most four requests wait, at most four REJECT frames wait, and what is received is bounded (R173, R174, R176). -/
structure Link.Bounded (l : Link) : Prop where
  requests : l.rx.length ≤ 4
  rejects  : (l.tx.filter TxFrame.isReject).length ≤ 4
  frames   : ∀ f ∈ l.rx, f.fits
  receiver : l.receiver.bounded

/-- A condition record that keeps the order of its flags and its own details (R179 to R181). -/
structure Condition.Ordered (i : Fin 15) (c : Condition) : Prop where
  reported : c.reported = true → c.pending = true
  again    : c.again = true → c.reported = true
  present  : c.pending = true → c.first.isSome = true ∧ c.latest.isSome = true
  first    : ∀ o, c.first = some o → o.detail.code = i
  latest   : ∀ o, c.latest = some o → o.detail.code = i

/-- The alert latch and the records agree (R180): with the latch clear nothing is reported and nothing announceable waits, and
with the latch set an ALERT is outstanding, so that some condition is reported. -/
structure CondUnit.Consistent (u : CondUnit) : Prop where
  ordered : ∀ i : Fin 15, (u.conditions[i]).Ordered i
  clear   : u.latch = false → ∀ i : Fin 15, (u.conditions[i]).reported = false ∧ (u.conditions[i]).announceable = false
  set     : u.latch = true → ∃ i : Fin 15, (u.conditions[i]).reported = true

/-! ## Pages and the budget -/

/-- Every page in its place: the clean pool, the dirty queue, the scrubber, the page lists (R24). -/
def Dmc.allPlaces (d : Dmc) : List Page := d.clean ++ d.dirty ++ d.scrubber.toList ++ d.lines.toList.flatMap Line.pages

/-- A line record whose pages fit its state (R24, R39). -/
structure Line.Housed (l : Line) : Prop where
  none    : l.state = .free ∨ l.state = .waiting → l.pages = []
  full    : l.state = .active ∨ l.state = .closing → l.pages.length = l.pageCount
  count   : l.state ≠ .free → l.pageCount = (l.length + 4095) / 4096
  length  : l.state ≠ .free → 64 ≤ l.length ∧ l.length ≤ 1048576

/-- Each page stands in exactly one place, each line holds the pages its state gives it, the wait list holds each WAITING line once
and no other, and the promised pages are covered (R24, R45, R47). -/
structure Dmc.Partitioned (d : Dmc) : Prop where
  places   : d.allPlaces.Perm allPages
  lines    : ∀ k : LineIx, (d.lines[k]).Housed
  waits    : d.waitList.Nodup
  waiting  : ∀ k : LineIx, k ∈ d.waitList ↔ (d.lines[k]).state = .waiting
  promises : d.promised ≤ d.unowned

/-- The budget units that the records hold: 2 for a line that is not FREE, 4 for a tap that is not UNUSED (R105). -/
def State.unitsHeld (s : State) : Nat :=
  2 * (s.dmc.lines.toList.filter Line.isNotFree).length + 4 * (s.taps.toList.filter Tap.takesPart).length

/-- The ledger holds exactly the units of the records, within the capacity. A computation in progress counts as taking part only
the taps that still do, or that have left their life since its boundary (R104, R105). -/
structure State.LedgerExact (s : State) : Prop where
  used : s.ec.budgetUsed = s.unitsHeld
  fits : s.ec.budgetUsed ≤ s.ec.capacity
  view : ∀ c, s.fe.computation = some c → ∀ t : TapIx, c.advancesTap t = true → (s.taps[t]).takesPart = true

/-- Every line's reference count is the number of taps in use whose source or destination it is, and the lines of a tap in use are
not FREE and belong to its slot (R55, R68). -/
structure State.ReferencesExact (s : State) : Prop where
  counts : ∀ k : LineIx, (s.dmc.lines[k]).refs =
    ((List.finRange 256).filter fun t : TapIx => (s.taps[t]).takesPart && (s.taps[t]).references k).length
  lines  : ∀ (t : TapIx) (k : LineIx), (s.taps[t]).state ≠ .unused → (s.taps[t]).source = k ∨ (s.taps[t]).dest = .line k →
    (s.dmc.lines[k]).state ≠ .free ∧ (s.dmc.lines[k]).slot = (s.taps[t]).slot

/-! ## Taps in range -/

/-- A delay in the range of a line of the given length (R66). -/
def DelayFits (length d : Nat) : Prop := 256 ≤ d ∧ d ≤ (length - 1) * 256

/-- A gain that a tap with the destination may hold: the gain format, and within the feedback ceiling for a line (R75). -/
def Dest.admitsGain (d : Dest) (g : Int) : Prop :=
  match d with
  | .bus _ => -32768 ≤ g ∧ g ≤ 32767
  | .line _ => -16000 ≤ g ∧ g ≤ 16000

/-- A tap in use whose delays lie in the range of its source line, of the given length, and whose gains its destination admits
(R66, R75). -/
structure Tap.InRange (length : Nat) (t : Tap) : Prop where
  target     : DelayFits length t.target
  position   : DelayFits length t.position
  fading     : ∀ n k F p, t.retune = .fading n k F p → DelayFits length n ∧ ∀ q, p = some q → DelayFits length q
  gainTarget : t.dest.admitsGain t.gainTarget
  gain       : t.dest.admitsGain t.gain

/-- Every tap in use keeps its ranges (R66, R75). A tap that a computation in progress will advance is in use, with the destination
and the range of gains that its view holds (R104). -/
structure State.TapsInRange (s : State) : Prop where
  taps : ∀ t : TapIx, (s.taps[t]).state ≠ .unused → (s.taps[t]).InRange (s.dmc.lines[(s.taps[t]).source]).length
  view : ∀ c, s.fe.computation = some c → ∀ t : TapIx, c.advancesTap t = true →
    (s.taps[t]).state ≠ .unused ∧ (s.taps[t]).dest = (c.view.taps[t]).dest ∧
      (c.view.taps[t]).dest.admitsGain (c.view.taps[t]).gain ∧ (c.view.taps[t]).dest.admitsGain (c.view.taps[t]).gainTarget

/-! ## Retunes, tempo, slots, recall -/

/-- A retune mode and length in the range of the mode (R66). -/
def retuneLengthFits (m : RetuneMode) (n : Nat) : Prop :=
  match m with
  | .fade => 16 ≤ n ∧ n ≤ 16384
  | .glide => 16 ≤ n ∧ n ≤ 65535

/-- A tap whose retune fields agree with its retune state (R108). -/
structure Tap.RetuneAgrees (t : Tap) : Prop where
  target  : t.target = t.effectiveDestination
  idle    : t.retune = .idle → t.position = t.target
  fading  : ∀ n k F p, t.retune = .fading n k F p → k < F ∧ 16 ≤ F ∧ F ≤ 16384 ∧ p ≠ some n
  gliding : ∀ st, t.retune = .gliding st → 1 ≤ st ∧ t.position ≠ t.target
  length  : retuneLengthFits t.retuneMode t.retuneLength

/-- The retune lengths that a staged entry carries into the taps. -/
def Entry.retuneFits : Entry → Prop
  | .tapSet _ p _ => ∀ m n, p.retune = some (m, n) → retuneLengthFits m n
  | .lineSet _ _ _ | .tapFill _ _ _ _ | .slotSet _ _ | .modSet _ _ | .tempoSet _ | .outmapSet _ _ | .outmapFill _ _ _ _ => True

/-- Every tap's retune fields agree (R108), and what waits in the lists keeps them so. -/
structure State.RetunesAgree (s : State) : Prop where
  taps    : ∀ t : TapIx, (s.taps[t]).RetuneAgrees
  entries : ∀ e ∈ s.sru.entries, e.retuneFits

/-- A beat period in the range of the rate (R135). -/
def Engine.tempoFits (e : Engine) (b : Nat) : Prop := e.minBeat ≤ b ∧ b ≤ e.maxBeat

/-- The beat period that a staged entry carries. -/
def Entry.tempoFits (e : Engine) : Entry → Prop
  | .tempoSet b => e.tempoFits b
  | .lineSet _ _ _ | .tapSet _ _ _ | .tapFill _ _ _ _ | .slotSet _ _ | .modSet _ _ | .outmapSet _ _ | .outmapFill _ _ _ _ => True

/-- The tempo, the intervals and the beat phase keep their ranges (R135, R137). -/
structure State.TempoInRange (s : State) : Prop where
  tempo     : s.ec.tempoFits s.mu.tempo
  count     : s.mu.tracker.intervals.length ≤ 4
  intervals : ∀ i ∈ s.mu.tracker.intervals, s.ec.tempoFits i
  beatPhase : s.mu.beatPhase < s.mu.tempo
  entries   : ∀ e ∈ s.sru.entries, e.tempoFits s.ec

/-- A slot record in the ranges of R145, for windows of `W` frames. -/
structure Slot.InRange (W : Nat) (r : Slot) : Prop where
  target  : r.levelTarget ≤ 16384
  level   : r.level ≤ 16384
  limit   : 1 ≤ r.limit ∧ r.limit ≤ 255
  runaway : r.runaway ≤ 4
  window  : r.windowCount ≤ 254
  left    : r.windowLeft ≤ W

/-- The slot parts that a staged entry carries. -/
def Entry.slotFits : Entry → Prop
  | .slotSet _ p => (∀ l, p.level = some l → l ≤ 16384) ∧ ∀ n, p.limit = some n → 1 ≤ n ∧ n ≤ 255
  | .lineSet _ _ _ | .tapSet _ _ _ | .tapFill _ _ _ _ | .modSet _ _ | .tempoSet _ | .outmapSet _ _ | .outmapFill _ _ _ _ => True

/-- Every slot record keeps its ranges (R145), in the table and in the view of a computation, with W = fs/10. -/
structure State.SlotsInRange (s : State) : Prop where
  slots   : ∀ r ∈ s.sru.slots.toList, r.InRange (s.ec.fs / 10)
  view    : ∀ c, s.fe.computation = some c → ∀ r ∈ c.view.slots.toList, r.InRange (s.ec.fs / 10)
  entries : ∀ e ∈ s.sru.entries, e.slotFits

/-- The recall lists keep to their pool (R153) and the handles stay distinct (R156). -/
structure Sru.Bounded (u : Sru) : Prop where
  entries : u.heldEntries ≤ 256
  actions : u.queue.length ≤ 8
  handles : (u.queue.map Action.handle).Nodup

end Sys2Proof.Machine
end

