-- ==== Sys2Proof/WellFormed.lean ====
section
/-! DEFINITION. Which commands are well formed: those that the link can carry and the outside world can bring. A meaning is total
and answers an ill-formed command too. -/

namespace Sys2Proof

/-- A payload holds at most 1,024 bytes (R175). -/
def Request.fits (r : Request) : Bool := decide (r.payload.length ≤ 1024)

/-- The mode byte of a COMMIT is 1, AT (R155). -/
def Request.isAt (r : Request) : Bool := decide (r.payload.head? = some 1)

/-- The well-formed commands. -/
def Instr.wellFormed : Instr → Bool
  | .commitNow r => r.fits && !r.isAt
  | .commitAt r => r.fits && r.isAt
  | .unknownKindRequest k r => r.fits && (Machine.Kind.ofCode k).isNone
  | .frameComputationComplete strikes => strikes.all fun k => decide (k.address < 8388608)
  | .inputSlotReceived slot _ _ => decide (slot < 32)
  | .characterReceived _ _ | .frameClose _ | .resetTake | .powerOnReset | .frameTransmitDone | .frameBoundary
  | .pageClearComplete | .rateMeasurementComplete _ | .rateMeasurementLoss | .clockLost | .trackerTimeout => true
  | .status r | .init r | .start r | .stop r | .halt r | .resume r | .reset r | .timeGet r | .portDrive r | .portBypass r
  | .outmapSet r | .outmapFill r | .outmapGet r | .checkSet r | .checkRead r | .checkClear r | .lineOpen r | .lineSet r
  | .lineClose r | .lineReleaseTag r | .lineReleaseAll r | .lineGet r | .poolGet r | .tapCreate r | .tapSet r | .tapFill r
  | .tapFree r | .tapGet r | .modSet r | .modSync r | .modGet r | .tempoSet r | .beat r | .tempoGet r | .slotSet r
  | .slotClear r | .slotGet r | .discard r | .schedCancel r | .schedGet r | .condEnable r | .condGet r | .alertRelease r
  | .probeSet r | .probeGet r | .countersGet r => r.fits

end Sys2Proof
end

