-- ==== Sys2Proof/Certificates/Slice0/Obligations.lean ====
section
/-! DEFINITION. The statements for the provers. -/

section
open Sys2Proof Sys2Proof.Machine

/-! ## The machine -/

/-- The step takes the command at the front of the queue and runs it on the state with the queue's rest; on an empty queue the
block idles (notes/assumptions/2.md). -/
def Obligations.StepRunsTheFrontCommand : Prop :=
  (∀ (c : Instr) (rest : List Instr) (s : State), s.pending = c :: rest → step s = exec c { s with pending := rest }) ∧
    ∀ s : State, s.pending = [] → step s = .next s

/-- Every command answers a next state and leaves the queue of waiting commands as it is. That no command faults or is refused is the
model's reading of a manual that names no event that stops the part (notes/assumptions/25.md). -/
def Obligations.EveryCommandCompletes : Prop :=
  ∀ (c : Instr) (s : State), ∃ t, exec c s = .next t ∧ t.pending = s.pending

/-- Tests 1 to 5 of R175, in their order, with the state table of R163 and the stageable kinds of R154: each
refusal leaves everything but the link alone and its reply carries no payload. A request that the CLU cannot take now (another frame
heads the queue, or a RESET reply waits) changes nothing; that such a command is no event at all is the model's choice
(notes/assumptions/1.md). -/
def Obligations.RequestTestsInOrder : Prop :=
  (∀ (k : Kind) (r : Request) (s : State), ¬ s.link.canTake (requestFrame k.code r) → exec (commandOf k r) s = .next s) ∧
    (∀ (b : Byte) (r : Request) (s : State), ¬ s.link.canTake (requestFrame b r) → exec (.unknownKindRequest b r) s = .next s) ∧
    (∀ (b : Byte) (r : Request) (s : State), Kind.ofCode b = none → s.link.canTake (requestFrame b r) →
      exec (.unknownKindRequest b r) s = .next (s.accepted.send (.reply b r.tag .unknownKind []))) ∧
    (∀ (k : Kind) (r : Request) (s : State), s.link.canTake (requestFrame k.code r) →
      (r.disposition ≠ 0 → r.disposition ≠ 1 →
        exec (commandOf k r) s = .next (s.accepted.replied k r .badValue [])) ∧
      (r.disposition = 1 → k.stageable = false →
        exec (commandOf k r) s = .next (s.accepted.replied k r .notStageable [])) ∧
      (r.disposition = 0 ∨ r.disposition = 1 ∧ k.stageable = true →
        (k.takenIn s.ec.engine = false →
          exec (commandOf k r) s = .next (s.accepted.replied k r .wrongState [])) ∧
        (k.takenIn s.ec.engine = true → r.payload.length ≠ k.payloadLength →
          exec (commandOf k r) s = .next (s.accepted.replied k r .badLength [])))) ∧
  (∀ (k : Kind) (e : EngineState), k.takenIn e = true ↔
      if k ∈ [Kind.status, .timeGet, .poolGet, .condEnable, .condGet, .alertRelease, .countersGet, .reset] then True
      else if k = .init then e = .unconfigured ∨ e = .stopped ∨ e = .halted
      else e = .stopped ∨ e = .running ∨ e = .stopping ∨ e = .halted) ∧
    ∀ k : Kind, k.stageable = true ↔
      k ∈ [Kind.lineSet, .tapSet, .tapFill, .modSet, .tempoSet, .slotSet, .outmapSet, .outmapFill]

/-- Every request taken is answered with exactly one reply, which carries its kind and tag; at most one ALERT is formed with it, on
either side of the reply; a refused request changes nothing but the link, and its reply carries no payload. -/
def Obligations.ExactlyOneReply : Prop :=
  ∀ (c : Instr) (b : Byte) (r : Request) (s : State), c.wellFormed = true → kindAndRequest c = some (b, r) →
    s.link.canTake (requestFrame b r) →
    ∃ t status payload alerts, exec c s = .next t ∧ t.link.rx = s.link.rx.tail ∧
      (alerts = [] ∨ ∃ items, alerts = [TxFrame.alert items]) ∧
      (t.link.tx = s.link.tx ++ .reply b r.tag status payload :: alerts ∨
        t.link.tx = s.link.tx ++ alerts ++ [.reply b r.tag status payload]) ∧
      (0x10 ≤ status.code → t = s.accepted.send (.reply b r.tag status []))

/-! ## Invariants that every step keeps -/

/-- Delay memory keeps its canonical form at every step; the form is the model's own (notes/assumptions/19.md). -/
def Obligations.MemoryStaysCanonical : Prop :=
  ∀ s t : State, s.dmc.memory.wf → step s = .next t → t.dmc.memory.wf

/-- Every stored sample, damping memory, received sample, bus value and fixed source stays in the sample range, and every driven output
slot carries 0 in the 8 bit periods behind its sample (R1, R9, R35, R101, R102). -/
def Obligations.SamplesStayInRange : Prop :=
  ∀ s t : State, s.SamplesInRange → step s = .next t → t.SamplesInRange

/-- At most four requests wait and at most four REJECT frames wait, and no frame grows beyond its length, at every step. -/
def Obligations.LinkStaysBounded : Prop :=
  ∀ s t : State, s.link.Bounded → step s = .next t → t.link.Bounded

/-- The condition records and the alert latch stay consistent: at most one ALERT is unreleased, and nothing announceable waits while
the latch is clear. -/
def Obligations.AlertsStayConsistent : Prop :=
  ∀ s t : State, s.cu.Consistent → step s = .next t → t.cu.Consistent

/-- Every page stays in exactly one place, every line holds the pages its state gives it, the wait list holds exactly the WAITING
lines, and the promised pages never exceed the unowned ones. -/
def Obligations.PagesStayPartitioned : Prop :=
  ∀ s t : State, s.dmc.Partitioned → step s = .next t → t.dmc.Partitioned

/-- At every step the budget ledger holds exactly the units of the lines and taps, within the capacity (R105), and the reference count
of every line is the number of taps in use that name it, each of them of the line's slot and none on a FREE line (R55, R68). The
premises are the invariant of PagesStayPartitioned, whose wait list holds the WAITING lines alone, and for the counts that of the
ledger. -/
def Obligations.LedgerAndReferencesStayExact : Prop :=
  (∀ s t : State, s.dmc.Partitioned → s.LedgerExact → step s = .next t → t.LedgerExact) ∧
    ∀ s t : State, s.dmc.Partitioned → s.LedgerExact → s.ReferencesExact → step s = .next t → t.ReferencesExact

/-- The retune fields of every tap stay in agreement: the target equals the effective destination, an IDLE tap rests at its target,
and a fade count stays below its fade length. -/
def Obligations.RetunesStayInAgreement : Prop :=
  ∀ s t : State, s.RetunesAgree → step s = .next t → t.RetunesAgree

/-- The tempo and the tracker's intervals stay within a fifth and three halves of the rate, at most four intervals are kept, and the
beat phase stays below the tempo. -/
def Obligations.TempoStaysInRange : Prop :=
  ∀ s t : State, s.TempoInRange → step s = .next t → t.TempoInRange

/-- At every step each effect-slot record keeps the ranges of its fields, its window no longer than fs/10 (R145), and each tap in use
keeps its target and positions in the range of its source line (R66) and its gains in the gain format, within the feedback ceiling
where its destination is a line (R75). The premises of the taps are the invariants of the pages and of the references. -/
def Obligations.SlotsAndTapsStayInRange : Prop :=
  (∀ s t : State, s.SlotsInRange → step s = .next t → t.SlotsInRange) ∧
    ∀ s t : State, s.dmc.Partitioned → s.ReferencesExact → s.TapsInRange → step s = .next t → t.TapsInRange

/-- The recall lists hold at most 256 entries together and the queue at most 8 actions with distinct handles, at every step. -/
def Obligations.RecallStaysBounded : Prop :=
  ∀ s t : State, s.sru.Bounded → step s = .next t → t.sru.Bounded

/-- No sequence state ever becomes all zeros: the pattern generator's, the modulators', and the checker's reference when it has
one. -/
def Obligations.SequencesStayNonZero : Prop :=
  ∀ s t : State,
    (s.port.generator ≠ 0 ∧ s.port.checker.reference ≠ some 0 ∧ ∀ i : ModIx, (s.mu.mods[i]).random ≠ 0) → step s = .next t →
    (t.port.generator ≠ 0 ∧ t.port.checker.reference ≠ some 0 ∧ ∀ i : ModIx, (t.mu.mods[i]).random ≠ 0)

/-- The state after a reset meets every invariant above. The model's own fields start as notes/assumptions/17.md says. -/
def Obligations.ResetMeetsTheInvariants : Prop :=
  State.reset.dmc.memory.wf ∧ State.reset.SamplesInRange ∧ State.reset.link.Bounded ∧ State.reset.cu.Consistent ∧
    State.reset.dmc.Partitioned ∧ State.reset.LedgerExact ∧ State.reset.RetunesAgree ∧ State.reset.TempoInRange ∧
    State.reset.SlotsInRange ∧ State.reset.ReferencesExact ∧ State.reset.TapsInRange ∧ State.reset.sru.Bounded ∧ State.reset.port.generator ≠ 0 ∧
    State.reset.port.checker.reference ≠ some 0 ∧ ∀ i : ModIx, (State.reset.mu.mods[i]).random ≠ 0

/-- Delay memory is changed by the frame computation, by a page clear, by the damage that strikes it and by a clear that a reset or
INIT abandons, and by nothing else; a page clear and an abandoned clear reach the page in the scrubber alone (R28, R35, R36). Which
samples an abandoned clear had zeroed is a free value (notes/assumptions/5.md). -/
def Obligations.DelayMemoryFrame : Prop :=
  (∀ (c : Instr) (s t : State), exec c s = .next t → (∀ r, c ≠ .init r) → c ≠ .resetTake → c ≠ .powerOnReset →
      c ≠ .frameBoundary → (∀ l, c ≠ .frameComputationComplete l) → c ≠ .pageClearComplete →
      t.dmc.memory = s.dmc.memory) ∧
    (∀ (c : Instr) (s t : State) (a : Nat), exec c s = .next t → ((∃ r, c = .init r) ∨ c = .resetTake ∨ c = .powerOnReset) →
      t.dmc.memory.read a = s.dmc.memory.read a ∨
        ∃ p, s.dmc.scrubber = some p ∧ a / 4096 = p.val ∧ t.dmc.memory.read a = Stored.blank) ∧
    ∀ (s t : State) (p : Page) (a : Nat), exec .pageClearComplete s = .next t → s.dmc.scrubber = some p →
      t.dmc.memory.read a = if a / 4096 = p.val then Stored.blank else s.dmc.memory.read a

/-- R30: only a reset makes the engine UNCONFIGURED; it leaves the scrubber IDLE, with every page back in the dirty queue; and the
scrubber stays IDLE until INIT is taken. -/
def Obligations.UnconfiguredScrubberIsIdle : Prop :=
  (∀ (c : Instr) (s t : State), exec c s = .next t → s.ec.engine ≠ .unconfigured → t.ec.engine = .unconfigured →
      (c = .resetTake ∨ c = .powerOnReset) ∧ t.dmc.scrubber = none ∧ t.dmc.dirty = allPages ∧ t.dmc.clean = []) ∧
    ∀ (c : Instr) (s t : State), exec c s = .next t → s.ec.engine = .unconfigured → s.dmc.scrubber = none → (∀ r, c ≠ .init r) →
      t.ec.engine = .unconfigured ∧ t.dmc.scrubber = none


/-! ## Conditions and replies -/

/-- Raising a condition writes its own record alone, by its flags, with its stamp (R179); the alert test forms one ALERT of every
announceable condition, in ascending code order, exactly when the latch is clear and there is one (R180). An event other than a frame
computation raises its condition with the frame counter as stamp and makes the alert test at once (R179). -/
def Obligations.ConditionsAreRaisedAndAnnounced : Prop :=
  (∀ (n : Word32) (d : Detail) (s : State) (i : Fin 15),
      let c := s.cu.conditions[i]
      let o : Occurrence := { stamp := n, detail := d }
      (s.post n d).cu.conditions[i] =
        if i ≠ d.code then c
        else if c.reported = true then { c with again := true, latest := some o }
        else if c.pending = true then { c with latest := some o }
        else { c with pending := true, first := some o, latest := some o }) ∧
    (∀ s : State, (s.cu.latch = true ∨ ∀ i : Fin 15, (s.cu.conditions[i]).announceable = false) → s.alertTest = s) ∧
    (∀ (s : State) (j : Fin 15), s.cu.latch = false → (s.cu.conditions[j]).announceable = true →
      (s.alertTest).cu.latch = true ∧
      (s.alertTest).link.tx = s.link.tx ++ [.alert (((List.finRange 15).filter fun i : Fin 15 =>
        (s.cu.conditions[i]).announceable).filterMap fun i : Fin 15 => (s.cu.conditions[i]).first)] ∧
      ∀ i : Fin 15, (s.alertTest).cu.conditions[i] =
        if (s.cu.conditions[i]).announceable = true then { s.cu.conditions[i] with reported := true } else s.cu.conditions[i]) ∧
    ∀ (d : Detail) (s : State), s.raise d = (s.post s.ec.counter d).alertTest

/-- STATUS, TIME_GET, OUTMAP_GET, POOL_GET, TEMPO_GET, SCHED_GET and COND_GET answer OK with what their rules list and change
nothing. -/
def Obligations.QueriesReportAndKeep : Prop :=
  ∀ (r : Request) (s : State), r.payload = [] →
    (Applies .status r s → exec (.status r) s = .next (s.accepted.replied .status r .ok
      ([byteOf s.ec.engine.code, byteOf s.ec.reasons.code, byteOf s.ec.haltAction.code, byteOrNone (s.ec.rate.map Rate.code)]
        ++ bytesOf 4 s.ec.counter.toNat ++ bytesOf 2 s.ec.fade ++ bytesOf 2 s.ec.goal
        ++ [flagByte s.ec.clockAbsent, byteOf s.ec.rateResult.code]
        ++ bytesOf 2 s.ec.budgetUsed ++ bytesOf 2 s.ec.capacity ++ [flagByte s.port.drive, flagByte s.port.bypass]))) ∧
    (Applies .timeGet r s → exec (.timeGet r) s = .next (s.accepted.replied .timeGet r .ok (bytesOf 4 s.ec.counter.toNat))) ∧
    (Applies .outmapGet r s → exec (.outmapGet r) s = .next (s.accepted.replied .outmapGet r .ok
      ((s.port.edited.toList.flatMap fun e => byteOf e.mode.code :: signedBytes 4 e.source) ++ [byteOf s.ec.timeSlots]))) ∧
    (Applies .poolGet r s → exec (.poolGet r) s = .next (s.accepted.replied .poolGet r .ok
      (bytesOf 2 s.dmc.clean.length ++ bytesOf 2 s.dmc.dirty.length ++ [byteOf s.dmc.scrubber.toList.length]
        ++ bytesOf 2 (match s.dmc.scrubber with | some p => p.val | none => 0xFFFF)
        ++ bytesOf 2 (s.dmc.lines.toList.map fun l => l.pages.length).sum
        ++ bytesOf 2 ((s.dmc.lines.toList.filter fun l => l.state = .waiting).map fun l => l.pageCount).sum
        ++ byteOf s.dmc.waitList.length :: s.dmc.waitList.map fun k => byteOf k))) ∧
    (Applies .tempoGet r s → exec (.tempoGet r) s = .next (s.accepted.replied .tempoGet r .ok
      (bytesOf 4 s.mu.tempo ++ [byteOf s.mu.tracker.state.code]
        ++ (match s.mu.tracker.lastMark with | some m => 1 :: bytesOf 4 m.toNat | none => 0 :: bytesOf 4 0)
        ++ byteOf s.mu.tracker.intervals.length :: s.mu.tracker.intervals.flatMap (bytesOf 4)
        ++ bytesOf 4 s.mu.beatPhase))) ∧
    (Applies .schedGet r s → exec (.schedGet r) s = .next (s.accepted.replied .schedGet r .ok
      (bytesOf 2 s.sru.freeEntries ++ bytesOf 2 s.sru.staging.length ++ bytesOf 2 s.sru.dueNow.length
        ++ byteOf s.sru.queue.length :: s.sru.queue.flatMap fun a =>
          byteOf a.handle :: bytesOf 4 a.frame.toNat ++ bytesOf 2 a.entries.length ++ [flagByte a.isDue]))) ∧
    (Applies .condGet r s → exec (.condGet r) s = .next (s.accepted.replied .condGet r .ok
      (flagByte s.cu.latch :: s.cu.conditions.toList.flatMap fun c =>
        byteOf (c.enabled.toNat + 2 * c.pending.toNat + 4 * c.reported.toNat + 8 * c.again.toNat)
          :: occurrenceBytes c.first ++ occurrenceBytes c.latest)))

/-- LINE_GET, TAP_GET and MOD_GET answer OK with the record of the index, field by field in the order of R64, R87 and R134, and
change nothing; an index beyond the table is refused BAD_INDEX. -/
def Obligations.RecordQueriesReportAndKeep : Prop :=
  ∀ (r : Request) (s : State) (x : Byte), r.payload = [x] →
    (Applies .lineGet r s →
      (63 < x.toNat → exec (.lineGet r) s = .next (s.accepted.replied .lineGet r .badIndex [])) ∧
      ∀ k : LineIx, k.val = x.toNat →
        let l := s.dmc.lines[k]
        exec (.lineGet r) s = .next (s.accepted.replied .lineGet r .ok
          ([byteOf l.state.code, byteOf l.slot, l.tag, flagByte l.keep] ++ bytesOf 4 l.length ++ bytesOf 2 l.pageCount
            ++ bytesOf 4 l.w ++ [byteOrNone l.source] ++ signedBytes 2 l.sendTarget ++ signedBytes 2 l.sendGain
            ++ bytesOf 2 l.damping ++ signedBytes 4 l.dampMem ++ bytesOf 2 l.refs
            ++ [byteOf (if k ∈ s.dmc.waitList then s.dmc.waitList.idxOf k + 1 else 0)]
            ++ l.pages.flatMap fun g => bytesOf 2 g))) ∧
    (Applies .tapGet r s → ∀ j : TapIx, j.val = x.toNat →
      let t := s.taps[j]
      exec (.tapGet r) s = .next (s.accepted.replied .tapGet r .ok
        ([byteOf t.state.code, byteOf t.slot, byteOf t.source]
          ++ (match t.dest with | .bus b => [0, byteOf b] | .line k => [1, byteOf k])
          ++ (match t.spec with | .fixed v => 0 :: bytesOf 4 v | .tempo num den => [1, byteOf num, byteOf den, 0, 0])
          ++ bytesOf 4 t.target ++ [byteOf t.retuneMode.code] ++ bytesOf 2 t.retuneLength
          ++ (match t.retune with
            | .idle => 0 :: bytesOf 4 t.position ++ List.replicate 17 0
            | .fading n k F none => 1 :: bytesOf 4 t.position ++ bytesOf 4 n ++ bytesOf 2 k ++ bytesOf 2 F ++ List.replicate 9 0
            | .fading n k F (some p) =>
              1 :: bytesOf 4 t.position ++ bytesOf 4 n ++ bytesOf 2 k ++ bytesOf 2 F ++ [0, 0, 0, 0, 1] ++ bytesOf 4 p
            | .gliding st => 2 :: bytesOf 4 t.position ++ List.replicate 8 0 ++ bytesOf 4 st ++ List.replicate 5 0)
          ++ [byteOrNone (t.modulator.map Fin.val)] ++ bytesOf 2 t.depth ++ signedBytes 2 t.gainTarget
          ++ signedBytes 2 t.gain))) ∧
    (Applies .modGet r s →
      (15 < x.toNat → exec (.modGet r) s = .next (s.accepted.replied .modGet r .badIndex [])) ∧
      ∀ i : ModIx, i.val = x.toNat →
        let m := s.mu.mods[i]
        exec (.modGet r) s = .next (s.accepted.replied .modGet r .ok
          (byteOf m.shape.code :: bytesOf 4 m.increment
            ++ (match m.lock with | some l => [byteOf l.num, byteOf l.den] | none => [0, 0]) ++ [flagByte m.beatSync]
            ++ bytesOf 4 m.phase ++ bytesOf 2 m.random.toNat ++ signedBytes 2 m.randomCurrent
            ++ signedBytes 2 m.randomPrevious ++ signedBytes 2 m.value)))

/-! ## Engine -/

/-- INIT sets every block to its INIT values for the rate, makes the engine INITIALIZING with page 0 in the scrubber and every other
page dirty, and keeps the drive and bypass flags, the condition records, the latch and the link (R22, R33, R65, R88, R89, R144, R161,
R164, R187). A rate or halt action outside its set is refused BAD_VALUE (R164). That what governs the frame in progress stays as its
boundary took it is the model's reading (notes/assumptions/14.md). -/
def Obligations.InitSetsEveryBlock : Prop :=
  (∀ (r : Request) (s : State) (rate action : Byte), Applies .init r s → r.payload = [rate, action] →
    1 < rate.toNat ∨ 1 < action.toNat → exec (.init r) s = .next (s.accepted.replied .init r .badValue [])) ∧
  ∀ (r : Request) (s : State) (rate : Rate) (action : HaltAction), Applies .init r s →
    r.payload = [byteOf rate.code, byteOf action.code] →
    ∃ t, exec (.init r) s = .next t ∧
      t.ec = {
        engine := .initializing, reasons := HaltReasons.none, haltAction := action, rate := some rate, counter := 0,
        fade := 0, goal := 0, clockAbsent := false, clockTimer := false, span := none, rateResult := .none,
        tally := Tally.empty, budgetUsed := 0 } ∧
      (∀ k : LineIx, t.dmc.lines[k] = Line.freeValue) ∧ t.dmc.waitList = [] ∧ t.dmc.roundRobin = 0 ∧
      t.dmc.clean = [] ∧ t.dmc.scrubber = some 0 ∧ t.dmc.dirty = allPages.drop 1 ∧
      (∀ j : TapIx, t.taps[j] = Tap.freeValue) ∧
      t.mu.tempo = rate.fs / 2 ∧ t.mu.beatPhase = 0 ∧ t.mu.tracker = Tracker.resetValue ∧
      (∀ i : ModIx, t.mu.mods[i] = Modulator.resetValue i) ∧
      (∀ b : BusIx, t.fe.busValues[b] = 0) ∧ t.fe.computation = none ∧
      (∀ i : SlotIx, t.sru.slots[i] = Slot.resetValue) ∧ t.sru.staging = [] ∧ t.sru.dueNow = [] ∧ t.sru.queue = [] ∧
      t.cu = { s.cu with probe := Probe.resetValue, counters := Counters.zero } ∧
      t.port.receive = List.replicate rate.timeSlots 0 ∧ t.port.previous = List.replicate rate.timeSlots 0 ∧
      t.port.before = List.replicate rate.timeSlots 0 ∧ (∀ b : BusIx, t.port.held[b] = 0 ∧ t.port.transmit[b] = 0) ∧
      (∀ e : EntryIx, t.port.edited[e] = MapEntry.resetValue ∧ t.port.inUse[e] = MapEntry.resetValue) ∧
      t.port.drive = s.port.drive ∧ t.port.bypass = s.port.bypass ∧ t.port.latch = s.port.latch ∧ t.port.generator = 1 ∧
      t.port.checker = Checker.resetValue ∧
      t.link = { s.link with rx := s.link.rx.tail, tx := s.link.tx ++ [.reply Kind.init.code r.tag .ok []] } ∧
      t.pending = s.pending

/-- START from STOPPED makes the engine RUNNING with M 0 and goal 256 and begins every runaway window; in RUNNING it changes nothing;
from STOPPING it turns the fade back up; in HALTED it is refused WRONG_STATE. STOP in RUNNING makes the engine STOPPING with goal 0; in
STOPPED and STOPPING it changes nothing; from HALTED it makes the engine STOPPED at once, clears the halt reasons and raises STOP_DONE
(R148, R165, R170). The marks on a computation in progress are the model's (notes/assumptions/15.md); that a START in STOPPING leaves the
clock-loss timer as it is, also while the clock is absent, is the model's choice (notes/assumptions/32.md). -/
def Obligations.StartAndStopByState : Prop :=
  (∀ (r : Request) (s : State), Applies .start r s → r.payload = [] →
    (s.ec.engine = .stopped →
      exec (.start r) s = .next ((({ s.accepted with
        ec := { s.ec with engine := .running, fade := 0, goal := 256, clockTimer := true },
        sru := { s.sru with slots := mapIx (fun _ x => { x with
          windowCount := 0, windowSaturated := false, windowLeft := s.ec.fs / 10 }) s.sru.slots } } : State).note fun w =>
            { w with fade := true, windows := true }).replied .start r .ok [])) ∧
    (s.ec.engine = .running → exec (.start r) s = .next (s.accepted.replied .start r .ok [])) ∧
    (s.ec.engine = .stopping →
      exec (.start r) s = .next (({ s.accepted with ec := { s.ec with engine := .running, goal := 256 } } : State).replied
        .start r .ok [])) ∧
    (s.ec.engine = .halted → exec (.start r) s = .next (s.accepted.replied .start r .wrongState []))) ∧
  ∀ (r : Request) (s : State), Applies .stop r s → r.payload = [] →
    (s.ec.engine = .running →
      exec (.stop r) s = .next (({ s.accepted with ec := { s.ec with engine := .stopping, goal := 0 } } : State).replied
        .stop r .ok [])) ∧
    (s.ec.engine = .stopped ∨ s.ec.engine = .stopping → exec (.stop r) s = .next (s.accepted.replied .stop r .ok [])) ∧
    (s.ec.engine = .halted →
      exec (.stop r) s = .next (s.repliedFrom .stop r .ok [] (({ s.accepted with ec := { s.ec with
        engine := .stopped, reasons := HaltReasons.none, clockAbsent := false, clockTimer := false } } : State).raise
          (.stopDone s.ec.counter))))

/-- HALT in RUNNING or STOPPING makes the engine HALTED with reason HOST and raises HALTED; in HALTED it adds HOST, and raises HALTED
only when HOST was not there; in STOPPED it is refused WRONG_STATE. RESUME in HALTED is refused STILL_FAULTED while RATE is a reason
and the last measurement disagrees; otherwise the engine becomes RUNNING with no reasons, M 0 and goal 256, and the runaway windows
keep; elsewhere it is refused WRONG_STATE (R167, R168, R170). -/
def Obligations.HaltAndResumeByState : Prop :=
  (∀ (r : Request) (s : State), Applies .halt r s → r.payload = [] →
    (s.ec.engine = .running ∨ s.ec.engine = .stopping →
      exec (.halt r) s = .next (s.repliedFrom .halt r .ok [] (({ s.accepted with ec := { s.ec with
        engine := .halted, reasons := { s.ec.reasons with host := true }, clockAbsent := false, clockTimer := false } } : State).raise
          (.halted { s.ec.reasons with host := true })))) ∧
    (s.ec.engine = .halted → s.ec.reasons.host = false →
      exec (.halt r) s = .next (s.repliedFrom .halt r .ok [] (({ s.accepted with ec := { s.ec with
        reasons := { s.ec.reasons with host := true } } } : State).raise (.halted { s.ec.reasons with host := true })))) ∧
    (s.ec.engine = .halted → s.ec.reasons.host = true → s.cu.Consistent →
      exec (.halt r) s = .next (s.accepted.replied .halt r .ok [])) ∧
    (s.ec.engine = .stopped → exec (.halt r) s = .next (s.accepted.replied .halt r .wrongState []))) ∧
  ∀ (r : Request) (s : State), Applies .resume r s → r.payload = [] →
    (s.ec.engine ≠ .halted → exec (.resume r) s = .next (s.accepted.replied .resume r .wrongState [])) ∧
    (s.ec.engine = .halted → s.ec.reasons.rate = true → s.ec.rateResult = .disagree →
      exec (.resume r) s = .next (s.accepted.replied .resume r .stillFaulted [])) ∧
    (s.ec.engine = .halted → (s.ec.reasons.rate = false ∨ s.ec.rateResult ≠ .disagree) →
      exec (.resume r) s = .next ((({ s.accepted with ec := { s.ec with
        engine := .running, reasons := HaltReasons.none, fade := 0, goal := 256, clockTimer := true } } : State).note fun w => { w with fade := true }).replied .resume r .ok []))

/-- RESET forms its reply and changes nothing else; the reset is due once that reply has been sent; RESET_TAKE then, and the pin at
any time, set every block to its reset values, keeping the stored samples but for a clear that is abandoned (R32, R171, R177). The
mark that the reset is due is the model's own (notes/assumptions/11.md). -/
def Obligations.ResetFollowsItsReply : Prop :=
  (∀ (r : Request) (s : State), Applies .reset r s → r.payload = [] →
      exec (.reset r) s = .next (s.accepted.replied .reset r .ok [])) ∧
    (∀ (s : State) (tag : Byte) (rest : List TxFrame), s.link.resetSent = false →
      s.link.tx = .reply Kind.reset.code tag .ok [] :: rest →
      exec .frameTransmitDone s = .next { s with link := { s.link with tx := rest, resetSent := true } }) ∧
    (∀ (s : State) (f : TxFrame) (rest : List TxFrame), s.link.resetSent = false → s.link.tx = f :: rest →
      f.isResetReply = false →
      exec .frameTransmitDone s = .next { s with link := { s.link with tx := rest } }) ∧
    ∀ (s : State) (c : Instr), c = .powerOnReset ∨ c = .resetTake ∧ s.link.resetSent = true →
      ∃ m n, exec c s = .next { State.reset with
          dmc := { State.reset.dmc with memory := m }, choices := n, pending := s.pending } ∧
        (s.dmc.scrubber = none → m = s.dmc.memory) ∧
        ∀ (p : Page) (a : Nat), s.dmc.scrubber = some p → a / 4096 ≠ p.val → m.read a = s.dmc.memory.read a

/-! ## Ports -/

/-- PORT_DRIVE and PORT_BYPASS set their flag to the value given and nothing else; a value other than 0 or 1 is refused
BAD_VALUE (R10, R11). -/
def Obligations.PortFlagsAreSet : Prop :=
  (∀ (r : Request) (s : State) (b : Bool), r.payload = [flagByte b] →
    (Applies .portDrive r s → exec (.portDrive r) s =
      .next (({ s.accepted with port := { s.port with drive := b } } : State).replied .portDrive r .ok [])) ∧
    (Applies .portBypass r s → exec (.portBypass r) s =
      .next (({ s.accepted with port := { s.port with bypass := b } } : State).replied .portBypass r .ok []))) ∧
    ∀ (r : Request) (s : State) (v : Byte), r.payload = [v] → v ≠ 0 → v ≠ 1 →
      (Applies .portDrive r s → exec (.portDrive r) s = .next (s.accepted.replied .portDrive r .badValue [])) ∧
      (Applies .portBypass r s → exec (.portBypass r) s = .next (s.accepted.replied .portBypass r .badValue []))

/-- OUTMAP_SET checks the entry, the mode and an index source in that order, clamps a FIXED source, and writes the one entry of the
edited map (R7, R12). -/
def Obligations.OutmapSetWritesOneEntry : Prop :=
  ∀ (r : Request) (s : State) (e m s3 s2 s1 s0 : Byte), Applies .outmapSet r s → r.payload = [e, m, s3, s2, s1, s0] →
    let src := signedOf [s3, s2, s1, s0]
    let refused (st : Status) := exec (.outmapSet r) s = .next (s.accepted.replied .outmapSet r st [])
    (31 < e.toNat → refused .badIndex) ∧
    ∀ i : EntryIx, i.val = e.toNat →
      let wrote (mode : OutMode) (source : Int) (st : Status) := exec (.outmapSet r) s =
        .next (({ s.accepted with port := { s.port with
          edited := s.port.edited.set i { mode := mode, source := source } } } : State).replied .outmapSet r st [])
      (6 < m.toNat → refused .badValue) ∧
      (m = 0 → (0 ≤ src ∧ src ≤ 15 → wrote .ret src .ok) ∧ (¬ (0 ≤ src ∧ src ≤ 15) → refused .badIndex)) ∧
      (m = 1 → (0 ≤ src ∧ src < s.ec.timeSlots → wrote .directFast src .ok) ∧
        (¬ (0 ≤ src ∧ src < s.ec.timeSlots) → refused .badIndex)) ∧
      (m = 2 → (0 ≤ src ∧ src < s.ec.timeSlots → wrote .directAligned src .ok) ∧
        (¬ (0 ≤ src ∧ src < s.ec.timeSlots) → refused .badIndex)) ∧
      (m = 3 → (InSample src → wrote .fixed src .ok) ∧
        (src < -8388608 → wrote .fixed (-8388608) .okClamped) ∧ (8388607 < src → wrote .fixed 8388607 .okClamped)) ∧
      (m = 4 → wrote .mute 0 .ok) ∧ (m = 5 → wrote .released 0 .ok) ∧ (m = 6 → wrote .pattern 0 .ok)

/-- OUTMAP_FILL writes the range from first upward to last, wrapping at 31; with step 1 an index source advances by one from entry to
entry and wraps at 16 or at S; the reply carries the number of entries. Its four checks come first, in their order (R13). -/
def Obligations.OutmapFillWritesItsRange : Prop :=
  (∀ (r : Request) (s : State) (first last mode step s3 s2 s1 s0 : Byte), Applies .outmapFill r s →
    r.payload = [first, last, mode, step, s3, s2, s1, s0] →
    let src := signedOf [s3, s2, s1, s0]
    let refused (st : Status) := exec (.outmapFill r) s = .next (s.accepted.replied .outmapFill r st [])
    (31 < first.toNat ∨ 31 < last.toNat → refused .badIndex) ∧
    (first.toNat ≤ 31 → last.toNat ≤ 31 →
      (6 < mode.toNat → refused .badValue) ∧
      (mode.toNat ≤ 6 → 1 < step.toNat → refused .badValue) ∧
      (step.toNat ≤ 1 → (mode = 0 → ¬ (0 ≤ src ∧ src ≤ 15) → refused .badIndex) ∧
        (mode = 1 ∨ mode = 2 → ¬ (0 ≤ src ∧ src < s.ec.timeSlots) → refused .badIndex)))) ∧
  ∀ (r : Request) (s : State) (first last mode step s3 s2 s1 s0 : Byte) (i j : EntryIx) (m : OutMode) (st : Bool),
    Applies .outmapFill r s → r.payload = [first, last, mode, step, s3, s2, s1, s0] → i.val = first.toNat → j.val = last.toNat →
    mode = byteOf m.code → step = flagByte st →
    let src := signedOf [s3, s2, s1, s0]
    (m = .ret → 0 ≤ src ∧ src ≤ 15) → (m = .directFast ∨ m = .directAligned → 0 ≤ src ∧ src < s.ec.timeSlots) →
    let span := (j.val + 32 - i.val) % 32
    let source (n : Nat) : Int :=
      match m with
      | .ret => if st then (src + n) % 16 else src
      | .directFast | .directAligned => if st then (src + n) % s.ec.timeSlots else src
      | .fixed => max (-8388608) (min 8388607 src)
      | .mute | .released | .pattern => 0
    ∃ edited : Vector MapEntry 32,
      exec (.outmapFill r) s = .next (({ s.accepted with port := { s.port with edited := edited } } : State).replied .outmapFill r
        (if m = .fixed ∧ (src < -8388608 ∨ 8388607 < src) then .okClamped else .ok) [byteOf (span + 1)]) ∧
      ∀ x : EntryIx, edited[x] =
        if (x.val + 32 - i.val) % 32 ≤ span then { mode := m, source := source ((x.val + 32 - i.val) % 32) }
        else s.port.edited[x]

/-- CHECK_SET chooses the slot and restarts the search, or turns the checker off, keeping both counts; CHECK_READ copies the running
count into the snapshot; CHECK_CLEAR zeroes both and keeps the lock (R18, R21). The mark justSet is the model's own
(notes/assumptions/17.md). -/
def Obligations.CheckerRequests : Prop :=
  ∀ (r : Request) (s : State),
    (∀ v : Byte, Applies .checkSet r s → r.payload = [v] →
      (v = 255 → exec (.checkSet r) s = .next (({ s.accepted with port := { s.port with checker := { s.port.checker with
        slot := none, state := .off, reference := none, consecutive := 0, justSet := false } } } : State).replied
          .checkSet r .ok [])) ∧
      (v.toNat < s.ec.timeSlots → exec (.checkSet r) s = .next (({ s.accepted with port := { s.port with
        checker := { s.port.checker with slot := some v.toNat, state := .seeking, reference := none, consecutive := 0,
                                         justSet := true } } } : State).replied .checkSet r .ok [])) ∧
      (v ≠ 255 → ¬ v.toNat < s.ec.timeSlots → exec (.checkSet r) s = .next (s.accepted.replied .checkSet r .badIndex []))) ∧
    (Applies .checkRead r s → r.payload = [] → exec (.checkRead r) s = .next (({ s.accepted with port := { s.port with
      checker := { s.port.checker with snapshot := s.port.checker.running } } } : State).replied .checkRead r .ok
        (bytesOf 2 s.port.checker.running.toNat ++ [byteOf s.port.checker.state.code,
          match s.port.checker.slot with | some n => byteOf n | none => 255]))) ∧
    (Applies .checkClear r s → r.payload = [] → exec (.checkClear r) s = .next (({ s.accepted with port := { s.port with
      checker := { s.port.checker with running := 0, snapshot := 0 } } } : State).replied .checkClear r .ok []))

/-! ## Lines -/

/-- A LINE_OPEN that passes its checks and admissions takes the first FREE record from the round-robin pointer upward, charges 2
units, and becomes ACTIVE with the first P clean pages when no line waits and the pool holds them, or joins the wait list with
POOL_WAIT raised (R42 to R46, R48). -/
def Obligations.LineOpenTakesARecord : Prop :=
  ∀ (r : Request) (s : State) (slot tag keep l3 l2 l1 l0 src g1 g0 d1 d0 : Byte) (i : SlotIx) (kp : Bool) (n : Fin 64),
    Applies .lineOpen r s → r.payload = [slot, tag, keep, l3, l2, l1, l0, src, g1, g0, d1, d0] →
    i.val = slot.toNat → keep = flagByte kp → (src = 255 ∨ src.toNat < s.ec.timeSlots) →
    s.ec.budgetUsed + 2 ≤ s.ec.capacity →
    let k : LineIx := s.dmc.roundRobin + n
    (s.dmc.lines[k]).state = .free → (∀ m : Fin 64, m < n → (s.dmc.lines[s.dmc.roundRobin + m]).state ≠ .free) →
    let asked := natOf [l3, l2, l1, l0]
    let length := max 64 (min 1048576 asked)
    let P := (length + 4095) / 4096
    s.dmc.promised + P ≤ s.dmc.unowned →
    let opened : Line := {
      state := .waiting, slot := i, tag := tag, keep := kp, length := length, pageCount := P, pages := [], w := 0,
      source := if src = 255 then none else some src.toNat, sendTarget := signedOf [g1, g0], sendGain := 0,
      damping := natOf [d1, d0], dampMem := 0, refs := 0 }
    let charged : Engine := { s.ec with budgetUsed := s.ec.budgetUsed + 2 }
    (s.dmc.waitList = [] → P ≤ s.dmc.clean.length →
      exec (.lineOpen r) s = .next (({ s.accepted with
        ec := charged,
        dmc := { s.dmc with
          lines := s.dmc.lines.set k { opened with state := .active, pages := s.dmc.clean.take P },
          clean := s.dmc.clean.drop P, roundRobin := k + 1 } } : State).replied .lineOpen r
            (if length = asked then .ok else .okClamped) [byteOf k])) ∧
    (¬ (s.dmc.waitList = [] ∧ P ≤ s.dmc.clean.length) →
      exec (.lineOpen r) s = .next (s.repliedFrom .lineOpen r (if length = asked then .waiting else .waitingClamped) [byteOf k]
        (({ s.accepted with
          ec := charged,
          dmc := { s.dmc with
            lines := s.dmc.lines.set k opened, waitList := s.dmc.waitList ++ [k], roundRobin := k + 1 } } : State).raise
              (.poolWait k))))

/-- The field checks of LINE_OPEN in their order, slot, keep, send source (R42), and its three admissions in theirs: OVER_BUDGET,
NO_LINE, NO_MEMORY; each refusal leaves everything but the link as it was (R41, R43, R44, R45). -/
def Obligations.LineOpenAdmissions : Prop :=
  (∀ (r : Request) (s : State) (slot tag keep l3 l2 l1 l0 src g1 g0 d1 d0 : Byte),
    Applies .lineOpen r s → r.payload = [slot, tag, keep, l3, l2, l1, l0, src, g1, g0, d1, d0] →
    let refused (st : Status) := exec (.lineOpen r) s = .next (s.accepted.replied .lineOpen r st [])
    (7 < slot.toNat → refused .badIndex) ∧
    (slot.toNat ≤ 7 → 1 < keep.toNat → refused .badValue) ∧
    (slot.toNat ≤ 7 → keep.toNat ≤ 1 → src ≠ 255 → ¬ src.toNat < s.ec.timeSlots → refused .badIndex)) ∧
  ∀ (r : Request) (s : State) (slot tag keep l3 l2 l1 l0 src g1 g0 d1 d0 : Byte) (kp : Bool),
    Applies .lineOpen r s → r.payload = [slot, tag, keep, l3, l2, l1, l0, src, g1, g0, d1, d0] →
    slot.toNat < 8 → keep = flagByte kp → (src = 255 ∨ src.toNat < s.ec.timeSlots) →
    let refused (st : Status) := exec (.lineOpen r) s = .next (s.accepted.replied .lineOpen r st [])
    let P := (max 64 (min 1048576 (natOf [l3, l2, l1, l0])) + 4095) / 4096
    (s.ec.capacity < s.ec.budgetUsed + 2 → refused .overBudget) ∧
    (s.ec.budgetUsed + 2 ≤ s.ec.capacity →
      ((∀ k : LineIx, (s.dmc.lines[k]).state ≠ .free) → refused .noLine) ∧
      ∀ k : LineIx, (s.dmc.lines[k]).state = .free → s.dmc.unowned < s.dmc.promised + P → refused .noMemory)

/-- LINE_SET writes the parts that its mask names into a WAITING or ACTIVE line and nothing else; FREE and CLOSING lines are refused
NOT_LIVE, and a send source beyond S−1 BAD_INDEX (R53). -/
def Obligations.LineSetWritesItsParts : Prop :=
  ∀ (r : Request) (s : State) (line mask src g1 g0 d1 d0 : Byte), Applies .lineSet r s →
    r.payload = [line, mask, src, g1, g0, d1, d0] →
    let refused (st : Status) := exec (.lineSet r) s = .next (s.accepted.replied .lineSet r st [])
    (63 < line.toNat → refused .badIndex) ∧
    ∀ k : LineIx, k.val = line.toNat →
      let l := s.dmc.lines[k]
      (l.state = .free ∨ l.state = .closing → refused .notLive) ∧
      (l.state = .waiting ∨ l.state = .active →
        (mask.getLsbD 0 = true → src ≠ 255 → ¬ src.toNat < s.ec.timeSlots → refused .badIndex) ∧
        (mask.getLsbD 0 = false ∨ src = 255 ∨ src.toNat < s.ec.timeSlots →
          exec (.lineSet r) s = .next (({ s.accepted with dmc := { s.dmc with lines := s.dmc.lines.set k { l with
            source := if mask.getLsbD 0 then (if src = 255 then none else some src.toNat) else l.source
            sendTarget := if mask.getLsbD 1 then signedOf [g1, g0] else l.sendTarget
            damping := if mask.getLsbD 2 then natOf [d1, d0] else l.damping } } } : State).replied .lineSet r .ok [])))

/-- LINE_CLOSE by the state of the line (R56 to R60): FREE is refused; CLOSING changes nothing; an ACTIVE line with references becomes
CLOSING with every tap that references it released; an ACTIVE line without any gives its pages to the dirty queue and becomes FREE at
once, and a scrubber that was IDLE takes the first dirty page (R27). No other line is due to complete its close. An index above 63 is
refused BAD_INDEX. -/
def Obligations.LineCloseByState : Prop :=
  (∀ (r : Request) (s : State) (v : Byte), Applies .lineClose r s → r.payload = [v] → 63 < v.toNat →
    exec (.lineClose r) s = .next (s.accepted.replied .lineClose r .badIndex [])) ∧
  ∀ (r : Request) (s : State) (k : LineIx), Applies .lineClose r s → r.payload = [byteOf k] →
    (∀ j : LineIx, ¬ ((s.dmc.lines[j]).state = .closing ∧ (s.dmc.lines[j]).refs = 0)) →
    let l := s.dmc.lines[k]
    let released (t : Tap) : Tap :=
      if (t.source = k ∨ t.dest = .line k) ∧ t.state = .live then { t with state := .releasing, gainTarget := 0 } else t
    let scrubbed (lines : Vector Line 64) (dirty : List Page) : Dmc :=
      match s.dmc.scrubber, dirty with
      | none, p :: rest => { s.dmc with lines := lines, scrubber := some p, dirty := rest }
      | _, _ => { s.dmc with lines := lines, dirty := dirty }
    (l.state = .free → exec (.lineClose r) s = .next (s.accepted.replied .lineClose r .notLive [])) ∧
    (l.state = .closing → exec (.lineClose r) s = .next (s.accepted.replied .lineClose r .ok [])) ∧
    (l.state = .active → l.refs ≠ 0 →
      exec (.lineClose r) s = .next (({ s.accepted with
        taps := mapIx (fun _ t => released t) s.taps,
        dmc := scrubbed (s.dmc.lines.set k { l with state := .closing }) s.dmc.dirty } : State).replied .lineClose r .ok [])) ∧
    (l.state = .active → l.refs = 0 →
      exec (.lineClose r) s = .next ((({ s.accepted with
        taps := mapIx (fun _ t => released t) s.taps,
        ec := { s.ec with budgetUsed := s.ec.budgetUsed - 2 },
        dmc := scrubbed (s.dmc.lines.set k Line.freeValue) (s.dmc.dirty ++ l.pages) } : State).note
          fun w => { w with lineLeft := w.lineLeft.set k true }).replied .lineClose r .ok []))

/-- Closing a WAITING line while no line is CLOSING (R58, R86): the line leaves the wait list and becomes FREE, every tap that references
it becomes UNUSED at once with its 4 units returned, every other tap is kept, and every other line outside the wait list keeps its
state and pages. Lines that wait may become ACTIVE by the service, and reference counts fall. -/
def Obligations.WaitingLineCloses : Prop :=
  ∀ (r : Request) (s : State) (k : LineIx), Applies .lineClose r s → r.payload = [byteOf k] →
    (s.dmc.lines[k]).state = .waiting → (∀ j : LineIx, (s.dmc.lines[j]).state ≠ .closing) →
    ∃ u, exec (.lineClose r) s = .next (s.repliedFrom .lineClose r .ok [] u) ∧
      u.dmc.lines[k] = Line.freeValue ∧ k ∉ u.dmc.waitList ∧
      (∀ j : TapIx, u.taps[j] =
        if (s.taps[j]).state ≠ .unused ∧ ((s.taps[j]).source = k ∨ (s.taps[j]).dest = .line k) then Tap.freeValue
        else s.taps[j]) ∧
      u.ec.budgetUsed = s.ec.budgetUsed - 2 - 4 * ((List.finRange 256).filter fun j : TapIx => decide
        ((s.taps[j]).state ≠ .unused ∧ ((s.taps[j]).source = k ∨ (s.taps[j]).dest = .line k))).length ∧
      (∀ j : LineIx, j ≠ k → j ∉ s.dmc.waitList → (u.dmc.lines[j]).state = (s.dmc.lines[j]).state ∧
        (u.dmc.lines[j]).pages = (s.dmc.lines[j]).pages) ∧
      u.dmc.memory = s.dmc.memory ∧ u.port = s.port ∧ u.mu = s.mu ∧ u.sru = s.sru ∧ u.pending = s.pending

/-- LINE_RELEASE_TAG, LINE_RELEASE_ALL and SLOT_CLEAR close their set together (R61 to R63, R151): the reply counts the lines of the
set that were WAITING or ACTIVE. The WAITING ones become FREE, with every tap that references one UNUSED and its units returned (R58,
R86); the ACTIVE ones become CLOSING with their taps released (R57, R59). Every line then CLOSING without references, of the set or
not, becomes FREE, returns its units and gives its pages to the dirty queue in ascending order of line index; an IDLE scrubber takes
the first. ACTIVE and FREE lines outside the set keep their state and pages. A slot above 7 is refused BAD_INDEX (R149). -/
def Obligations.GroupClosesCloseTheirSet : Prop :=
  (∀ (r : Request) (s : State) (v : Byte), Applies .slotClear r s → r.payload = [v] → 7 < v.toNat →
    exec (.slotClear r) s = .next (s.accepted.replied .slotClear r .badIndex [])) ∧
  ∀ (r : Request) (s : State) (k : Kind) (set : Line → Bool),
    ((∃ tag, k = .lineReleaseTag ∧ r.payload = [tag] ∧ ∀ l : Line, set l = true ↔ l.state ≠ .free ∧ l.tag = tag ∧ l.keep = false) ∨
      (k = .lineReleaseAll ∧ r.payload = [] ∧ ∀ l : Line, set l = true ↔ l.state ≠ .free) ∨
      (∃ i : SlotIx, k = .slotClear ∧ r.payload = [byteOf i] ∧ ∀ l : Line, set l = true ↔ l.state ≠ .free ∧ l.slot = i)) →
    Applies k r s →
    let waits (j : LineIx) : Bool := set s.dmc.lines[j] && decide ((s.dmc.lines[j]).state = .waiting)
    let acts (j : LineIx) : Bool := set s.dmc.lines[j] && decide ((s.dmc.lines[j]).state = .active)
    let removed (x : Tap) : Bool := decide (x.state ≠ .unused) &&
      (waits x.source || match x.dest with | .line j => waits j | .bus _ => false)
    let released (x : Tap) : Bool := decide (x.state = .live) &&
      (acts x.source || match x.dest with | .line j => acts j | .bus _ => false)
    let refs (j : LineIx) : Nat := (s.dmc.lines[j]).refs - (s.taps.toList.filter fun x =>
      removed x && decide (x.source = j ∨ x.dest = .line j)).length
    let completes (j : LineIx) : Bool := (acts j || decide ((s.dmc.lines[j]).state = .closing)) && decide (refs j = 0)
    let count (p : LineIx → Bool) : Nat := ((List.finRange 64).filter p).length
    let dirty := s.dmc.dirty ++ ((List.finRange 64).filter completes).flatMap fun j => (s.dmc.lines[j]).pages
    ∃ u, exec (commandOf k r) s = .next (s.repliedFrom k r .ok [byteOf (count fun j => waits j || acts j)] u) ∧
      (∀ j : TapIx, u.taps[j] =
        if removed s.taps[j] = true then Tap.freeValue
        else if released s.taps[j] = true then { s.taps[j] with state := .releasing, gainTarget := 0 } else s.taps[j]) ∧
      u.ec = { s.ec with budgetUsed :=
        s.ec.budgetUsed - 2 * count waits - 4 * (s.taps.toList.filter removed).length - 2 * count completes } ∧
      (u.dmc.scrubber, u.dmc.dirty) = (match s.dmc.scrubber, dirty with
        | none, p :: rest => (some p, rest)
        | x, d => (x, d)) ∧
      (∀ j : LineIx, waits j = true → u.dmc.lines[j] = Line.freeValue) ∧
      (∀ j : LineIx, acts j = true ∨ (s.dmc.lines[j]).state = .closing → j ∉ s.dmc.waitList → u.dmc.lines[j] =
        if completes j = true then Line.freeValue else { s.dmc.lines[j] with state := .closing, refs := refs j }) ∧
      (∀ j : LineIx, (set s.dmc.lines[j] = false ∧ (s.dmc.lines[j]).state = .active ∨ (s.dmc.lines[j]).state = .free) →
        j ∉ s.dmc.waitList → u.dmc.lines[j] = { s.dmc.lines[j] with refs := refs j }) ∧
      (k = .lineReleaseAll → u.dmc.roundRobin = 0) ∧ (k ≠ .lineReleaseAll → u.dmc.roundRobin = s.dmc.roundRobin) ∧
      u.dmc.memory = s.dmc.memory ∧ u.port = s.port ∧ u.mu = s.mu ∧ u.sru = s.sru ∧ u.pending = s.pending

/-! ## Taps -/

/-- A TAP_CREATE that passes its checks and admissions takes the lowest UNUSED record with its target clamped to the source line and
its gain at 0, charges 4 units and raises the reference count of each of its lines by 1 (R70 to R75). Its seven checks (R70) and its
four admissions (R71) refuse in their order. -/
def Obligations.TapCreateTakesARecord : Prop :=
  (∀ (r : Request) (s : State) (slot source dkind dindex kind v3 v2 v1 v0 modu e1 e0 g1 g0 mode l1 l0 : Byte),
    Applies .tapCreate r s →
    r.payload = [slot, source, dkind, dindex, kind, v3, v2, v1, v0, modu, e1, e0, g1, g0, mode, l1, l0] →
    let refused (st : Status) := exec (.tapCreate r) s = .next (s.accepted.replied .tapCreate r st [])
    let bound := modu = 255 ∨ modu.toNat ≤ 15
    (7 < slot.toNat ∨ 63 < source.toNat → refused .badIndex) ∧
    ∀ (i : SlotIx) (k : LineIx), i.val = slot.toNat → k.val = source.toNat →
      (1 < dkind.toNat → refused .badValue) ∧
      (dkind = 0 ∧ 15 < dindex.toNat ∨ dkind = 1 ∧ 63 < dindex.toNat → refused .badIndex) ∧
      ∀ dest : Dest, [dkind, dindex] = dest.bytes →
        let named (j : LineIx) : Prop := j = k ∨ dest = .line j
        let live (j : LineIx) : Prop := (s.dmc.lines[j]).state = .waiting ∨ (s.dmc.lines[j]).state = .active
        (1 < kind.toNat → refused .badValue) ∧
        (kind.toNat ≤ 1 → ¬ bound → refused .badIndex) ∧
        (kind.toNat ≤ 1 → bound → 1 < mode.toNat → refused .badValue) ∧
        (kind.toNat ≤ 1 → bound → mode.toNat ≤ 1 →
          ((∃ j, named j ∧ ¬ live j) → refused .notLive) ∧
          ((∀ j, named j → live j) →
            ((∃ j, named j ∧ (s.dmc.lines[j]).slot ≠ i) → refused .slotMismatch) ∧
            ((∀ j, named j → (s.dmc.lines[j]).slot = i) →
              ((∀ j : TapIx, (s.taps[j]).state ≠ .unused) → refused .noTap) ∧
              ((∃ j : TapIx, (s.taps[j]).state = .unused) → s.ec.capacity < s.ec.budgetUsed + 4 → refused .overBudget))))) ∧
  ∀ (r : Request) (s : State) (slot source dkind dindex kind v3 v2 v1 v0 modu e1 e0 g1 g0 mode l1 l0 : Byte)
    (i : SlotIx) (k : LineIx) (dest : Dest) (m : Option ModIx) (rm : RetuneMode) (t : TapIx),
    Applies .tapCreate r s →
    r.payload = [slot, source, dkind, dindex, kind, v3, v2, v1, v0, modu, e1, e0, g1, g0, mode, l1, l0] →
    i.val = slot.toNat → k.val = source.toNat → [dkind, dindex] = dest.bytes → kind = 0 ∨ kind = 1 →
    modu = byteOrNone (m.map Fin.val) → mode = byteOf rm.code →
    (∀ j : LineIx, j = k ∨ dest = .line j →
      ((s.dmc.lines[j]).state = .waiting ∨ (s.dmc.lines[j]).state = .active) ∧ (s.dmc.lines[j]).slot = i) →
    (s.taps[t]).state = .unused → (∀ j : TapIx, j < t → (s.taps[j]).state ≠ .unused) →
    s.ec.budgetUsed + 4 ≤ s.ec.capacity →
    let num := max 1 (min 16 v3.toNat)
    let den := max 1 (min 16 v2.toNat)
    let spec : DelaySpec := if kind = 0 then .fixed (natOf [v3, v2, v1, v0]) else .tempo num den
    let raw := if kind = 0 then natOf [v3, v2, v1, v0] else s.mu.tempo * 256 * num / den
    let target := max 256 (min (((s.dmc.lines[k]).length - 1) * 256) raw)
    let asked := signedOf [g1, g0]
    let gain := match dest with | .bus _ => asked | .line _ => max (-16000) (min 16000 asked)
    let length := max 16 (min (match rm with | .fade => 16384 | .glide => 65535) (natOf [l1, l0]))
    let clamped := kind = 1 ∧ (num ≠ v3.toNat ∨ den ≠ v2.toNat) ∨ target ≠ raw ∨ gain ≠ asked ∨ length ≠ natOf [l1, l0]
    exec (.tapCreate r) s = .next (({ s.accepted with
      taps := s.taps.set t {
        state := .live, slot := i, source := k, dest := dest, spec := spec, target := target, retuneMode := rm,
        retuneLength := length, retune := .idle, position := target, modulator := m, depth := natOf [e1, e0],
        gainTarget := gain, gain := 0 },
      ec := { s.ec with budgetUsed := s.ec.budgetUsed + 4 },
      dmc := { s.dmc with
        lines := mapIx (fun j l => if j = k ∨ dest = .line j then { l with refs := l.refs + 1 } else l) s.dmc.lines },
      sru := if target = raw then s.sru else { s.sru with slots := updateAt s.sru.slots i fun x => { x with
        counters := { x.counters with delayClamps := x.counters.delayClamps + 1 } } } } : State).replied .tapCreate r
          (if clamped then .okClamped else .ok) [byteOf t])

/-- A new target handed to a tap (R109 to R112, R124): one equal to the effective destination changes nothing; an IDLE tap starts a
fade or a glide and counts it; a FADING tap sets, replaces or drops its pending target and counts a replacement; a GLIDING tap is
re-aimed from where it stands. The retune advance of a computation (R113, R114, R116): a fade counts on; at its end it rests at its new
position, or starts toward its pending target in the tap's mode, which counts as a start; a glide moves by its step and rests at its
target. -/
def Obligations.NewTargetsByRetuneState : Prop :=
  (∀ x : Tap,
    (x.retune = .idle → x.advanceRetune = (x, false)) ∧
    (∀ n k F p, x.retune = .fading n k F p → k + 1 < F →
      x.advanceRetune = ({ x with retune := .fading n (k + 1) F p }, false)) ∧
    (∀ n k F, x.retune = .fading n k F none → F ≤ k + 1 →
      x.advanceRetune = ({ x with position := n, retune := .idle }, false)) ∧
    (∀ n k F p, x.retune = .fading n k F (some p) → F ≤ k + 1 →
      x.advanceRetune = ({ x with
        position := n, target := p
        retune := match x.retuneMode with
          | .fade => .fading p 0 x.retuneLength none
          | .glide => .gliding (max 1 ((if p ≤ n then n - p else p - n) / x.retuneLength)) }, true)) ∧
    ∀ st, x.retune = .gliding st →
      let moved := if x.position ≤ x.target then min x.target (x.position + st) else max x.target (x.position - st)
      x.advanceRetune = ({ x with position := moved, retune := if moved = x.target then .idle else .gliding st }, false)) ∧
  ∀ (s : State) (t : TapIx) (T : Nat),
    let x := s.taps[t]
    let written (y : Tap) (u : State) : State :=
      { u with taps := s.taps.set t y }.note fun w => { w with tapRetune := w.tapRetune.set t true }
    let step := max 1 ((if T ≤ x.position then x.position - T else T - x.position) / x.retuneLength)
    let counted (f : SlotCounters → SlotCounters) : State :=
      { s with sru := { s.sru with slots := updateAt s.sru.slots x.slot fun r => { r with counters := f r.counters } } }
    (T = x.effectiveDestination → s.handTarget t T = s) ∧
    (T ≠ x.effectiveDestination →
      (x.retune = .idle → x.retuneMode = .fade →
        s.handTarget t T = written { x with target := T, retune := .fading T 0 x.retuneLength none }
          (counted fun c => { c with started := c.started + 1 })) ∧
      (x.retune = .idle → x.retuneMode = .glide →
        s.handTarget t T = written { x with target := T, retune := .gliding step }
          (counted fun c => { c with started := c.started + 1 })) ∧
      (∀ n k F p, x.retune = .fading n k F p → T = n →
        s.handTarget t T = written { x with target := T, retune := .fading n k F none } s) ∧
      (∀ n k F, x.retune = .fading n k F none → T ≠ n →
        s.handTarget t T = written { x with target := T, retune := .fading n k F (some T) } s) ∧
      (∀ n k F p, x.retune = .fading n k F (some p) → T ≠ n →
        s.handTarget t T = written { x with target := T, retune := .fading n k F (some T) }
          (counted fun c => { c with superseded := c.superseded + 1 })) ∧
      (∀ st, x.retune = .gliding st → T = x.position →
        s.handTarget t T = written { x with target := T, retune := .idle } s) ∧
      (∀ st, x.retune = .gliding st → T ≠ x.position →
        s.handTarget t T = written { x with target := T, retune := .gliding step } s))

/-- TAP_SET writes the parts that its mask names into a LIVE tap, the delay part last: a target is formed from the new spec, clamped
to the source line, counted when clamped, and handed to retuning; a tap that is not LIVE is refused NOT_LIVE, and the checks of the
delay, modulator and retune parts follow in that order (R74, R75, R78). -/
def Obligations.TapSetWritesItsParts : Prop :=
  (∀ (r : Request) (s : State) (tap mask kind v3 v2 v1 v0 modu e1 e0 g1 g0 mode l1 l0 : Byte) (t : TapIx),
    Applies .tapSet r s → r.payload = [tap, mask, kind, v3, v2, v1, v0, modu, e1, e0, g1, g0, mode, l1, l0] →
    t.val = tap.toNat → (s.taps[t]).state = .live →
    let refused (st : Status) := exec (.tapSet r) s = .next (s.accepted.replied .tapSet r st [])
    let badDelay := mask.getLsbD 0 = true ∧ 1 < kind.toNat
    let badModulator := mask.getLsbD 1 = true ∧ modu ≠ 255 ∧ 15 < modu.toNat
    let badRetune := mask.getLsbD 3 = true ∧ 1 < mode.toNat
    (badDelay → refused .badValue) ∧ (¬ badDelay → badModulator → refused .badIndex) ∧
      (¬ badDelay → ¬ badModulator → badRetune → refused .badValue)) ∧
  ∀ (r : Request) (s : State) (tap mask kind v3 v2 v1 v0 modu e1 e0 g1 g0 mode l1 l0 : Byte) (t : TapIx)
    (m : Option ModIx) (rm : RetuneMode),
    Applies .tapSet r s → r.payload = [tap, mask, kind, v3, v2, v1, v0, modu, e1, e0, g1, g0, mode, l1, l0] →
    t.val = tap.toNat →
    ((s.taps[t]).state ≠ .live → exec (.tapSet r) s = .next (s.accepted.replied .tapSet r .notLive [])) ∧
    ((s.taps[t]).state = .live → (mask.getLsbD 0 = true → kind = 0 ∨ kind = 1) →
      (mask.getLsbD 1 = true → modu = byteOrNone (m.map Fin.val)) → (mask.getLsbD 3 = true → mode = byteOf rm.code) →
      let x := s.taps[t]
      let num := max 1 (min 16 v3.toNat)
      let den := max 1 (min 16 v2.toNat)
      let asked := signedOf [g1, g0]
      let gain := match x.dest with | .bus _ => asked | .line _ => max (-16000) (min 16000 asked)
      let length := max 16 (min (match rm with | .fade => 16384 | .glide => 65535) (natOf [l1, l0]))
      let y : Tap := { x with
        retuneMode := if mask.getLsbD 3 then rm else x.retuneMode
        retuneLength := if mask.getLsbD 3 then length else x.retuneLength
        modulator := if mask.getLsbD 1 then m else x.modulator
        depth := if mask.getLsbD 1 then natOf [e1, e0] else x.depth
        gainTarget := if mask.getLsbD 2 then gain else x.gainTarget
        spec := if mask.getLsbD 0 then (if kind = 0 then .fixed (natOf [v3, v2, v1, v0]) else .tempo num den) else x.spec }
      let raw := if kind = 0 then natOf [v3, v2, v1, v0] else s.mu.tempo * 256 * num / den
      let target := max 256 (min (((s.dmc.lines[x.source]).length - 1) * 256) raw)
      let written : State := { s.accepted with taps := s.taps.set t y }
      let clamped :=
        mask.getLsbD 0 = true ∧ (kind = 1 ∧ (num ≠ v3.toNat ∨ den ≠ v2.toNat) ∨ target ≠ raw) ∨
        mask.getLsbD 2 = true ∧ gain ≠ asked ∨ mask.getLsbD 3 = true ∧ length ≠ natOf [l1, l0]
      exec (.tapSet r) s = .next (State.replied .tapSet r (if clamped then .okClamped else .ok) []
        (if mask.getLsbD 0 = false then written
        else if target = raw then written.handTarget t target
        else State.handTarget t target { written with sru := { s.sru with slots := updateAt s.sru.slots x.slot fun z => { z with
          counters := { z.counters with delayClamps := z.counters.delayClamps + 1 } } } })))

/-- TAP_FILL gives its field to every LIVE tap of its slot in its range and passes every other record over; the reply counts the taps
it reached (R80, R81). A FIXED delay becomes a target clamped to each tap's source line and handed to retuning: each clamp, each retune
started and each pending target replaced is counted for the slot, and any clamp makes the reply OK_CLAMPED (R74, R81, R124). A slot
above 7 is refused BAD_INDEX. The marks on a computation in progress are the model's (notes/assumptions/17.md). -/
def Obligations.TapFillReachesItsTaps : Prop :=
  (∀ (r : Request) (s : State) (slot first last field v3 v2 v1 v0 : Byte), Applies .tapFill r s →
    r.payload = [slot, first, last, field, v3, v2, v1, v0] → 7 < slot.toNat →
    exec (.tapFill r) s = .next (s.accepted.replied .tapFill r .badIndex [])) ∧
  ∀ (r : Request) (s : State) (slot first last field v3 v2 v1 v0 : Byte) (i : SlotIx) (a b : TapIx),
    Applies .tapFill r s → r.payload = [slot, first, last, field, v3, v2, v1, v0] → i.val = slot.toNat → a.val = first.toNat →
    b.val = last.toNat →
    let inRange (j : TapIx) : Bool := if a ≤ b then decide (a ≤ j ∧ j ≤ b) else decide (a ≤ j ∨ j ≤ b)
    let reached (j : TapIx) : Bool := inRange j && decide ((s.taps[j]).state = .live ∧ (s.taps[j]).slot = i)
    let value := signedOf [v3, v2, v1, v0]
    let count := ((List.finRange 256).filter reached).length
    let gainFor (t : Tap) : Int :=
      match t.dest with
      | .bus _ => max (-32768) (min 32767 value)
      | .line _ => max (-16000) (min 16000 (max (-32768) (min 32767 value)))
    (field = 0 → exec (.tapFill r) s = .next (({ s.accepted with
      taps := mapIx (fun j t => if reached j then { t with gainTarget := gainFor t } else t) s.taps } : State).replied .tapFill r
        (if value < -32768 ∨ 32767 < value ∨
            ((List.finRange 256).any fun j : TapIx => reached j &&
              decide (gainFor s.taps[j] ≠ max (-32768) (min 32767 value))) = true then .okClamped else .ok)
        (bytesOf 2 count))) ∧
    (field = 1 →
      let d := (max 0 (min 268435200 value)).toNat
      let target (x : Tap) : Nat := max 256 (min (((s.dmc.lines[x.source]).length - 1) * 256) d)
      let changes (x : Tap) : Bool := decide (target x ≠ x.effectiveDestination)
      let starts (x : Tap) : Bool := changes x && decide (x.retune = .idle)
      let supersedes (x : Tap) : Bool := changes x && match x.retune with
        | .fading n _ _ (some _) => decide (target x ≠ n)
        | _ => false
      let number (p : Tap → Bool) : Word32 :=
        BitVec.ofNat 32 ((List.finRange 256).filter fun j : TapIx => reached j && p s.taps[j]).length
      let clamps (x : Tap) : Bool := decide (target x ≠ d)
      exec (.tapFill r) s = .next ((({ s.accepted with
        taps := mapIx (fun j x => if reached j then (Tap.retarget (target x) { x with spec := .fixed d }).1 else x) s.taps,
        sru := { s.sru with slots := updateAt s.sru.slots i fun z => { z with counters := { z.counters with
          delayClamps := z.counters.delayClamps + number clamps, started := z.counters.started + number starts,
          superseded := z.counters.superseded + number supersedes } } } } : State).note fun w =>
            { w with tapRetune := mapIx (fun j b => b || reached j && changes s.taps[j]) w.tapRetune }).replied .tapFill r
          (if value < 0 ∨ 268435200 < value ∨ ((List.finRange 256).any fun j : TapIx => reached j && clamps s.taps[j]) = true
            then .okClamped else .ok)
          (bytesOf 2 count))) ∧
    (field = 2 → exec (.tapFill r) s = .next (({ s.accepted with
      taps := mapIx (fun j t => if reached j then { t with depth := (max 0 (min 65535 value)).toNat } else t) s.taps } : State).replied
        .tapFill r (if value < 0 ∨ 65535 < value then .okClamped else .ok) (bytesOf 2 count))) ∧
    (2 < field.toNat → exec (.tapFill r) s = .next (s.accepted.replied .tapFill r .badValue []))

/-- TAP_FREE releases a LIVE tap, changes nothing on a RELEASING one and is refused NOT_LIVE on an UNUSED one (R83). -/
def Obligations.TapFreeReleases : Prop :=
  ∀ (r : Request) (s : State) (t : TapIx), Applies .tapFree r s → r.payload = [byteOf t] →
    ((s.taps[t]).state = .live → exec (.tapFree r) s = .next (({ s.accepted with
      taps := s.taps.set t { s.taps[t] with state := .releasing, gainTarget := 0 } } : State).replied .tapFree r .ok [])) ∧
    ((s.taps[t]).state = .releasing → exec (.tapFree r) s = .next (s.accepted.replied .tapFree r .ok [])) ∧
    ((s.taps[t]).state = .unused → exec (.tapFree r) s = .next (s.accepted.replied .tapFree r .notLive []))

/-! ## Modulators, tempo and beat -/

/-- MOD_SET makes its four checks in order and then writes the parts that its mask names: a rate ends the lock, a lock forms the
increment from the tempo; MOD_SYNC sets the phase to 0 and nothing else (R130, R132, R134). The value of a modulator follows from its
phase by its shape and lies in −32,768 … 32,767 (R127); an advance adds the increment to the phase, and where the addition wraps takes
fifteen sequence steps for the next random value (R128, R129). -/
def Obligations.ModulatorRequests : Prop :=
  (∀ m : Modulator,
    let u : Int := ((m.phase / 65536 : Nat) : Int)
    m.value = (match m.shape with
      | .triangle => if u < 32768 then 2 * u - 32768 else 98303 - 2 * u
      | .sawUp => u - 32768
      | .sawDown => 32767 - u
      | .randomStep => m.randomCurrent
      | .randomSmooth => m.randomPrevious + Int.fdiv ((m.randomCurrent - m.randomPrevious) * u) 65536) ∧
    (m.phase < 2 ^ 32 → (-32766 ≤ m.randomCurrent ∧ m.randomCurrent ≤ 32766) →
      (-32766 ≤ m.randomPrevious ∧ m.randomPrevious ≤ 32766) → -32768 ≤ m.value ∧ m.value ≤ 32767)) ∧
  (∀ (m : Modulator) (I P : Nat),
    (P + I < 2 ^ 32 → m.advance I P = { m with phase := P + I }) ∧
    (2 ^ 32 ≤ P + I →
      let R := Nat.repeat seqStep 15 m.random
      m.advance I P = { m with
        phase := (P + I) % 2 ^ 32, randomPrevious := m.randomCurrent, random := R,
        randomCurrent := 2 * (R.toNat : Int) - 32768 })) ∧
  (∀ (r : Request) (s : State) (modu mask shape r3 r2 r1 r0 num den sync : Byte), Applies .modSet r s →
    r.payload = [modu, mask, shape, r3, r2, r1, r0, num, den, sync] →
    let refused (st : Status) := exec (.modSet r) s = .next (s.accepted.replied .modSet r st [])
    (15 < modu.toNat → refused .badIndex) ∧
    ∀ i : ModIx, i.val = modu.toNat →
      (mask.getLsbD 0 = true → 4 < shape.toNat → refused .badValue) ∧
      (mask.getLsbD 3 = true → sync ≠ 0 → sync ≠ 1 → refused .badValue) ∧
      (mask.getLsbD 1 = true → mask.getLsbD 2 = true → num ≠ 0 → refused .badValue) ∧
      ∀ (sh : Shape) (b : Bool), (mask.getLsbD 0 = true → shape = byteOf sh.code) →
        (mask.getLsbD 3 = true → sync = flagByte b) →
        ¬ (mask.getLsbD 1 = true ∧ mask.getLsbD 2 = true ∧ num ≠ 0) →
        let m := s.mu.mods[i]
        let asked := natOf [r3, r2, r1, r0]
        let n := max 1 (min 16 num.toNat)
        let d := max 1 (min 16 den.toNat)
        let clamped := mask.getLsbD 1 = true ∧ 2097151 < asked ∨
          mask.getLsbD 2 = true ∧ num ≠ 0 ∧ (n ≠ num.toNat ∨ d ≠ den.toNat)
        let written : Modulator := { m with
          shape := if mask.getLsbD 0 then sh else m.shape,
          increment :=
            if mask.getLsbD 2 = true ∧ num ≠ 0 then min 2097151 (2 ^ 32 * d / (s.mu.tempo * n))
            else if mask.getLsbD 1 = true then min 2097151 asked else m.increment,
          lock :=
            if mask.getLsbD 2 = true then (if num = 0 then none else some { num := n, den := d })
            else if mask.getLsbD 1 = true then none else m.lock,
          beatSync := if mask.getLsbD 3 then b else m.beatSync }
        exec (.modSet r) s = .next (({ s.accepted with mu := { s.mu with mods := s.mu.mods.set i written } } : State).replied
          .modSet r (if clamped then .okClamped else .ok) [])) ∧
    ∀ (r : Request) (s : State) (v : Byte), Applies .modSync r s → r.payload = [v] →
      (15 < v.toNat → exec (.modSync r) s = .next (s.accepted.replied .modSync r .badIndex [])) ∧
      ∀ i : ModIx, i.val = v.toNat →
        exec (.modSync r) s = .next ((({ s.accepted with mu := { s.mu with
          mods := s.mu.mods.set i { s.mu.mods[i] with phase := 0 } } } : State).note fun w =>
            { w with modPhase := w.modPhase.set i true }).replied .modSync r .ok [])

/-- TEMPO_SET clamps its value and sets B; a change of B hands every LIVE tap whose spec is TEMPO its new target, forms the increment
of every locked modulator, and makes a beat phase at or above it 0, without a beat; an equal B changes nothing (R135, R136). -/
def Obligations.TempoChangesReachTapsAndLocks : Prop :=
  (∀ (r : Request) (s : State) (b3 b2 b1 b0 : Byte), Applies .tempoSet r s → r.payload = [b3, b2, b1, b0] →
    let asked := natOf [b3, b2, b1, b0]
    let b := max (s.ec.fs / 5) (min (3 * s.ec.fs / 2) asked)
    exec (.tempoSet r) s = .next ((s.accepted.setTempo b).replied .tempoSet r (if b = asked then .ok else .okClamped) [])) ∧
    (∀ s : State, s.setTempo s.mu.tempo = s) ∧
    ∀ (s : State) (b : Nat), b ≠ s.mu.tempo →
      let u := s.setTempo b
      u.mu.tempo = b ∧ u.mu.tracker = s.mu.tracker ∧
      u.mu.beatPhase = (if b ≤ s.mu.beatPhase then 0 else s.mu.beatPhase) ∧
      (∀ i : ModIx, u.mu.mods[i] = match (s.mu.mods[i]).lock with
        | some l => { s.mu.mods[i] with increment := min 2097151 (2 ^ 32 * l.den / (b * l.num)) }
        | none => s.mu.mods[i]) ∧
      (∀ j : TapIx, u.taps[j] = match (s.taps[j]).state, (s.taps[j]).spec with
        | .live, .tempo num den =>
          (Tap.retarget (max 256 (min (((s.dmc.lines[(s.taps[j]).source]).length - 1) * 256) (b * 256 * num / den))) s.taps[j]).1
        | _, _ => s.taps[j]) ∧
      u.dmc = s.dmc ∧ u.ec = s.ec ∧ u.port = s.port ∧ u.cu = s.cu ∧ u.link = s.link ∧ u.pending = s.pending ∧
      u.fe.busValues = s.fe.busValues

/-- BEAT by the tracker's state: in IDLE it arms the tracker with a beat; an interval below fs/10 is bounced and changes nothing; a
longer one joins the list clamped, sets the tempo to the floor of the average and makes a beat (R138, R139). The timeout empties the
tracker once its frame is reached (R140). That it does nothing before, and that once due it may be taken in every engine state, STOPPED
among them, are the model's choices (notes/assumptions/6.md, 31.md); that its frame counts as not reached again once the counter is 2^31
frames beyond it is the model's reading (notes/assumptions/24.md). -/
def Obligations.BeatByTrackerState : Prop :=
  (∀ (r : Request) (s : State), Applies .beat r s → r.payload = [] →
    let c := s.ec.counter
    let lo := s.ec.fs / 5
    let hi := 3 * s.ec.fs / 2
    let mark (u : State) : State :=
      ({ u with mu := { u.mu with
        beatPhase := 0, mods := mapIx (fun _ m => if m.beatSync then { m with phase := 0 } else m) u.mu.mods } } : State).note
          fun w => { w with
            beatPhase := true, modPhase := mapIx (fun i x => x || (u.mu.mods[i]).beatSync) w.modPhase }
    (s.mu.tracker.state = .idle →
      exec (.beat r) s = .next ((mark { s.accepted with mu := { s.mu with
        tracker := { s.mu.tracker with state := .armed, lastMark := some c } } }).replied .beat r .ok
          (bytesOf 4 c.toNat ++ [0, 1] ++ bytesOf 4 s.mu.tempo))) ∧
    ∀ m : Word32, s.mu.tracker.state ≠ .idle → s.mu.tracker.lastMark = some m →
      ((c - m).toNat < s.ec.fs / 10 →
        exec (.beat r) s = .next (s.accepted.replied .beat r .ok
          (bytesOf 4 c.toNat ++ [2, byteOf s.mu.tracker.state.code] ++ bytesOf 4 s.mu.tempo))) ∧
      (s.ec.fs / 10 ≤ (c - m).toNat → s.mu.tracker.intervals.length ≤ 4 →
        let l := s.mu.tracker.intervals.drop (s.mu.tracker.intervals.length - 3) ++ [max lo (min hi (c - m).toNat)]
        let b := l.sum / l.length
        exec (.beat r) s = .next ((mark (State.setTempo b { s.accepted with mu := { s.mu with
          tracker := { state := .tracking, lastMark := some c, intervals := l } } })).replied .beat r .ok
            (bytesOf 4 c.toNat ++ [1, 2] ++ bytesOf 4 b)))) ∧
    ∀ s : State,
      (∀ m : Word32, s.mu.tracker.state ≠ .idle → s.mu.tracker.lastMark = some m →
        (s.ec.counter - (m + BitVec.ofNat 32 (2 * s.ec.fs))).toNat < 2 ^ 31 →
        exec .trackerTimeout s = .next { s with mu := { s.mu with
          tracker := { state := .idle, lastMark := none, intervals := [] } } }) ∧
      ((s.mu.tracker.state = .idle ∨ ∃ m : Word32, s.mu.tracker.lastMark = some m ∧
        2 ^ 31 ≤ (s.ec.counter - (m + BitVec.ofNat 32 (2 * s.ec.fs))).toNat) → exec .trackerTimeout s = .next s)

/-! ## Slots and recall -/

/-- SLOT_SET writes the parts that its mask names, a level clamped to 16,384 and a limit of 0 to 1; SLOT_GET reports the record and
zeroes its eight counters when its clear flag is 1 (R149, R152). That SLOT_GET tests its slot index before its clear flag is the
model's choice (notes/assumptions/26.md). -/
def Obligations.SlotRequests : Prop :=
  (∀ (r : Request) (s : State) (slot mask v1 v0 mute safe limit : Byte), Applies .slotSet r s →
    r.payload = [slot, mask, v1, v0, mute, safe, limit] →
    let refused (st : Status) := exec (.slotSet r) s = .next (s.accepted.replied .slotSet r st [])
    (7 < slot.toNat → refused .badIndex) ∧
    ∀ i : SlotIx, i.val = slot.toNat →
      (mask.getLsbD 1 = true → mute ≠ 0 → mute ≠ 1 → refused .badValue) ∧
      (mask.getLsbD 2 = true → safe ≠ 0 → safe ≠ 1 → refused .badValue) ∧
      ∀ bm bs : Bool, (mask.getLsbD 1 = true → mute = flagByte bm) → (mask.getLsbD 2 = true → safe = flagByte bs) →
        let x := s.sru.slots[i]
        let asked := natOf [v1, v0]
        let written : Slot := { x with
          levelTarget := if mask.getLsbD 0 then min 16384 asked else x.levelTarget,
          mute := if mask.getLsbD 1 then bm else x.mute,
          safe := if mask.getLsbD 2 then bs else x.safe,
          limit := if mask.getLsbD 3 then max 1 limit.toNat else x.limit }
        let clamped := mask.getLsbD 0 = true ∧ 16384 < asked ∨ mask.getLsbD 3 = true ∧ limit = 0
        exec (.slotSet r) s = .next (({ s.accepted with sru := { s.sru with slots := s.sru.slots.set i written } } : State).replied
          .slotSet r (if clamped then .okClamped else .ok) [])) ∧
    ∀ (r : Request) (s : State) (slot clear : Byte), Applies .slotGet r s → r.payload = [slot, clear] →
      (7 < slot.toNat → exec (.slotGet r) s = .next (s.accepted.replied .slotGet r .badIndex [])) ∧
      ∀ i : SlotIx, i.val = slot.toNat →
        (clear ≠ 0 → clear ≠ 1 → exec (.slotGet r) s = .next (s.accepted.replied .slotGet r .badValue [])) ∧
        ∀ b : Bool, clear = flagByte b →
          let x := s.sru.slots[i]
          let c := x.counters
          let payload := bytesOf 2 x.levelTarget ++ bytesOf 2 x.level ++ [flagByte x.mute, flagByte x.safe, byteOf x.limit,
            byteOf x.runaway, byteOf x.windowCount, flagByte x.windowSaturated] ++ bytesOf 2 x.windowLeft ++
            ([c.saturations, c.modClamps, c.delayClamps, c.started, c.superseded, c.trips, c.skipped, c.stale].flatMap
              fun n => bytesOf 4 n.toNat)
          let slots := if b = true then s.sru.slots.set i { x with counters := SlotCounters.zero } else s.sru.slots
          exec (.slotGet r) s = .next (({ s.accepted with sru := { s.sru with slots := slots } } : State).replied
            .slotGet r .ok payload)

/-- A staged request makes the checks of its kind, is refused with the same status as a direct one would be, and is otherwise held as
an entry at the tail of the staging list, or refused LIST_FULL: the tables change only when the entry is applied, and then as the
direct request would have changed them (R154). A staged SLOT_SET with a safe part is refused NOT_STAGEABLE (R150). -/
def Obligations.StagedRequestsWaitAsEntries : Prop :=
  (∀ (k : Kind) (r : Request) (s : State), k.stageable = true → Stages k r s → s.link.rx = [] →
    (k = .slotSet → ∀ m : Byte, r.payload[1]? = some m → m.getLsbD 2 = false) →
    let direct := exec (commandOf k { r with disposition := 0 }) s
    (∃ st : Status, 0x10 ≤ st.code ∧ direct = .next (s.replied k r st []) ∧
      exec (commandOf k r) s = .next (s.replied k r st [])) ∨
    ∃ (e : Entry) (st : Status) (payload : List Byte), (st = .ok ∨ st = .okClamped) ∧
      direct = .next ((e.apply s).replied k r st payload) ∧
      (s.sru.freeEntries = 0 → exec (commandOf k r) s = .next (s.replied k r .listFull [])) ∧
      (s.sru.freeEntries ≠ 0 → ∃ sd : Status, (sd = .staged ∨ sd = .stagedClamped) ∧
        exec (commandOf k r) s =
          .next (({ s with sru := { s.sru with staging := s.sru.staging ++ [e] } } : State).replied k r sd []))) ∧
    ∀ (r : Request) (s : State) (slot mask v1 v0 mute safe limit : Byte), Stages .slotSet r s →
      r.payload = [slot, mask, v1, v0, mute, safe, limit] → mask.getLsbD 2 = true →
      exec (.slotSet r) s = .next (s.accepted.replied .slotSet r .notStageable [])

/-- COMMIT NOW moves the staging list to the tail of the due-now list while the engine computes and applies both lists at once while
it does not; DISCARD empties the staging list; SCHED_CANCEL removes the action of its handle (R155, R159). -/
def Obligations.CommitsAndDiscards : Prop :=
  (∀ (r : Request) (s : State) (mode f3 f2 f1 f0 : Byte), Applies .commit r s → r.payload = [mode, f3, f2, f1, f0] →
    (mode ≠ 0 → mode ≠ 1 → exec (.commitNow r) s = .next (s.accepted.replied .commit r .badValue [])) ∧
    (mode = 0 →
      (s.ec.engine = .running ∨ s.ec.engine = .stopping →
        (s.sru.staging = [] → exec (.commitNow r) s = .next (s.accepted.replied .commit r .ok [0, 0])) ∧
        (s.sru.staging ≠ [] → exec (.commitNow r) s = .next (({ s.accepted with sru := { s.sru with
          staging := [], dueNow := s.sru.dueNow ++ s.sru.staging } } : State).replied .commit r .ok
            (bytesOf 2 (s.sru.dueNow.length + s.sru.staging.length))))) ∧
      (s.ec.engine = .stopped ∨ s.ec.engine = .halted →
        let x := applyList s.sru.dueNow { s.accepted with sru := { s.sru with staging := [], dueNow := [] } }
        let y := applyList s.sru.staging x.1
        exec (.commitNow r) s = .next (s.repliedFrom .commit r .ok
          (bytesOf 2 (x.2.applied + y.2.applied) ++ bytesOf 2 (x.2.skipped + y.2.skipped) ++ bytesOf 2 (x.2.stale + y.2.stale))
          y.1)))) ∧
    (∀ (r : Request) (s : State), Applies .discard r s → r.payload = [] →
      exec (.discard r) s = .next (({ s.accepted with sru := { s.sru with staging := [] } } : State).replied .discard r .ok
        (bytesOf 2 s.sru.staging.length))) ∧
    ∀ (r : Request) (s : State) (h : Byte), Applies .schedCancel r s → r.payload = [h] →
      (7 < h.toNat → exec (.schedCancel r) s = .next (s.accepted.replied .schedCancel r .badIndex [])) ∧
      (h.toNat ≤ 7 → (∀ a ∈ s.sru.queue, a.handle.val ≠ h.toNat) →
        exec (.schedCancel r) s = .next (s.accepted.replied .schedCancel r .notFound [])) ∧
      ∀ (front back : List Action) (a : Action), s.sru.queue = front ++ a :: back → a.handle.val = h.toNat →
        (∀ x ∈ front ++ back, x.handle ≠ a.handle) →
        exec (.schedCancel r) s = .next (({ s.accepted with sru := { s.sru with queue := front ++ back } } : State).replied
          .schedCancel r .ok (bytesOf 2 a.entries.length))

/-- COMMIT AT turns a staging list that is not empty into an action with the lowest free handle, placed behind every action whose lead
over the frame counter is not greater; it is refused NOT_FOUND on an empty list and SCHEDULE_FULL with eight actions (R156, R157). -/
def Obligations.CommitAtSchedulesAnAction : Prop :=
  ∀ (r : Request) (s : State) (f3 f2 f1 f0 : Byte), Applies .commit r s → r.payload = [1, f3, f2, f1, f0] →
    (s.sru.staging = [] → exec (.commitAt r) s = .next (s.accepted.replied .commit r .notFound [])) ∧
    (s.sru.staging ≠ [] → 8 ≤ s.sru.queue.length →
      exec (.commitAt r) s = .next (s.accepted.replied .commit r .scheduleFull [])) ∧
    (s.sru.staging ≠ [] → s.sru.queue.length < 8 →
      ∀ h : Handle, (∀ a ∈ s.sru.queue, a.handle ≠ h) → (∀ g : Handle, g < h → ∃ a ∈ s.sru.queue, a.handle = g) →
      let c := s.ec.counter
      let f : Word32 := BitVec.ofNat 32 (natOf [f3, f2, f1, f0])
      let lead (a : Action) : Nat := if a.isDue then 0 else (a.frame - c).toNat
      let new : Action := { handle := h, frame := f, isDue := decide ((c - f).toNat < 2 ^ 31), entries := s.sru.staging }
      ∃ front back, s.sru.queue = front ++ back ∧ (∀ a ∈ front, lead a ≤ lead new) ∧
        (∀ a, back.head? = some a → lead new < lead a) ∧
        exec (.commitAt r) s = .next (({ s.accepted with sru := { s.sru with
          staging := [], queue := front ++ new :: back } } : State).replied .commit r .ok [byteOf h]))

/-- A list is applied entry by entry, each by the first case that fits: skipped when its slot is safe, dropped when its target is no
longer valid, otherwise applied; every entry is counted once, and a list that dropped some raises STALE_ENTRIES. An action applied
late counts and raises ACTION_LATE (R157, R158); that it does so before its list can raise STALE_ENTRIES is the model's reading
(notes/assumptions/12.md). -/
def Obligations.EntriesAreHandledInOrder : Prop :=
  (∀ (s : State) (n : Tallied) (e : Entry),
    let safe := ∃ i, e.slot = some i ∧ (s.sru.slots[i]).safe = true
    let bump (f : SlotCounters → SlotCounters) : State := match e.slot with
      | some i => { s with sru := { s.sru with
          slots := s.sru.slots.set i { s.sru.slots[i] with counters := f (s.sru.slots[i]).counters } } }
      | none => s
    (safe → handleEntry (s, n) e = (bump fun c => { c with skipped := c.skipped + 1 }, { n with skipped := n.skipped + 1 })) ∧
    (¬ safe → e.isStale s = true →
      handleEntry (s, n) e = (bump fun c => { c with stale := c.stale + 1 }, { n with stale := n.stale + 1 })) ∧
    (¬ safe → e.isStale s = false → handleEntry (s, n) e = (e.apply s, { n with applied := n.applied + 1 }))) ∧
    (∀ (s : State) (k : LineIx) (p : LineParts) (i : SlotIx), (Entry.lineSet k p i).isStale s = true ↔
      (s.dmc.lines[k]).state = .free ∨ (s.dmc.lines[k]).state = .closing ∨
        ∃ n, p.source = some (some n) ∧ s.ec.timeSlots ≤ n) ∧
    (∀ (s : State) (t : TapIx) (p : TapParts) (i : SlotIx), (Entry.tapSet t p i).isStale s = true ↔ (s.taps[t]).state ≠ .live) ∧
    (∀ (l : List Entry) (s : State),
      let x := l.foldl handleEntry (s, { applied := 0, skipped := 0, stale := 0 })
      (applyList l s).2 = x.2 ∧ x.2.applied + x.2.skipped + x.2.stale = l.length ∧
      (x.2.stale = 0 → (applyList l s).1 = x.1) ∧
      (x.2.stale ≠ 0 → (applyList l s).1 = x.1.raise (.staleEntries x.2.stale))) ∧
    ∀ (a : Action) (s : State),
      (s.ec.counter = a.frame → s.applyAction a = (applyList a.entries s).1) ∧
      (s.ec.counter ≠ a.frame → s.applyAction a = (applyList a.entries
        (({ s with cu := { s.cu with counters := { s.cu.counters with lateActions := s.cu.counters.lateActions + 1 } } } : State).raise
          (.actionLate a.handle (s.ec.counter - a.frame)))).1)

/-! ## Reporting -/

/-- COND_ENABLE writes the fifteen enabled flags and makes the alert test; ALERT_RELEASE settles every reported condition, clears the
latch and makes the alert test; PROBE_SET, PROBE_GET and COUNTERS_GET set, report and clear what their rules say (R181 to R186). -/
def Obligations.ReportingRequests : Prop :=
  ∀ (r : Request) (s : State),
    (∀ m1 m0 : Byte, Applies .condEnable r s → r.payload = [m1, m0] →
      exec (.condEnable r) s = .next (s.repliedFrom .condEnable r .ok [] (({ s.accepted with cu := { s.cu with
        conditions := mapIx (fun i c => { c with enabled := (natOf [m1, m0]).testBit i }) s.cu.conditions } } : State).alertTest))) ∧
    (Applies .alertRelease r s → r.payload = [] → s.cu.latch = false →
      exec (.alertRelease r) s = .next (s.accepted.replied .alertRelease r .ok [0])) ∧
    (Applies .alertRelease r s → r.payload = [] → s.cu.latch = true →
      exec (.alertRelease r) s = .next (s.repliedFrom .alertRelease r .ok
        [byteOf (s.cu.conditions.toList.filter fun c => c.reported).length]
        (({ s.accepted with cu := { s.cu with
          latch := false,
          conditions := mapIx (fun _ c =>
            if c.reported = false then c
            else if c.again = true then { c with reported := false, again := false, first := c.latest }
            else { c with pending := false, reported := false }) s.cu.conditions } } : State).alertTest))) ∧
    (∀ (kind ix v3 v2 v1 v0 : Byte), Applies .probeSet r s → r.payload = [kind, ix, v3, v2, v1, v0] →
      let asked := natOf [v3, v2, v1, v0]
      let trip := max 1 (min 8388608 asked)
      (3 < kind.toNat ∨ kind = 2 ∧ 63 < ix.toNat ∨ kind = 3 ∧ 15 < ix.toNat →
        exec (.probeSet r) s = .next (s.accepted.replied .probeSet r (if 3 < kind.toNat then .badValue else .badIndex) [])) ∧
      ∀ point : Point, (kind = 0 ∧ point = .off ∨ kind ≠ 0 ∧ [kind, ix] = point.bytes) →
        exec (.probeSet r) s = .next ((({ s.accepted with cu := { s.cu with probe := {
          point := point, trip := trip, armed := decide (point ≠ .off), peak := 0, snapshot := none } } } : State).note fun w =>
            { w with probe := true }).replied .probeSet r (if trip = asked then .ok else .okClamped) [])) ∧
    (Applies .probeGet r s → r.payload = [] →
      let p := s.cu.probe
      exec (.probeGet r) s = .next (({ s.accepted with cu := { s.cu with probe := { p with peak := 0 } } } : State).replied
        .probeGet r .ok (p.point.bytes ++ bytesOf 4 p.trip ++ [flagByte p.armed] ++ bytesOf 4 p.peak ++
          match p.snapshot with
          | none => List.replicate 26 0
          | some x => 1 :: bytesOf 4 x.stamp.toNat ++ signedBytes 4 x.value ++
            match x.part with
            | .tap t pos g => byteOf t.code :: bytesOf 4 pos ++ bytesOf 4 t.newPosition ++ bytesOf 2 t.fadeCount ++ signedBytes 2 g
                ++ bytesOf 4 0
            | .line w => List.replicate 13 0 ++ bytesOf 4 w
            | .bus => List.replicate 17 0))) ∧
    ∀ v : Byte, Applies .countersGet r s → r.payload = [v] →
      let c := s.cu.counters
      (v ≠ 0 → v ≠ 1 → exec (.countersGet r) s = .next (s.accepted.replied .countersGet r .badValue [])) ∧
      (v = 0 ∨ v = 1 → exec (.countersGet r) s = .next (({ s.accepted with cu := { s.cu with
        counters := if v = 1 then { memFaults := 0, linkRejects := 0, lateActions := 0, clips := Vector.replicate 16 0 }
          else c } } : State).replied .countersGet r .ok
            ((c.memFaults :: c.linkRejects :: c.lateActions :: c.clips.toList).flatMap fun n => bytesOf 4 n.toNat)))

/-! ## The control link -/

/-- The receiver, character by character (R172, R173, R174): HUNT waits for a marker; COLLECT gathers unescaped bytes, judges the
length and the frame at the moments the rules give, and at a marker queues a complete frame or rejects it. A rejection forms a REJECT
frame unless four wait, is counted and raises LINK_REJECT (R173, R176). The marker has its own command, FRAME_CLOSE. The model's
readings: a 0xF4 after a 0xF4, a close with the escape flag set and no bytes gathered, and a marker with its stop bit low that closes
(notes/assumptions/13.md); a REJECT frame being sent counts among the four (notes/assumptions/22.md). The model's choice: the REJECT
frame goes before an ALERT that its LINK_REJECT forms (notes/assumptions/27.md). -/
def Obligations.ReceiverByCharacter : Prop :=
  (∀ (s : State) (low : Bool), exec (.frameClose low) s = exec (.characterReceived 0xF5 low) s) ∧
    (∀ (s : State) (c : Byte) (low : Bool), s.link.receiver = .hunt → exec (.characterReceived c low) s =
      .next (if c = 0xF5 ∧ low = false then { s with link := { s.link with receiver := .collect [] false false } } else s)) ∧
    (∀ (why : RejectReason) (s : State),
      let sent : State :=
        if (s.link.tx.filter TxFrame.isReject).length < 4 then
          { s with link := { s.link with tx := s.link.tx ++ [.reject why] } }
        else s
      s.rejectFrame why = ({ sent with cu := { s.cu with counters := { s.cu.counters with
        linkRejects := s.cu.counters.linkRejects + 1 } } } : State).raise (.linkReject why)) ∧
    ∀ (s : State) (bytes : List Byte) (escape damaged low : Bool), s.link.receiver = .collect bytes escape damaged →
      let now (r : Receiver) : State := { s with link := { s.link with receiver := r } }
      let bad := damaged || low
      exec (.characterReceived 0xF4 low) s = .next (now (.collect bytes true bad)) ∧
      (∀ c : Byte, c ≠ 0xF4 → c ≠ 0xF5 →
        let v : Byte := if escape = true ∧ c = 0xE5 then 0xF5 else if escape = true ∧ c = 0xE4 then 0xF4 else c
        let all := bytes ++ [v]
        let length := natOf (all.take 2)
        exec (.characterReceived c low) s = .next (
          if all.length = 2 ∧ 1027 < length then (now .hunt).rejectFrame .tooLong
          else if all.length = 2 ∧ length < 3 then (now .hunt).rejectFrame .truncated
          else if 2 < all.length ∧ 2 + length + 2 < all.length then (now .hunt).rejectFrame .tooLong
          else now (.collect all false (bad || (escape && c != 0xE5 && c != 0xE4))))) ∧
      (let length := natOf (bytes.take 2)
       let opened := now (.collect [] false false)
       let check := bytes.drop (bytes.length - 2)
       let covered := bytes.take (bytes.length - 2)
       let closed := exec (.characterReceived 0xF5 low) s
       (bytes = [] → closed = .next opened) ∧
       (bytes ≠ [] → (escape = true ∨ bytes.length < 2 ∨ bytes.length < 2 + length + 2) →
         closed = .next (opened.rejectFrame .truncated)) ∧
       (escape = false → 2 ≤ bytes.length → 2 + length + 2 ≤ bytes.length →
         (bad = true ∨ natOf check ≠ (covered.map BitVec.toNat).sum % 65536 → closed = .next (opened.rejectFrame .checkBad)) ∧
         ∀ (k t d : Byte) (p : List Byte), bad = false → natOf check = (covered.map BitVec.toNat).sum % 65536 →
           covered.drop 2 = k :: t :: d :: p →
           closed = .next (
             if s.link.rx.length < 4 then
               { opened with link := { opened.link with
                 rx := s.link.rx ++ [{ kind := k, tag := t, disposition := d, payload := p }] } }
             else opened.rejectFrame .queueFull)))

/-- What the host sends is what the part reads: the frame of any well-formed request command, put on the wire with its marker, length,
check and escapes and received character by character, joins the receive queue unchanged, and spells that command (R172 to R175). -/
def Obligations.WireRoundTrip : Prop :=
  ∀ (c : Instr) (f : Frame) (s : State), c.wellFormed = true → encodeFrame c = some f →
    s.link.receiver = .hunt → s.link.rx.length < 4 →
    (wire f.body).foldl (fun o b => match o with
        | .next t => exec (.characterReceived b false) t
        | o => o) (.next s) =
      (.next { s with link := { s.link with receiver := .collect [] false false, rx := s.link.rx ++ [f] } } :
        Host.Outcome State Fault Refusal) ∧
    decodeFrame f = c

/-! ## Frames -/

/-- FRAME_BOUNDARY: the history, the latch, the return sets, the map in use and the pattern word move as the state at the boundary and
the latch of the ending frame say; the counter, the clock-loss timer and the measurement advance; the schedule is tested; a clock that
was absent is back; and in RUNNING and STOPPING the due work is applied and a computation begins with its stamp and view (R2 to R6, R16,
R90, R91, R157, R162, R169, R170). The output of each slot follows the tests of R9, and a driven slot carries its sample in 24 bits and 0
in the 8 behind them (R1). The span of a measurement is the model's count (notes/assumptions/23.md), and that CLOCK_BACK is raised before
the conditions of the due work is its reading (notes/assumptions/12.md). A computation still in progress completes first; that the
boundary itself completes it is the model's reading of R90 (notes/assumptions/7.md). -/
def Obligations.FrameBoundaryBeginsTheFrame : Prop :=
  (∀ s : State, s.fe.computation = none →
    let e := s.ec
    let p := s.port
    let shifted := p.latch.engine.portsOperate
    let operates := e.engine.portsOperate
    let computes := e.engine.computes
    let port : Port := { p with
      before := if shifted then p.previous else p.before,
      previous := if shifted then p.receive else p.previous,
      receive := if shifted then List.replicate e.timeSlots 0 else p.receive,
      transmit := if operates then p.held else p.transmit,
      held := if operates = true ∧ computes = false then Vector.replicate 16 0 else p.held,
      inUse := if operates then p.edited else p.inUse,
      generator := if operates then patternState p.generator else p.generator,
      patternWord := if operates then patternWordOf p.generator else p.patternWord,
      latch := { engine := e.engine, drive := p.drive, bypass := p.bypass, haltAction := e.haltAction },
      checker := { p.checker with justSet := false } }
    let counter := if e.engine.counts then e.counter + 1 else e.counter
    let begun : State := { s with
      port := port.formReturn e.timeSlots,
      ec := { e with
        counter := counter,
        clockTimer := computes || e.clockTimer,
        span := if operates = false then e.span else match e.span with | none => some 0 | some n => some (min 4096 (n + 1)) },
      sru := { s.sru with queue := s.sru.queue.map fun a =>
        if e.engine.counts = true ∧ (counter - a.frame).toNat < 2 ^ 31 then { a with isDue := true } else a } }
    let back : State :=
      if e.clockAbsent then
        State.raise (.clockBack counter) { begun with ec := { begun.ec with
          clockAbsent := false, fade := 0, goal := if e.engine = .stopping then 0 else 256 } }
      else begun
    let due := back.applyDueWork
    exec .frameBoundary s = .next (
      if computes then
        { due with fe := { due.fe with computation := some {
          stamp := counter,
          view := { taps := due.taps, lines := due.dmc.lines, mods := due.mu.mods, slots := due.sru.slots, fade := due.ec.fade,
                    previous := due.port.previous },
          busSums := Vector.replicate 16 0, lineSums := Vector.replicate 64 0, written := Written.nothing } } }
      else back)) ∧
    (∀ s : State, s.applyDueWork = (applyList s.sru.dueNow ((s.sru.queue.filter fun a => a.isDue).foldl (fun u a => u.applyAction a)
      { s with sru := { s.sru with queue := s.sru.queue.filter (fun a => !a.isDue), dueNow := [] } })).1) ∧
    (∀ s : State, ∃ t, exec (.frameComputationComplete []) s = .next t ∧ t.fe.computation = none ∧
      exec .frameBoundary s = exec .frameBoundary t) ∧
    ∀ (p : Port) (S : Nat) (n : EntryIx), n.val < S →
      let e := p.inUse[n]
      let sent (x : Int) : SlotWord := BitVec.ofInt 24 x ++ (0 : Byte)
      let carries (x : Option Int) : Prop := (p.formReturn S).returnSlots[n.val]? = some (x.map sent)
      let undriven := p.latch.engine.portsOperate = false ∨ p.latch.drive = false ∨ e.mode = .released
      let bypassed := p.latch.bypass = true ∨ p.latch.engine = .halted ∧ p.latch.haltAction = .bypass
      (∀ x : Int, (sent x).setWidth 8 = (0 : Byte) ∧ (InSample x → ((sent x).extractLsb' 8 24).toInt = x)) ∧
      (undriven → carries none) ∧
      (¬ undriven → bypassed → carries (some (p.previous.getD n 0))) ∧
      (¬ undriven → ¬ bypassed →
        (e.mode = .ret → (p.latch.engine = .halted ∨ p.latch.engine = .stopped) → carries (some 0)) ∧
        (∀ b : BusIx, e.mode = .ret → e.source = b.val → p.latch.engine ≠ .halted → p.latch.engine ≠ .stopped →
          carries (some p.transmit[b])) ∧
        (e.mode = .directFast → carries (some (p.previous.getD e.source.toNat 0))) ∧
        (e.mode = .directAligned → carries (some (p.before.getD e.source.toNat 0))) ∧
        (e.mode = .fixed → carries (some e.source)) ∧ (e.mode = .mute → carries (some 0)) ∧
        (e.mode = .pattern → carries (some p.patternWord.toInt)))

/-- FRAME_COMPUTATION_COMPLETE completes and writes all its results as one step (R104), each from the view unless it was written since
the boundary: the bus values and their clips (R102); the stored lines and delay memory at their write positions alone (R50, R100, R101);
the read faults, their tally and the MEMORY halt (R37, R169); for each slot its level, its saturations, trips and window and its counts
of modulation clamps and retunes started (R94, R124, R146 to R148, R152); for each tap its gain, retune and release (R76, R85, R120);
the units and reference counts of the released, and the closes they complete (R55, R60); the modulators and the beat phase (R128, R142);
the master fade and the end of a stop (R166); the probe (R184); and the conditions: an alert test after each fault, halt and clip, which stages 3 and 6 raise (R37, R102), and
one after all those that the completion raises (R179, R180). With no computation in progress only the damage it carries comes about, the
model's choice, as is that every read and store falls at the completion (notes/assumptions/6.md, 7.md, 9.md), that a fault is raised
before its halt (29.md), and that M steps from the view after a START within the last computation of a stop (28.md); the order of faults,
trips and closes within it (that of the faults of one tap: 30.md), and what a START within it leaves, are its readings (12.md, 15.md),
and a line that left its life yields nothing (8.md). -/
def Obligations.ComputationWritesItsResults : Prop :=
  (∀ (s : State) (l : List Strike), s.fe.computation = none → exec (.frameComputationComplete l) s =
    .next { s with dmc := { s.dmc with memory := l.foldl Memory.strike s.dmc.memory } }) ∧
    (∀ (s : State) (l : List Strike), (∃ t, exec (.frameComputationComplete l) s = .next t ∧ t.fe.computation = none) ∧
      exec (.frameComputationComplete l) s =
        exec (.frameComputationComplete []) { s with dmc := { s.dmc with memory := l.foldl Memory.strike s.dmc.memory } }) ∧
    ∀ (s : State) (c : Computation), s.fe.computation = some c → s.dmc.memory.wf →
      let v := c.view
      let clamp (x : Int) : Int := max (-8388608) (min 8388607 x)
      let toward (n x goal : Int) : Int := if x ≤ goal then min goal (x + n) else max goal (x - n)
      -- taps: what they give, and what the advances leave of them
      let out (j : TapIx) : TapOut := c.tapOut s.dmc.memory j
      let sum (d : Dest) : Int := (((List.finRange 256).filter fun j : TapIx =>
        decide ((v.taps[j]).state ≠ .unused ∧ (v.taps[j]).dest = d)).map fun j => (out j).contribution).sum
      let advances (j : TapIx) : Bool := decide ((v.taps[j]).state ≠ .unused) && !c.written.tapLeft[j]
      let gain (j : TapIx) : Int := toward 64 (v.taps[j]).gain (v.taps[j]).gainTarget
      let releases (j : TapIx) : Bool := advances j && decide ((v.taps[j]).state = .releasing ∧ gain j = 0)
      let moved (j : TapIx) : Tap × Bool :=
        if advances j && !c.written.tapRetune[j] then (s.taps[j]).advanceRetune else (s.taps[j], false)
      -- buses and lines
      let bus (b : BusIx) : Int := c.busSums[b] + sum (.bus b)
      let formed (k : LineIx) : Int :=
        (match (v.lines[k]).source with
          | some n => (v.previous.getD n 0 * (v.lines[k]).sendGain + 8192) / 16384
          | none => 0) + (c.lineSums[k] + sum (.line k))
      let stores (k : LineIx) : Bool :=
        decide ((v.lines[k]).state = .active ∨ (v.lines[k]).state = .closing) && !c.written.lineLeft[k]
      let y (k : LineIx) : Int :=
        clamp (formed k) - ((clamp (formed k) - (v.lines[k]).dampMem) * (v.lines[k]).damping + 32768) / 65536
      let stored (k : LineIx) : Option Nat :=
        if stores k then ((v.lines[k]).pages[(v.lines[k]).w / 4096]?).map fun g => g.val * 4096 + (v.lines[k]).w % 4096 else none
      let saturates (k : LineIx) : Bool := stores k && decide (clamp (formed k) ≠ formed k)
      let lowered (k : LineIx) : Nat := ((List.finRange 256).filter fun j : TapIx =>
        releases j && decide ((s.taps[j]).source = k ∨ (s.taps[j]).dest = .line k)).length
      let line (k : LineIx) : Line := { (if stores k then { s.dmc.lines[k] with
          w := ((v.lines[k]).w + 1) % (v.lines[k]).length, dampMem := y k,
          sendGain := toward 64 (v.lines[k]).sendGain (v.lines[k]).sendTarget } else s.dmc.lines[k]) with
        refs := (s.dmc.lines[k]).refs - lowered k }
      let closes (k : LineIx) : Bool := decide ((line k).state = .closing ∧ (line k).refs = 0)
      let dirty : List Page := s.dmc.dirty ++ ((List.finRange 64).filter closes).flatMap fun k => (s.dmc.lines[k]).pages
      -- slots
      let ofSlot (i : SlotIx) (k : LineIx) : Bool := saturates k && decide ((v.lines[k]).slot = i)
      let trips (x : Slot) : Bool := !c.written.windows && decide (x.limit ≤ x.windowCount + 1)
      let hit (x : Slot) : Slot :=
        if c.written.windows then x
        else if trips x then { x with
          windowCount := 0, windowSaturated := true, runaway := min 4 (x.runaway + 1),
          counters := { x.counters with trips := x.counters.trips + 1 } }
        else { x with windowCount := x.windowCount + 1, windowSaturated := true }
      let hits (i : SlotIx) : Nat := ((List.finRange 64).filter (ofSlot i)).length
      let window (x : Slot) : Slot :=
        if c.written.windows then x
        else if 1 < x.windowLeft then { x with windowLeft := x.windowLeft - 1 }
        else { x with
          runaway := if x.windowSaturated then x.runaway else x.runaway - 1
          windowCount := 0, windowSaturated := false, windowLeft := s.ec.fs / 10 }
      let slot (i : SlotIx) : Slot :=
        let x := window (Nat.repeat hit (hits i) s.sru.slots[i])
        let n := (s.sru.slots[i]).counters
        { x with
          level := (toward 64 (v.slots[i]).level (if (v.slots[i]).mute then 0 else (v.slots[i]).levelTarget)).toNat
          counters := { x.counters with
            saturations := n.saturations + BitVec.ofNat 32 (hits i)
            modClamps := n.modClamps + BitVec.ofNat 32
              (((List.finRange 256).filter fun j : TapIx => decide ((v.taps[j]).slot = i)).map fun j => (out j).clamps).sum
            started := n.started + BitVec.ofNat 32
              ((List.finRange 256).filter fun j : TapIx => (moved j).2 && decide ((v.taps[j]).slot = i)).length } }
      -- engine
      let faults : List (LineIx × Nat) := (List.finRange 256).flatMap fun j => (out j).faults
      let second := c.stamp.toNat / s.ec.fs
      let before := if s.ec.tally.window = some second then s.ec.tally.count else 0
      let tally := before + faults.length
      let e := s.ec.engine
      let cause : Bool := decide (faults ≠ [] ∧ 8 ≤ tally)
      let halts : Bool := cause && decide (e = .running ∨ e = .stopping)
      let reasons : HaltReasons := { s.ec.reasons with memory := true }
      let fade : Nat := if c.written.fade then s.ec.fade else (toward 1 v.fade s.ec.goal).toNat
      let stops : Bool := !halts && decide (e = .stopping ∧ fade = 0)
      -- the probe
      let offered : Option (Int × SnapPart) :=
        if c.written.probe then none
        else match s.cu.probe.point with
          | .off => none
          | .tap j =>
            if (v.taps[j]).state ≠ .unused ∧
                ((v.lines[(v.taps[j]).source]).state = .active ∨ (v.lines[(v.taps[j]).source]).state = .closing) then
              some ((out j).sample, .tap (v.taps[j]).retune (v.taps[j]).position (v.taps[j]).gain)
            else none
          | .line k => if stores k then some (y k, .line (v.lines[k]).w) else none
          | .bus b => some (clamp (bus b), .bus)
      let tripped (x : Int) : Bool := s.cu.probe.armed && decide (s.cu.probe.trip ≤ x.natAbs)
      -- the conditions: those of stages 3 and 6 each with its alert test, those of the completion with one after them all
      let reported : List Detail :=
        (faults.zipIdx.flatMap fun f => .memFault f.1.1 f.1.2 ::
          (if f.2 = 7 - before ∧ (e = .running ∨ e = .stopping ∨ e = .halted ∧ s.ec.reasons.memory = false)
            then [.halted reasons] else [])) ++
        ((List.finRange 16).filterMap fun b => if clamp (bus b) = bus b then none else some (.busClip b))
      let completed : List Detail :=
        ((List.finRange 64).filterMap fun k =>
          let i := (v.lines[k]).slot
          let earlier := ((List.finRange 64).filter fun j : LineIx => decide (j < k) && ofSlot i j).length
          let x := Nat.repeat hit earlier s.sru.slots[i]
          if saturates k = true ∧ trips x = true then some (.runawayTrip i (min 4 (x.runaway + 1))) else none) ++
        (if stops then [.stopDone s.ec.counter] else []) ++
        (match offered with
          | some x => if tripped x.1 then [.probeTrip s.cu.probe.point x.1] else []
          | none => [])
      let told := (completed.foldl (fun u d => u.post c.stamp d)
        (reported.foldl (fun u d => (u.post c.stamp d).alertTest) s)).alertTest
      ∃ t, exec (.frameComputationComplete []) s = .next t ∧ t.fe.computation = none ∧ t.pending = s.pending ∧
        t.choices = s.choices ∧
        (∀ b : BusIx, t.fe.busValues[b] = clamp (bus b) ∧ t.port.held[b] = clamp (bus b)) ∧
        t.port = { s.port with held := t.port.held } ∧
        (∀ k : LineIx, t.dmc.lines[k] = if closes k then Line.freeValue else line k) ∧
        (t.dmc.scrubber, t.dmc.dirty) = (match s.dmc.scrubber, dirty with
          | none, p :: rest => if e = .unconfigured then (none, dirty) else (some p, rest)
          | x, d => (x, d)) ∧
        t.dmc.clean = s.dmc.clean ∧ t.dmc.waitList = s.dmc.waitList ∧ t.dmc.roundRobin = s.dmc.roundRobin ∧
        (∀ a : Nat, (∀ k : LineIx, stored k ≠ some a) → t.dmc.memory.read a = s.dmc.memory.read a) ∧
        (∀ (k : LineIx) (a : Nat), stored k = some a → (∀ j : LineIx, j ≠ k → stored j ≠ some a) →
          t.dmc.memory.read a = { value := y k, damage := none }) ∧
        (∀ j : TapIx, t.taps[j] =
          if releases j then Tap.freeValue
          else if advances j then { (moved j).1 with gain := gain j } else s.taps[j]) ∧
        (∀ i : SlotIx, t.sru.slots[i] = slot i) ∧ t.sru = { s.sru with slots := t.sru.slots } ∧
        (let wraps : Bool := !c.written.beatPhase && decide (s.mu.tempo ≤ s.mu.beatPhase + 1)
         t.mu.tempo = s.mu.tempo ∧ t.mu.tracker = s.mu.tracker ∧
         t.mu.beatPhase = (if c.written.beatPhase then s.mu.beatPhase else if wraps then 0 else s.mu.beatPhase + 1) ∧
         ∀ i : ModIx,
           let m := if c.written.modPhase[i] then s.mu.mods[i]
             else (s.mu.mods[i]).advance (v.mods[i]).increment (v.mods[i]).phase
           t.mu.mods[i] = if wraps = true ∧ m.beatSync = true then { m with phase := 0 } else m) ∧
        t.ec = { s.ec with
          engine := if halts then .halted else if stops then .stopped else e
          reasons := if cause = true ∧ (e = .running ∨ e = .stopping ∨ e = .halted) then reasons else s.ec.reasons
          clockAbsent := s.ec.clockAbsent && !halts && !stops
          clockTimer := s.ec.clockTimer && !halts && !stops
          fade := fade
          tally := if faults = [] then s.ec.tally else { window := some second, count := tally }
          budgetUsed := s.ec.budgetUsed - 4 * ((List.finRange 256).filter releases).length
            - 2 * ((List.finRange 64).filter closes).length } ∧
        t.cu.probe = (match offered with
          | none => s.cu.probe
          | some (x, part) => { s.cu.probe with
            peak := max s.cu.probe.peak x.natAbs
            armed := s.cu.probe.armed && !tripped x
            snapshot := if tripped x then some { stamp := c.stamp, value := x, part := part } else s.cu.probe.snapshot }) ∧
        t.cu.counters.memFaults = s.cu.counters.memFaults + BitVec.ofNat 32 faults.length ∧
        t.cu.counters.linkRejects = s.cu.counters.linkRejects ∧ t.cu.counters.lateActions = s.cu.counters.lateActions ∧
        (∀ b : BusIx, t.cu.counters.clips[b] = s.cu.counters.clips[b] + if clamp (bus b) = bus b then 0 else 1) ∧
        t.cu.conditions = told.cu.conditions ∧ t.cu.latch = told.cu.latch ∧ t.link = told.link

/-- What each tap of the view gives (R93, R94, R96, R97, R99): a tap that is not readable gives 0; a readable one is read at each of
its base positions plus the offset of its modulator, clamped to its line and counted where clamped; a fading tap mixes its two reads.
That the reads of a line that has left its life were not made before is the model's choice (notes/assumptions/8.md), and so is the order
of the faults of one tap (notes/assumptions/30.md). -/
def Obligations.TapsAreReadAndScaled : Prop :=
  ∀ (c : Computation) (m : Memory) (t : TapIx),
    let v := c.view
    let tap := v.taps[t]
    let line := v.lines[tap.source]
    let readable := tap.state ≠ .unused ∧ (line.state = .active ∨ line.state = .closing) ∧ c.written.lineLeft[tap.source] = false
    let offset : Int := match tap.modulator with
      | none => 0
      | some i => (tap.depth * (v.mods[i]).value) / 32768
    let at' (q : Nat) : Nat := (max 256 (min (((line.length - 1) * 256 : Nat) : Int) (q + offset))).toNat
    let clamps (q : Nat) : Nat := if ((at' q : Nat) : Int) = q + offset then 0 else 1
    let read (q : Nat) := interpolatedRead m tap.source line (at' q)
    let gain : Int := match tap.dest with
      | .bus _ => (tap.gain * (v.slots[tap.slot]).level * v.fade + 2097152) / 4194304
      | .line _ => Int.tdiv tap.gain (2 ^ (v.slots[tap.slot]).runaway)
    let out := c.tapOut m t
    (¬ readable → out.sample = 0 ∧ out.clamps = 0 ∧ out.faults = [] ∧ out.contribution = 0) ∧
    (readable →
      out.contribution = (out.sample * gain + 8192) / 16384 ∧
      ((∀ n k F p, tap.retune ≠ .fading n k F p) →
        out.sample = (read tap.position).value ∧ out.clamps = clamps tap.position ∧
        out.faults = (read tap.position).faults) ∧
      ∀ n k F p, tap.retune = .fading n k F p →
        out.sample = (read tap.position).value +
          (((read n).value - (read tap.position).value) * k + ((F / 2 : Nat) : Int)) / F ∧
        out.clamps = clamps tap.position + clamps n ∧
        out.faults = (read tap.position).faults ++ (read n).faults)

/-- PAGE_CLEAR_COMPLETE: the page, zeroed, joins the clean pool; the wait list is served in its order, and the first line that finds too
few pages ends the service; the next dirty page enters the scrubber; and in INITIALIZING the last clear makes the engine STOPPED and
raises INIT_DONE (R25, R27, R28, R29, R34, R48). -/
def Obligations.PageClearsServeTheWaitList : Prop :=
  (∀ (s : State) (p : Page), s.dmc.scrubber = some p →
    let cleared : State := { s with dmc := { s.dmc with
      memory := s.dmc.memory.filter (fun q => q.1 / 4096 ≠ p.val), clean := s.dmc.clean ++ [p], scrubber := none } }
    let served := cleared.serveWaitList
    (∀ (q : Page) (rest : List Page), s.ec.engine ≠ .unconfigured → s.dmc.dirty = q :: rest →
      exec .pageClearComplete s = .next { served with dmc := { served.dmc with scrubber := some q, dirty := rest } }) ∧
    (s.dmc.dirty = [] → s.ec.engine ≠ .initializing → exec .pageClearComplete s = .next served) ∧
    (∀ rate : Rate, s.dmc.dirty = [] → s.ec.engine = .initializing → s.ec.rate = some rate →
      exec .pageClearComplete s =
        .next (State.raise (.initDone rate) { served with ec := { served.ec with engine := .stopped } }))) ∧
    (∀ s : State, s.dmc.waitList = [] → s.serveWaitList = s) ∧
    (∀ (s : State) (k : LineIx) (rest : List LineIx), s.dmc.waitList = k :: rest →
      s.dmc.clean.length < (s.dmc.lines[k]).pageCount → s.serveWaitList = s) ∧
    ∀ (s : State) (k : LineIx) (rest : List LineIx), s.dmc.waitList = k :: rest →
      (s.dmc.lines[k]).pageCount ≤ s.dmc.clean.length →
      let l := s.dmc.lines[k]
      s.serveWaitList = (State.raise (.lineReady k) { s with dmc := { s.dmc with
        lines := s.dmc.lines.set k { l with
          state := .active, pages := s.dmc.clean.take l.pageCount, w := 0, dampMem := 0, sendGain := 0 },
        clean := s.dmc.clean.drop l.pageCount, waitList := rest } }).serveWaitList

/-- INPUT_SLOT_RECEIVED: the sample enters the receive buffer, and when its slot is the checked one the checker examines the word:
loading, counting exact words up to lock, counting wrong bits and bad words up to the loss of lock, with CHECK_LOCK at each change
(R3, R17 to R20). In a frame in which the ports do not operate nothing is received (R2); that nothing is received after an INIT taken
within the frame is the model's choice (notes/assumptions/14.md). -/
def Obligations.InputSlotsAndTheChecker : Prop :=
  ∀ (s : State) (n : Nat) (w : Word24) (fresh : Bool),
    (s.port.latch.engine.portsOperate = false ∨ s.ec.engine.portsOperate = false ∨ s.ec.timeSlots ≤ n →
      exec (.inputSlotReceived n w fresh) s = .next s) ∧
    (s.port.latch.engine.portsOperate = true → s.ec.engine.portsOperate = true → n < s.ec.timeSlots →
      let c : Checker := { s.port.checker with justSet := false }
      let received : State := { s with port := { s.port with receive := s.port.receive.set n w.toInt } }
      let answers (u : State) : Prop := exec (.inputSlotReceived n w fresh) s = .next u
      let checked (d : Checker) : State := { received with port := { received.port with checker := d } }
      let load : Option SeqState := if w.setWidth 15 = 0 then none else some (w.setWidth 15)
      (s.port.checker.slot ≠ some n → answers received) ∧
      (s.port.checker.slot = some n → s.port.checker.justSet = true → fresh = false → answers (checked c)) ∧
      (s.port.checker.slot = some n → (s.port.checker.justSet = false ∨ fresh = true) →
        (c.state = .off → answers (checked c)) ∧
        (c.state = .seeking → c.reference = none → answers (checked { c with reference := load })) ∧
        ∀ x : SeqState, c.reference = some x →
          (c.state = .seeking →
            (patternWordOf x ≠ w → answers (checked { c with reference := load, consecutive := 0 })) ∧
            (patternWordOf x = w → c.consecutive ≠ 3 →
              answers (checked { c with reference := some (patternState x), consecutive := c.consecutive + 1 })) ∧
            (patternWordOf x = w → c.consecutive = 3 →
              answers ((checked { c with reference := some (patternState x), state := .locked, consecutive := 0 }).raise
                (.checkLock n .locked)))) ∧
          (c.state = .locked →
            let d := ((List.range 24).filter fun i => (patternWordOf x).getLsbD i != w.getLsbD i).length
            let counted : Checker := { c with running := c.running + BitVec.ofNat 16 d, reference := some (patternState x) }
            (d ≤ 5 → answers (checked { counted with consecutive := 0 })) ∧
            (6 ≤ d → c.consecutive ≠ 3 → answers (checked { counted with consecutive := c.consecutive + 1 })) ∧
            (6 ≤ d → c.consecutive = 3 →
              answers ((checked { counted with reference := load, state := .seeking, consecutive := 0 }).raise
                (.checkLock n .seeking))))))

/-- RATE_MEASUREMENT_COMPLETE classes the span against 64 ms and is a halt cause when the class disagrees with the rate; the loss of the
clock empties the measurement; CLOCK_LOST sets the clock-absent mark and raises its condition (R167, R169, R170). That each changes
nothing when it is not due is the model's choice (notes/assumptions/6.md). -/
def Obligations.RateAndClockEvents : Prop :=
  (∀ (s : State) (elapsed : Nat) (rate : Rate), s.ec.rate = some rate → s.ec.span = some 4096 →
    let agrees := match rate with | .r48 => 64000 ≤ elapsed | .r96 => elapsed < 64000
    let measured (x : RateResult) : State := { s with ec := { s.ec with span := some 0, rateResult := x } }
    let answers (u : State) : Prop := exec (.rateMeasurementComplete elapsed) s = .next u
    let reasons : HaltReasons := { s.ec.reasons with rate := true }
    (agrees → answers (measured .agree)) ∧
    (¬ agrees → (s.ec.engine = .running ∨ s.ec.engine = .stopping) →
      answers (State.raise (.halted reasons) { s with ec := { s.ec with
        span := some 0, rateResult := .disagree, engine := .halted, reasons := reasons, clockAbsent := false,
        clockTimer := false } })) ∧
    (¬ agrees → s.ec.engine = .halted → s.ec.reasons.rate = false →
      answers (State.raise (.halted reasons) { s with ec := { s.ec with
        span := some 0, rateResult := .disagree, reasons := reasons } })) ∧
    (¬ agrees → s.cu.Consistent → (s.ec.engine = .stopped ∨ s.ec.engine = .halted ∧ s.ec.reasons.rate = true) →
      answers (measured .disagree))) ∧
    ∀ s : State,
      (∀ elapsed, s.ec.span ≠ some 4096 → exec (.rateMeasurementComplete elapsed) s = .next s) ∧
      (s.ec.engine.portsOperate = true →
        exec .rateMeasurementLoss s = .next { s with ec := { s.ec with span := none } }) ∧
      (s.ec.engine.portsOperate = false → exec .rateMeasurementLoss s = .next s) ∧
      ((s.ec.engine = .running ∨ s.ec.engine = .stopping) → s.ec.clockTimer = true →
        exec .clockLost s = .next (State.raise (.clockLost s.ec.counter) { s with ec := { s.ec with
          clockAbsent := true, clockTimer := false } })) ∧
      ((s.ec.engine.computes = false ∨ s.ec.clockTimer = false) → exec .clockLost s = .next s)

/-! ## Arithmetic -/

/-- R15: a sequence step forms the exclusive-or of bits 14 and 15, moves every bit one place older and places the result in bit 1 (bit
k of the manual is bit k − 1 here); from any non-zero state the 32,767 non-zero states come round before any repeats; zero stays zero;
and after 24 steps the last 15 bits of the word produced are the state. -/
def Obligations.SequenceStep : Prop :=
  (∀ r : SeqState, (seqStep r).getLsbD 0 = (r.getLsbD 13 ^^ r.getLsbD 14) ∧
      (∀ k, k < 14 → (seqStep r).getLsbD (k + 1) = r.getLsbD k)) ∧
    (∀ r : SeqState, r ≠ 0 → ∀ q : SeqState, q ≠ 0 → ∃ n, n < 32767 ∧ Nat.repeat seqStep n r = q) ∧
    (∀ r : SeqState, r ≠ 0 → Nat.repeat seqStep 32767 r = r ∧
      ∀ m n, m < n → n < 32767 → Nat.repeat seqStep m r ≠ Nat.repeat seqStep n r) ∧
    seqStep 0 = 0 ∧
    ∀ r : SeqState, patternState r = Nat.repeat seqStep 24 r ∧ (patternWordOf r).setWidth 15 = patternState r ∧
      ∀ n, n < 24 → (patternWordOf r).getLsbD (23 - n) = (Nat.repeat seqStep (n + 1) r).getLsbD 0

/-- R98: the gain of a tap whose destination is a line is its gain current divided by two to the runaway level, truncated toward zero;
level, mute and master fade do not enter it; it is the gain current at level 0; it stays within the feedback ceiling and keeps its
symmetry about zero; and the manual's two figures come out. -/
def Obligations.FeedbackGain : Prop :=
  (∀ (v : View) (t : TapIx) (k : LineIx), (v.taps[t]).dest = .line k →
    v.effectiveGain t = Int.tdiv (v.taps[t]).gain (2 ^ (v.slots[(v.taps[t]).slot]).runaway) ∧
    ((v.slots[(v.taps[t]).slot]).runaway = 0 → v.effectiveGain t = (v.taps[t]).gain) ∧
    ((v.slots[(v.taps[t]).slot]).runaway = 2 → (v.taps[t]).gain = 12288 → v.effectiveGain t = 3072) ∧
    ((v.slots[(v.taps[t]).slot]).runaway = 2 → (v.taps[t]).gain = -12287 → v.effectiveGain t = -3071) ∧
    (-16000 ≤ (v.taps[t]).gain → (v.taps[t]).gain ≤ 16000 → -16000 ≤ v.effectiveGain t ∧ v.effectiveGain t ≤ 16000)) ∧
    (∀ (u v : View) (t : TapIx) (k : LineIx), (v.taps[t]).dest = .line k → u.taps[t] = v.taps[t] →
      (u.slots[(v.taps[t]).slot]).runaway = (v.slots[(v.taps[t]).slot]).runaway → u.effectiveGain t = v.effectiveGain t) ∧
    ∀ (g : Int) (n : Nat), Int.tdiv (-g) (2 ^ n) = -(Int.tdiv g (2 ^ n))

/-- R95: with D = q div 256 and f = q mod 256 the interpolated read gives a + floor(((b − a) × f + 128) / 256) from the samples at the
delays D and D + 1, both read whatever f is, each reporting its own fault; the value lies between them, is a when f is 0, and is in the
sample range when they are; and for q in the range of the line D is 1 to L − 1. That the fault at D is reported before the one at D + 1
is the model's choice (notes/assumptions/30.md). -/
def Obligations.InterpolatedRead : Prop :=
  (∀ (m : Memory) (k : LineIx) (l : Line) (q : Nat),
    let D := q / 256
    let f := q % 256
    let a := readSample m k l D
    let b := readSample m k l (D + 1)
    let r := interpolatedRead m k l q
    r.value = a.value + Int.fdiv ((b.value - a.value) * f + 128) 256 ∧ r.faults = a.faults ++ b.faults ∧
    min a.value b.value ≤ r.value ∧ r.value ≤ max a.value b.value ∧ (f = 0 → r.value = a.value) ∧
    (InSample a.value → InSample b.value → InSample r.value) ∧
    (256 ≤ q → q ≤ (l.length - 1) * 256 → 1 ≤ D ∧ D ≤ l.length - 1 ∧ 2 ≤ D + 1 ∧ D + 1 ≤ l.length)) ∧
    ∀ (m : Memory) (k : LineIx) (l : Line) (d : Nat) (g : Page), l.w < l.length → d ≤ l.length → 1 ≤ d →
      let x := (l.w + l.length - d) % l.length
      l.pages[x / 4096]? = some g →
      let y := m.read (g.val * 4096 + x % 4096)
      (y.damage = some .uncorrectable → readSample m k l d = { value := 0, faults := [(k, x)] }) ∧
      (y.damage ≠ some .uncorrectable → readSample m k l d = { value := y.value, faults := [] })

end
end

