-- ==== Sys2Proof/Laws/State.lean ====
section
/-! SUPPORT. The plain updates of State: what each writes, and that it leaves every other field alone. Every lemma holds by rfl. -/

namespace Sys2Proof.Machine

@[simp] theorem State.send_link (s : State) (f : TxFrame) : (s.send f).link = { s.link with tx := s.link.tx ++ [f] } := rfl
@[simp] theorem State.send_ec (s : State) (f : TxFrame) : (s.send f).ec = s.ec := rfl
@[simp] theorem State.send_port (s : State) (f : TxFrame) : (s.send f).port = s.port := rfl
@[simp] theorem State.send_dmc (s : State) (f : TxFrame) : (s.send f).dmc = s.dmc := rfl
@[simp] theorem State.send_taps (s : State) (f : TxFrame) : (s.send f).taps = s.taps := rfl
@[simp] theorem State.send_mu (s : State) (f : TxFrame) : (s.send f).mu = s.mu := rfl
@[simp] theorem State.send_fe (s : State) (f : TxFrame) : (s.send f).fe = s.fe := rfl
@[simp] theorem State.send_sru (s : State) (f : TxFrame) : (s.send f).sru = s.sru := rfl
@[simp] theorem State.send_cu (s : State) (f : TxFrame) : (s.send f).cu = s.cu := rfl
@[simp] theorem State.send_choices (s : State) (f : TxFrame) : (s.send f).choices = s.choices := rfl
@[simp] theorem State.send_pending (s : State) (f : TxFrame) : (s.send f).pending = s.pending := rfl

@[simp] theorem State.post_link (s : State) (n : Word32) (d : Detail) : (s.post n d).link = s.link := rfl
@[simp] theorem State.post_ec (s : State) (n : Word32) (d : Detail) : (s.post n d).ec = s.ec := rfl
@[simp] theorem State.post_port (s : State) (n : Word32) (d : Detail) : (s.post n d).port = s.port := rfl
@[simp] theorem State.post_dmc (s : State) (n : Word32) (d : Detail) : (s.post n d).dmc = s.dmc := rfl
@[simp] theorem State.post_taps (s : State) (n : Word32) (d : Detail) : (s.post n d).taps = s.taps := rfl
@[simp] theorem State.post_mu (s : State) (n : Word32) (d : Detail) : (s.post n d).mu = s.mu := rfl
@[simp] theorem State.post_fe (s : State) (n : Word32) (d : Detail) : (s.post n d).fe = s.fe := rfl
@[simp] theorem State.post_sru (s : State) (n : Word32) (d : Detail) : (s.post n d).sru = s.sru := rfl
@[simp] theorem State.post_cu (s : State) (n : Word32) (d : Detail) : (s.post n d).cu = { s.cu with conditions := updateAt s.cu.conditions d.code (Condition.record { stamp := n, detail := d }) } := rfl
@[simp] theorem State.post_choices (s : State) (n : Word32) (d : Detail) : (s.post n d).choices = s.choices := rfl
@[simp] theorem State.post_pending (s : State) (n : Word32) (d : Detail) : (s.post n d).pending = s.pending := rfl

@[simp] theorem State.mapLine_link (s : State) (k : LineIx) (f : Line → Line) : (s.mapLine k f).link = s.link := rfl
@[simp] theorem State.mapLine_ec (s : State) (k : LineIx) (f : Line → Line) : (s.mapLine k f).ec = s.ec := rfl
@[simp] theorem State.mapLine_port (s : State) (k : LineIx) (f : Line → Line) : (s.mapLine k f).port = s.port := rfl
@[simp] theorem State.mapLine_dmc (s : State) (k : LineIx) (f : Line → Line) : (s.mapLine k f).dmc = { s.dmc with lines := updateAt s.dmc.lines k f } := rfl
@[simp] theorem State.mapLine_taps (s : State) (k : LineIx) (f : Line → Line) : (s.mapLine k f).taps = s.taps := rfl
@[simp] theorem State.mapLine_mu (s : State) (k : LineIx) (f : Line → Line) : (s.mapLine k f).mu = s.mu := rfl
@[simp] theorem State.mapLine_fe (s : State) (k : LineIx) (f : Line → Line) : (s.mapLine k f).fe = s.fe := rfl
@[simp] theorem State.mapLine_sru (s : State) (k : LineIx) (f : Line → Line) : (s.mapLine k f).sru = s.sru := rfl
@[simp] theorem State.mapLine_cu (s : State) (k : LineIx) (f : Line → Line) : (s.mapLine k f).cu = s.cu := rfl
@[simp] theorem State.mapLine_choices (s : State) (k : LineIx) (f : Line → Line) : (s.mapLine k f).choices = s.choices := rfl
@[simp] theorem State.mapLine_pending (s : State) (k : LineIx) (f : Line → Line) : (s.mapLine k f).pending = s.pending := rfl

@[simp] theorem State.mapTap_link (s : State) (t : TapIx) (f : Tap → Tap) : (s.mapTap t f).link = s.link := rfl
@[simp] theorem State.mapTap_ec (s : State) (t : TapIx) (f : Tap → Tap) : (s.mapTap t f).ec = s.ec := rfl
@[simp] theorem State.mapTap_port (s : State) (t : TapIx) (f : Tap → Tap) : (s.mapTap t f).port = s.port := rfl
@[simp] theorem State.mapTap_dmc (s : State) (t : TapIx) (f : Tap → Tap) : (s.mapTap t f).dmc = s.dmc := rfl
@[simp] theorem State.mapTap_taps (s : State) (t : TapIx) (f : Tap → Tap) : (s.mapTap t f).taps = updateAt s.taps t f := rfl
@[simp] theorem State.mapTap_mu (s : State) (t : TapIx) (f : Tap → Tap) : (s.mapTap t f).mu = s.mu := rfl
@[simp] theorem State.mapTap_fe (s : State) (t : TapIx) (f : Tap → Tap) : (s.mapTap t f).fe = s.fe := rfl
@[simp] theorem State.mapTap_sru (s : State) (t : TapIx) (f : Tap → Tap) : (s.mapTap t f).sru = s.sru := rfl
@[simp] theorem State.mapTap_cu (s : State) (t : TapIx) (f : Tap → Tap) : (s.mapTap t f).cu = s.cu := rfl
@[simp] theorem State.mapTap_choices (s : State) (t : TapIx) (f : Tap → Tap) : (s.mapTap t f).choices = s.choices := rfl
@[simp] theorem State.mapTap_pending (s : State) (t : TapIx) (f : Tap → Tap) : (s.mapTap t f).pending = s.pending := rfl

@[simp] theorem State.mapMod_link (s : State) (m : ModIx) (f : Modulator → Modulator) : (s.mapMod m f).link = s.link := rfl
@[simp] theorem State.mapMod_ec (s : State) (m : ModIx) (f : Modulator → Modulator) : (s.mapMod m f).ec = s.ec := rfl
@[simp] theorem State.mapMod_port (s : State) (m : ModIx) (f : Modulator → Modulator) : (s.mapMod m f).port = s.port := rfl
@[simp] theorem State.mapMod_dmc (s : State) (m : ModIx) (f : Modulator → Modulator) : (s.mapMod m f).dmc = s.dmc := rfl
@[simp] theorem State.mapMod_taps (s : State) (m : ModIx) (f : Modulator → Modulator) : (s.mapMod m f).taps = s.taps := rfl
@[simp] theorem State.mapMod_mu (s : State) (m : ModIx) (f : Modulator → Modulator) : (s.mapMod m f).mu = { s.mu with mods := updateAt s.mu.mods m f } := rfl
@[simp] theorem State.mapMod_fe (s : State) (m : ModIx) (f : Modulator → Modulator) : (s.mapMod m f).fe = s.fe := rfl
@[simp] theorem State.mapMod_sru (s : State) (m : ModIx) (f : Modulator → Modulator) : (s.mapMod m f).sru = s.sru := rfl
@[simp] theorem State.mapMod_cu (s : State) (m : ModIx) (f : Modulator → Modulator) : (s.mapMod m f).cu = s.cu := rfl
@[simp] theorem State.mapMod_choices (s : State) (m : ModIx) (f : Modulator → Modulator) : (s.mapMod m f).choices = s.choices := rfl
@[simp] theorem State.mapMod_pending (s : State) (m : ModIx) (f : Modulator → Modulator) : (s.mapMod m f).pending = s.pending := rfl

@[simp] theorem State.mapSlot_link (s : State) (i : SlotIx) (f : Slot → Slot) : (s.mapSlot i f).link = s.link := rfl
@[simp] theorem State.mapSlot_ec (s : State) (i : SlotIx) (f : Slot → Slot) : (s.mapSlot i f).ec = s.ec := rfl
@[simp] theorem State.mapSlot_port (s : State) (i : SlotIx) (f : Slot → Slot) : (s.mapSlot i f).port = s.port := rfl
@[simp] theorem State.mapSlot_dmc (s : State) (i : SlotIx) (f : Slot → Slot) : (s.mapSlot i f).dmc = s.dmc := rfl
@[simp] theorem State.mapSlot_taps (s : State) (i : SlotIx) (f : Slot → Slot) : (s.mapSlot i f).taps = s.taps := rfl
@[simp] theorem State.mapSlot_mu (s : State) (i : SlotIx) (f : Slot → Slot) : (s.mapSlot i f).mu = s.mu := rfl
@[simp] theorem State.mapSlot_fe (s : State) (i : SlotIx) (f : Slot → Slot) : (s.mapSlot i f).fe = s.fe := rfl
@[simp] theorem State.mapSlot_sru (s : State) (i : SlotIx) (f : Slot → Slot) : (s.mapSlot i f).sru = { s.sru with slots := updateAt s.sru.slots i f } := rfl
@[simp] theorem State.mapSlot_cu (s : State) (i : SlotIx) (f : Slot → Slot) : (s.mapSlot i f).cu = s.cu := rfl
@[simp] theorem State.mapSlot_choices (s : State) (i : SlotIx) (f : Slot → Slot) : (s.mapSlot i f).choices = s.choices := rfl
@[simp] theorem State.mapSlot_pending (s : State) (i : SlotIx) (f : Slot → Slot) : (s.mapSlot i f).pending = s.pending := rfl

@[simp] theorem State.countSlot_link (s : State) (i : SlotIx) (f : SlotCounters → SlotCounters) : (s.countSlot i f).link = s.link := rfl
@[simp] theorem State.countSlot_ec (s : State) (i : SlotIx) (f : SlotCounters → SlotCounters) : (s.countSlot i f).ec = s.ec := rfl
@[simp] theorem State.countSlot_port (s : State) (i : SlotIx) (f : SlotCounters → SlotCounters) : (s.countSlot i f).port = s.port := rfl
@[simp] theorem State.countSlot_dmc (s : State) (i : SlotIx) (f : SlotCounters → SlotCounters) : (s.countSlot i f).dmc = s.dmc := rfl
@[simp] theorem State.countSlot_taps (s : State) (i : SlotIx) (f : SlotCounters → SlotCounters) : (s.countSlot i f).taps = s.taps := rfl
@[simp] theorem State.countSlot_mu (s : State) (i : SlotIx) (f : SlotCounters → SlotCounters) : (s.countSlot i f).mu = s.mu := rfl
@[simp] theorem State.countSlot_fe (s : State) (i : SlotIx) (f : SlotCounters → SlotCounters) : (s.countSlot i f).fe = s.fe := rfl
@[simp] theorem State.countSlot_sru (s : State) (i : SlotIx) (f : SlotCounters → SlotCounters) : (s.countSlot i f).sru = { s.sru with slots := updateAt s.sru.slots i fun r => { r with counters := f r.counters } } := rfl
@[simp] theorem State.countSlot_cu (s : State) (i : SlotIx) (f : SlotCounters → SlotCounters) : (s.countSlot i f).cu = s.cu := rfl
@[simp] theorem State.countSlot_choices (s : State) (i : SlotIx) (f : SlotCounters → SlotCounters) : (s.countSlot i f).choices = s.choices := rfl
@[simp] theorem State.countSlot_pending (s : State) (i : SlotIx) (f : SlotCounters → SlotCounters) : (s.countSlot i f).pending = s.pending := rfl

@[simp] theorem State.note_link (s : State) (f : Written → Written) : (s.note f).link = s.link := rfl
@[simp] theorem State.note_ec (s : State) (f : Written → Written) : (s.note f).ec = s.ec := rfl
@[simp] theorem State.note_port (s : State) (f : Written → Written) : (s.note f).port = s.port := rfl
@[simp] theorem State.note_dmc (s : State) (f : Written → Written) : (s.note f).dmc = s.dmc := rfl
@[simp] theorem State.note_taps (s : State) (f : Written → Written) : (s.note f).taps = s.taps := rfl
@[simp] theorem State.note_mu (s : State) (f : Written → Written) : (s.note f).mu = s.mu := rfl
@[simp] theorem State.note_fe (s : State) (f : Written → Written) : (s.note f).fe = { s.fe with computation := s.fe.computation.map fun c => { c with written := f c.written } } := rfl
@[simp] theorem State.note_sru (s : State) (f : Written → Written) : (s.note f).sru = s.sru := rfl
@[simp] theorem State.note_cu (s : State) (f : Written → Written) : (s.note f).cu = s.cu := rfl
@[simp] theorem State.note_choices (s : State) (f : Written → Written) : (s.note f).choices = s.choices := rfl
@[simp] theorem State.note_pending (s : State) (f : Written → Written) : (s.note f).pending = s.pending := rfl

@[simp] theorem State.charge_link (s : State) (n : Nat) : (s.charge n).link = s.link := rfl
@[simp] theorem State.charge_ec (s : State) (n : Nat) : (s.charge n).ec = { s.ec with budgetUsed := s.ec.budgetUsed + n } := rfl
@[simp] theorem State.charge_port (s : State) (n : Nat) : (s.charge n).port = s.port := rfl
@[simp] theorem State.charge_dmc (s : State) (n : Nat) : (s.charge n).dmc = s.dmc := rfl
@[simp] theorem State.charge_taps (s : State) (n : Nat) : (s.charge n).taps = s.taps := rfl
@[simp] theorem State.charge_mu (s : State) (n : Nat) : (s.charge n).mu = s.mu := rfl
@[simp] theorem State.charge_fe (s : State) (n : Nat) : (s.charge n).fe = s.fe := rfl
@[simp] theorem State.charge_sru (s : State) (n : Nat) : (s.charge n).sru = s.sru := rfl
@[simp] theorem State.charge_cu (s : State) (n : Nat) : (s.charge n).cu = s.cu := rfl
@[simp] theorem State.charge_choices (s : State) (n : Nat) : (s.charge n).choices = s.choices := rfl
@[simp] theorem State.charge_pending (s : State) (n : Nat) : (s.charge n).pending = s.pending := rfl

@[simp] theorem State.refund_link (s : State) (n : Nat) : (s.refund n).link = s.link := rfl
@[simp] theorem State.refund_ec (s : State) (n : Nat) : (s.refund n).ec = { s.ec with budgetUsed := s.ec.budgetUsed - n } := rfl
@[simp] theorem State.refund_port (s : State) (n : Nat) : (s.refund n).port = s.port := rfl
@[simp] theorem State.refund_dmc (s : State) (n : Nat) : (s.refund n).dmc = s.dmc := rfl
@[simp] theorem State.refund_taps (s : State) (n : Nat) : (s.refund n).taps = s.taps := rfl
@[simp] theorem State.refund_mu (s : State) (n : Nat) : (s.refund n).mu = s.mu := rfl
@[simp] theorem State.refund_fe (s : State) (n : Nat) : (s.refund n).fe = s.fe := rfl
@[simp] theorem State.refund_sru (s : State) (n : Nat) : (s.refund n).sru = s.sru := rfl
@[simp] theorem State.refund_cu (s : State) (n : Nat) : (s.refund n).cu = s.cu := rfl
@[simp] theorem State.refund_choices (s : State) (n : Nat) : (s.refund n).choices = s.choices := rfl
@[simp] theorem State.refund_pending (s : State) (n : Nat) : (s.refund n).pending = s.pending := rfl

@[simp] theorem State.activateLine_link (s : State) (k : LineIx) : (s.activateLine k).link = s.link := rfl
@[simp] theorem State.activateLine_ec (s : State) (k : LineIx) : (s.activateLine k).ec = s.ec := rfl
@[simp] theorem State.activateLine_port (s : State) (k : LineIx) : (s.activateLine k).port = s.port := rfl
@[simp] theorem State.activateLine_dmc (s : State) (k : LineIx) : (s.activateLine k).dmc = { s.dmc with lines := updateAt s.dmc.lines k (Line.activate (s.dmc.clean.take s.dmc.lines[k].pageCount)), clean := s.dmc.clean.drop s.dmc.lines[k].pageCount } := rfl
@[simp] theorem State.activateLine_taps (s : State) (k : LineIx) : (s.activateLine k).taps = s.taps := rfl
@[simp] theorem State.activateLine_mu (s : State) (k : LineIx) : (s.activateLine k).mu = s.mu := rfl
@[simp] theorem State.activateLine_fe (s : State) (k : LineIx) : (s.activateLine k).fe = s.fe := rfl
@[simp] theorem State.activateLine_sru (s : State) (k : LineIx) : (s.activateLine k).sru = s.sru := rfl
@[simp] theorem State.activateLine_cu (s : State) (k : LineIx) : (s.activateLine k).cu = s.cu := rfl
@[simp] theorem State.activateLine_choices (s : State) (k : LineIx) : (s.activateLine k).choices = s.choices := rfl
@[simp] theorem State.activateLine_pending (s : State) (k : LineIx) : (s.activateLine k).pending = s.pending := rfl

@[simp] theorem State.freeLine_link (s : State) (k : LineIx) : (s.freeLine k).link = s.link := rfl
@[simp] theorem State.freeLine_ec (s : State) (k : LineIx) : (s.freeLine k).ec = { s.ec with budgetUsed := s.ec.budgetUsed - 2 } := rfl
@[simp] theorem State.freeLine_port (s : State) (k : LineIx) : (s.freeLine k).port = s.port := rfl
@[simp] theorem State.freeLine_dmc (s : State) (k : LineIx) : (s.freeLine k).dmc = { s.dmc with lines := updateAt s.dmc.lines k fun _ => Line.freeValue } := rfl
@[simp] theorem State.freeLine_taps (s : State) (k : LineIx) : (s.freeLine k).taps = s.taps := rfl
@[simp] theorem State.freeLine_mu (s : State) (k : LineIx) : (s.freeLine k).mu = s.mu := rfl
@[simp] theorem State.freeLine_fe (s : State) (k : LineIx) : (s.freeLine k).fe = (s.note (Written.leaveLine k)).fe := rfl
@[simp] theorem State.freeLine_sru (s : State) (k : LineIx) : (s.freeLine k).sru = s.sru := rfl
@[simp] theorem State.freeLine_cu (s : State) (k : LineIx) : (s.freeLine k).cu = s.cu := rfl
@[simp] theorem State.freeLine_choices (s : State) (k : LineIx) : (s.freeLine k).choices = s.choices := rfl
@[simp] theorem State.freeLine_pending (s : State) (k : LineIx) : (s.freeLine k).pending = s.pending := rfl

@[simp] theorem State.releaseTapsOf_link (s : State) (k : LineIx) : (s.releaseTapsOf k).link = s.link := rfl
@[simp] theorem State.releaseTapsOf_ec (s : State) (k : LineIx) : (s.releaseTapsOf k).ec = s.ec := rfl
@[simp] theorem State.releaseTapsOf_port (s : State) (k : LineIx) : (s.releaseTapsOf k).port = s.port := rfl
@[simp] theorem State.releaseTapsOf_dmc (s : State) (k : LineIx) : (s.releaseTapsOf k).dmc = s.dmc := rfl
@[simp] theorem State.releaseTapsOf_taps (s : State) (k : LineIx) : (s.releaseTapsOf k).taps = mapIx (fun _ t => if t.references k then t.release else t) s.taps := rfl
@[simp] theorem State.releaseTapsOf_mu (s : State) (k : LineIx) : (s.releaseTapsOf k).mu = s.mu := rfl
@[simp] theorem State.releaseTapsOf_fe (s : State) (k : LineIx) : (s.releaseTapsOf k).fe = s.fe := rfl
@[simp] theorem State.releaseTapsOf_sru (s : State) (k : LineIx) : (s.releaseTapsOf k).sru = s.sru := rfl
@[simp] theorem State.releaseTapsOf_cu (s : State) (k : LineIx) : (s.releaseTapsOf k).cu = s.cu := rfl
@[simp] theorem State.releaseTapsOf_choices (s : State) (k : LineIx) : (s.releaseTapsOf k).choices = s.choices := rfl
@[simp] theorem State.releaseTapsOf_pending (s : State) (k : LineIx) : (s.releaseTapsOf k).pending = s.pending := rfl

@[simp] theorem State.beginClose_link (s : State) (k : LineIx) : (s.beginClose k).link = s.link := rfl
@[simp] theorem State.beginClose_ec (s : State) (k : LineIx) : (s.beginClose k).ec = s.ec := rfl
@[simp] theorem State.beginClose_port (s : State) (k : LineIx) : (s.beginClose k).port = s.port := rfl
@[simp] theorem State.beginClose_dmc (s : State) (k : LineIx) : (s.beginClose k).dmc = { s.dmc with lines := updateAt s.dmc.lines k fun l => { l with state := .closing } } := rfl
@[simp] theorem State.beginClose_taps (s : State) (k : LineIx) : (s.beginClose k).taps = (s.releaseTapsOf k).taps := rfl
@[simp] theorem State.beginClose_mu (s : State) (k : LineIx) : (s.beginClose k).mu = s.mu := rfl
@[simp] theorem State.beginClose_fe (s : State) (k : LineIx) : (s.beginClose k).fe = s.fe := rfl
@[simp] theorem State.beginClose_sru (s : State) (k : LineIx) : (s.beginClose k).sru = s.sru := rfl
@[simp] theorem State.beginClose_cu (s : State) (k : LineIx) : (s.beginClose k).cu = s.cu := rfl
@[simp] theorem State.beginClose_choices (s : State) (k : LineIx) : (s.beginClose k).choices = s.choices := rfl
@[simp] theorem State.beginClose_pending (s : State) (k : LineIx) : (s.beginClose k).pending = s.pending := rfl

@[simp] theorem State.setFade_link (s : State) (m g : Nat) : (s.setFade m g).link = s.link := rfl
@[simp] theorem State.setFade_ec (s : State) (m g : Nat) : (s.setFade m g).ec = { s.ec with fade := m, goal := g } := rfl
@[simp] theorem State.setFade_port (s : State) (m g : Nat) : (s.setFade m g).port = s.port := rfl
@[simp] theorem State.setFade_dmc (s : State) (m g : Nat) : (s.setFade m g).dmc = s.dmc := rfl
@[simp] theorem State.setFade_taps (s : State) (m g : Nat) : (s.setFade m g).taps = s.taps := rfl
@[simp] theorem State.setFade_mu (s : State) (m g : Nat) : (s.setFade m g).mu = s.mu := rfl
@[simp] theorem State.setFade_fe (s : State) (m g : Nat) : (s.setFade m g).fe = (s.note Written.setFade).fe := rfl
@[simp] theorem State.setFade_sru (s : State) (m g : Nat) : (s.setFade m g).sru = s.sru := rfl
@[simp] theorem State.setFade_cu (s : State) (m g : Nat) : (s.setFade m g).cu = s.cu := rfl
@[simp] theorem State.setFade_choices (s : State) (m g : Nat) : (s.setFade m g).choices = s.choices := rfl
@[simp] theorem State.setFade_pending (s : State) (m g : Nat) : (s.setFade m g).pending = s.pending := rfl

@[simp] theorem State.beatOccurs_link (s : State) : (s.beatOccurs).link = s.link := rfl
@[simp] theorem State.beatOccurs_ec (s : State) : (s.beatOccurs).ec = s.ec := rfl
@[simp] theorem State.beatOccurs_port (s : State) : (s.beatOccurs).port = s.port := rfl
@[simp] theorem State.beatOccurs_dmc (s : State) : (s.beatOccurs).dmc = s.dmc := rfl
@[simp] theorem State.beatOccurs_taps (s : State) : (s.beatOccurs).taps = s.taps := rfl
@[simp] theorem State.beatOccurs_mu (s : State) : (s.beatOccurs).mu = { s.mu with mods := mapIx (fun _ m => if m.beatSync then { m with phase := 0 } else m) s.mu.mods } := rfl
@[simp] theorem State.beatOccurs_sru (s : State) : (s.beatOccurs).sru = s.sru := rfl
@[simp] theorem State.beatOccurs_cu (s : State) : (s.beatOccurs).cu = s.cu := rfl
@[simp] theorem State.beatOccurs_choices (s : State) : (s.beatOccurs).choices = s.choices := rfl
@[simp] theorem State.beatOccurs_pending (s : State) : (s.beatOccurs).pending = s.pending := rfl

@[simp] theorem State.markBeat_link (s : State) : (s.markBeat).link = s.link := rfl
@[simp] theorem State.markBeat_ec (s : State) : (s.markBeat).ec = s.ec := rfl
@[simp] theorem State.markBeat_port (s : State) : (s.markBeat).port = s.port := rfl
@[simp] theorem State.markBeat_dmc (s : State) : (s.markBeat).dmc = s.dmc := rfl
@[simp] theorem State.markBeat_taps (s : State) : (s.markBeat).taps = s.taps := rfl
@[simp] theorem State.markBeat_mu (s : State) : (s.markBeat).mu = { s.mu with beatPhase := 0, mods := mapIx (fun _ m => if m.beatSync then { m with phase := 0 } else m) s.mu.mods } := rfl
@[simp] theorem State.markBeat_sru (s : State) : (s.markBeat).sru = s.sru := rfl
@[simp] theorem State.markBeat_cu (s : State) : (s.markBeat).cu = s.cu := rfl
@[simp] theorem State.markBeat_choices (s : State) : (s.markBeat).choices = s.choices := rfl
@[simp] theorem State.markBeat_pending (s : State) : (s.markBeat).pending = s.pending := rfl

@[simp] theorem State.setReceiver_link (s : State) (r : Receiver) : (s.setReceiver r).link = { s.link with receiver := r } := rfl
@[simp] theorem State.setReceiver_ec (s : State) (r : Receiver) : (s.setReceiver r).ec = s.ec := rfl
@[simp] theorem State.setReceiver_port (s : State) (r : Receiver) : (s.setReceiver r).port = s.port := rfl
@[simp] theorem State.setReceiver_dmc (s : State) (r : Receiver) : (s.setReceiver r).dmc = s.dmc := rfl
@[simp] theorem State.setReceiver_taps (s : State) (r : Receiver) : (s.setReceiver r).taps = s.taps := rfl
@[simp] theorem State.setReceiver_mu (s : State) (r : Receiver) : (s.setReceiver r).mu = s.mu := rfl
@[simp] theorem State.setReceiver_fe (s : State) (r : Receiver) : (s.setReceiver r).fe = s.fe := rfl
@[simp] theorem State.setReceiver_sru (s : State) (r : Receiver) : (s.setReceiver r).sru = s.sru := rfl
@[simp] theorem State.setReceiver_cu (s : State) (r : Receiver) : (s.setReceiver r).cu = s.cu := rfl
@[simp] theorem State.setReceiver_choices (s : State) (r : Receiver) : (s.setReceiver r).choices = s.choices := rfl
@[simp] theorem State.setReceiver_pending (s : State) (r : Receiver) : (s.setReceiver r).pending = s.pending := rfl

@[simp] theorem State.writeMapEntry_link (s : State) (i : EntryIx) (e : MapEntry) : (s.writeMapEntry i e).link = s.link := rfl
@[simp] theorem State.writeMapEntry_ec (s : State) (i : EntryIx) (e : MapEntry) : (s.writeMapEntry i e).ec = s.ec := rfl
@[simp] theorem State.writeMapEntry_port (s : State) (i : EntryIx) (e : MapEntry) : (s.writeMapEntry i e).port = { s.port with edited := s.port.edited.set i e } := rfl
@[simp] theorem State.writeMapEntry_dmc (s : State) (i : EntryIx) (e : MapEntry) : (s.writeMapEntry i e).dmc = s.dmc := rfl
@[simp] theorem State.writeMapEntry_taps (s : State) (i : EntryIx) (e : MapEntry) : (s.writeMapEntry i e).taps = s.taps := rfl
@[simp] theorem State.writeMapEntry_mu (s : State) (i : EntryIx) (e : MapEntry) : (s.writeMapEntry i e).mu = s.mu := rfl
@[simp] theorem State.writeMapEntry_fe (s : State) (i : EntryIx) (e : MapEntry) : (s.writeMapEntry i e).fe = s.fe := rfl
@[simp] theorem State.writeMapEntry_sru (s : State) (i : EntryIx) (e : MapEntry) : (s.writeMapEntry i e).sru = s.sru := rfl
@[simp] theorem State.writeMapEntry_cu (s : State) (i : EntryIx) (e : MapEntry) : (s.writeMapEntry i e).cu = s.cu := rfl
@[simp] theorem State.writeMapEntry_choices (s : State) (i : EntryIx) (e : MapEntry) : (s.writeMapEntry i e).choices = s.choices := rfl
@[simp] theorem State.writeMapEntry_pending (s : State) (i : EntryIx) (e : MapEntry) : (s.writeMapEntry i e).pending = s.pending := rfl

@[simp] theorem State.testSchedule_link (s : State) : (s.testSchedule).link = s.link := rfl
@[simp] theorem State.testSchedule_ec (s : State) : (s.testSchedule).ec = s.ec := rfl
@[simp] theorem State.testSchedule_port (s : State) : (s.testSchedule).port = s.port := rfl
@[simp] theorem State.testSchedule_dmc (s : State) : (s.testSchedule).dmc = s.dmc := rfl
@[simp] theorem State.testSchedule_taps (s : State) : (s.testSchedule).taps = s.taps := rfl
@[simp] theorem State.testSchedule_mu (s : State) : (s.testSchedule).mu = s.mu := rfl
@[simp] theorem State.testSchedule_fe (s : State) : (s.testSchedule).fe = s.fe := rfl
@[simp] theorem State.testSchedule_sru (s : State) : (s.testSchedule).sru = { s.sru with queue := s.sru.queue.map fun a => { a with isDue := a.isDue || reached s.ec.counter a.frame } } := rfl
@[simp] theorem State.testSchedule_cu (s : State) : (s.testSchedule).cu = s.cu := rfl
@[simp] theorem State.testSchedule_choices (s : State) : (s.testSchedule).choices = s.choices := rfl
@[simp] theorem State.testSchedule_pending (s : State) : (s.testSchedule).pending = s.pending := rfl

@[simp] theorem State.enterStopped_link (s : State) : (s.enterStopped).link = s.link := rfl
@[simp] theorem State.enterStopped_ec (s : State) : (s.enterStopped).ec = { s.ec with engine := .stopped, clockAbsent := false, clockTimer := false } := rfl
@[simp] theorem State.enterStopped_port (s : State) : (s.enterStopped).port = s.port := rfl
@[simp] theorem State.enterStopped_dmc (s : State) : (s.enterStopped).dmc = s.dmc := rfl
@[simp] theorem State.enterStopped_taps (s : State) : (s.enterStopped).taps = s.taps := rfl
@[simp] theorem State.enterStopped_mu (s : State) : (s.enterStopped).mu = s.mu := rfl
@[simp] theorem State.enterStopped_fe (s : State) : (s.enterStopped).fe = s.fe := rfl
@[simp] theorem State.enterStopped_sru (s : State) : (s.enterStopped).sru = s.sru := rfl
@[simp] theorem State.enterStopped_cu (s : State) : (s.enterStopped).cu = s.cu := rfl
@[simp] theorem State.enterStopped_choices (s : State) : (s.enterStopped).choices = s.choices := rfl
@[simp] theorem State.enterStopped_pending (s : State) : (s.enterStopped).pending = s.pending := rfl

@[simp] theorem State.enterRunning_link (s : State) : (s.enterRunning).link = s.link := rfl
@[simp] theorem State.enterRunning_ec (s : State) : (s.enterRunning).ec = { s.ec with engine := .running, clockTimer := true, fade := 0, goal := 256 } := rfl
@[simp] theorem State.enterRunning_port (s : State) : (s.enterRunning).port = s.port := rfl
@[simp] theorem State.enterRunning_dmc (s : State) : (s.enterRunning).dmc = s.dmc := rfl
@[simp] theorem State.enterRunning_taps (s : State) : (s.enterRunning).taps = s.taps := rfl
@[simp] theorem State.enterRunning_mu (s : State) : (s.enterRunning).mu = s.mu := rfl
@[simp] theorem State.enterRunning_fe (s : State) : (s.enterRunning).fe = (s.note Written.setFade).fe := rfl
@[simp] theorem State.enterRunning_sru (s : State) : (s.enterRunning).sru = s.sru := rfl
@[simp] theorem State.enterRunning_cu (s : State) : (s.enterRunning).cu = s.cu := rfl
@[simp] theorem State.enterRunning_choices (s : State) : (s.enterRunning).choices = s.choices := rfl
@[simp] theorem State.enterRunning_pending (s : State) : (s.enterRunning).pending = s.pending := rfl

@[simp] theorem State.beginWindows_link (s : State) : (s.beginWindows).link = s.link := rfl
@[simp] theorem State.beginWindows_ec (s : State) : (s.beginWindows).ec = s.ec := rfl
@[simp] theorem State.beginWindows_port (s : State) : (s.beginWindows).port = s.port := rfl
@[simp] theorem State.beginWindows_dmc (s : State) : (s.beginWindows).dmc = s.dmc := rfl
@[simp] theorem State.beginWindows_taps (s : State) : (s.beginWindows).taps = s.taps := rfl
@[simp] theorem State.beginWindows_mu (s : State) : (s.beginWindows).mu = s.mu := rfl
@[simp] theorem State.beginWindows_fe (s : State) : (s.beginWindows).fe = (s.note Written.setWindows).fe := rfl
@[simp] theorem State.beginWindows_sru (s : State) : (s.beginWindows).sru = { s.sru with slots := mapIx (fun _ r => { r with windowCount := 0, windowSaturated := false, windowLeft := s.ec.windowLength }) s.sru.slots } := rfl
@[simp] theorem State.beginWindows_cu (s : State) : (s.beginWindows).cu = s.cu := rfl
@[simp] theorem State.beginWindows_choices (s : State) : (s.beginWindows).choices = s.choices := rfl
@[simp] theorem State.beginWindows_pending (s : State) : (s.beginWindows).pending = s.pending := rfl

@[simp] theorem State.applyModSet_link (s : State) (i : ModIx) (p : ModParts) : (s.applyModSet i p).link = s.link := rfl
@[simp] theorem State.applyModSet_ec (s : State) (i : ModIx) (p : ModParts) : (s.applyModSet i p).ec = s.ec := rfl
@[simp] theorem State.applyModSet_port (s : State) (i : ModIx) (p : ModParts) : (s.applyModSet i p).port = s.port := rfl
@[simp] theorem State.applyModSet_dmc (s : State) (i : ModIx) (p : ModParts) : (s.applyModSet i p).dmc = s.dmc := rfl
@[simp] theorem State.applyModSet_taps (s : State) (i : ModIx) (p : ModParts) : (s.applyModSet i p).taps = s.taps := rfl
@[simp] theorem State.applyModSet_mu (s : State) (i : ModIx) (p : ModParts) : (s.applyModSet i p).mu = { s.mu with mods := updateAt s.mu.mods i (Modulator.write s.mu.tempo p) } := rfl
@[simp] theorem State.applyModSet_fe (s : State) (i : ModIx) (p : ModParts) : (s.applyModSet i p).fe = s.fe := rfl
@[simp] theorem State.applyModSet_sru (s : State) (i : ModIx) (p : ModParts) : (s.applyModSet i p).sru = s.sru := rfl
@[simp] theorem State.applyModSet_cu (s : State) (i : ModIx) (p : ModParts) : (s.applyModSet i p).cu = s.cu := rfl
@[simp] theorem State.applyModSet_choices (s : State) (i : ModIx) (p : ModParts) : (s.applyModSet i p).choices = s.choices := rfl
@[simp] theorem State.applyModSet_pending (s : State) (i : ModIx) (p : ModParts) : (s.applyModSet i p).pending = s.pending := rfl

@[simp] theorem State.armTracker_link (s : State) : (s.armTracker).link = s.link := rfl
@[simp] theorem State.armTracker_ec (s : State) : (s.armTracker).ec = s.ec := rfl
@[simp] theorem State.armTracker_port (s : State) : (s.armTracker).port = s.port := rfl
@[simp] theorem State.armTracker_dmc (s : State) : (s.armTracker).dmc = s.dmc := rfl
@[simp] theorem State.armTracker_taps (s : State) : (s.armTracker).taps = s.taps := rfl
@[simp] theorem State.armTracker_sru (s : State) : (s.armTracker).sru = s.sru := rfl
@[simp] theorem State.armTracker_cu (s : State) : (s.armTracker).cu = s.cu := rfl
@[simp] theorem State.armTracker_choices (s : State) : (s.armTracker).choices = s.choices := rfl
@[simp] theorem State.armTracker_pending (s : State) : (s.armTracker).pending = s.pending := rfl

@[simp] theorem State.advanceSlots_link (s : State) (c : Computation) : (s.advanceSlots c).link = s.link := rfl
@[simp] theorem State.advanceSlots_ec (s : State) (c : Computation) : (s.advanceSlots c).ec = s.ec := rfl
@[simp] theorem State.advanceSlots_port (s : State) (c : Computation) : (s.advanceSlots c).port = s.port := rfl
@[simp] theorem State.advanceSlots_dmc (s : State) (c : Computation) : (s.advanceSlots c).dmc = s.dmc := rfl
@[simp] theorem State.advanceSlots_taps (s : State) (c : Computation) : (s.advanceSlots c).taps = s.taps := rfl
@[simp] theorem State.advanceSlots_mu (s : State) (c : Computation) : (s.advanceSlots c).mu = s.mu := rfl
@[simp] theorem State.advanceSlots_fe (s : State) (c : Computation) : (s.advanceSlots c).fe = s.fe := rfl
@[simp] theorem State.advanceSlots_cu (s : State) (c : Computation) : (s.advanceSlots c).cu = s.cu := rfl
@[simp] theorem State.advanceSlots_choices (s : State) (c : Computation) : (s.advanceSlots c).choices = s.choices := rfl
@[simp] theorem State.advanceSlots_pending (s : State) (c : Computation) : (s.advanceSlots c).pending = s.pending := rfl

@[simp] theorem State.advanceMods_link (s : State) (c : Computation) : (s.advanceMods c).link = s.link := rfl
@[simp] theorem State.advanceMods_ec (s : State) (c : Computation) : (s.advanceMods c).ec = s.ec := rfl
@[simp] theorem State.advanceMods_port (s : State) (c : Computation) : (s.advanceMods c).port = s.port := rfl
@[simp] theorem State.advanceMods_dmc (s : State) (c : Computation) : (s.advanceMods c).dmc = s.dmc := rfl
@[simp] theorem State.advanceMods_taps (s : State) (c : Computation) : (s.advanceMods c).taps = s.taps := rfl
@[simp] theorem State.advanceMods_fe (s : State) (c : Computation) : (s.advanceMods c).fe = s.fe := rfl
@[simp] theorem State.advanceMods_sru (s : State) (c : Computation) : (s.advanceMods c).sru = s.sru := rfl
@[simp] theorem State.advanceMods_cu (s : State) (c : Computation) : (s.advanceMods c).cu = s.cu := rfl
@[simp] theorem State.advanceMods_choices (s : State) (c : Computation) : (s.advanceMods c).choices = s.choices := rfl
@[simp] theorem State.advanceMods_pending (s : State) (c : Computation) : (s.advanceMods c).pending = s.pending := rfl

@[simp] theorem State.accepted_link (s : State) : (s.accepted).link = { s.link with rx := s.link.rx.tail } := rfl
@[simp] theorem State.accepted_ec (s : State) : (s.accepted).ec = s.ec := rfl
@[simp] theorem State.accepted_port (s : State) : (s.accepted).port = s.port := rfl
@[simp] theorem State.accepted_dmc (s : State) : (s.accepted).dmc = s.dmc := rfl
@[simp] theorem State.accepted_taps (s : State) : (s.accepted).taps = s.taps := rfl
@[simp] theorem State.accepted_mu (s : State) : (s.accepted).mu = s.mu := rfl
@[simp] theorem State.accepted_fe (s : State) : (s.accepted).fe = s.fe := rfl
@[simp] theorem State.accepted_sru (s : State) : (s.accepted).sru = s.sru := rfl
@[simp] theorem State.accepted_cu (s : State) : (s.accepted).cu = s.cu := rfl
@[simp] theorem State.accepted_choices (s : State) : (s.accepted).choices = s.choices := rfl
@[simp] theorem State.accepted_pending (s : State) : (s.accepted).pending = s.pending := rfl

@[simp] theorem State.replied_link (s : State) (k : Kind) (r : Request) (st : Status) (p : List Byte) : (s.replied k r st p).link = { s.link with tx := s.link.tx ++ [.reply k.code r.tag st p] } := rfl
@[simp] theorem State.replied_ec (s : State) (k : Kind) (r : Request) (st : Status) (p : List Byte) : (s.replied k r st p).ec = s.ec := rfl
@[simp] theorem State.replied_port (s : State) (k : Kind) (r : Request) (st : Status) (p : List Byte) : (s.replied k r st p).port = s.port := rfl
@[simp] theorem State.replied_dmc (s : State) (k : Kind) (r : Request) (st : Status) (p : List Byte) : (s.replied k r st p).dmc = s.dmc := rfl
@[simp] theorem State.replied_taps (s : State) (k : Kind) (r : Request) (st : Status) (p : List Byte) : (s.replied k r st p).taps = s.taps := rfl
@[simp] theorem State.replied_mu (s : State) (k : Kind) (r : Request) (st : Status) (p : List Byte) : (s.replied k r st p).mu = s.mu := rfl
@[simp] theorem State.replied_fe (s : State) (k : Kind) (r : Request) (st : Status) (p : List Byte) : (s.replied k r st p).fe = s.fe := rfl
@[simp] theorem State.replied_sru (s : State) (k : Kind) (r : Request) (st : Status) (p : List Byte) : (s.replied k r st p).sru = s.sru := rfl
@[simp] theorem State.replied_cu (s : State) (k : Kind) (r : Request) (st : Status) (p : List Byte) : (s.replied k r st p).cu = s.cu := rfl
@[simp] theorem State.replied_choices (s : State) (k : Kind) (r : Request) (st : Status) (p : List Byte) : (s.replied k r st p).choices = s.choices := rfl
@[simp] theorem State.replied_pending (s : State) (k : Kind) (r : Request) (st : Status) (p : List Byte) : (s.replied k r st p).pending = s.pending := rfl

end Sys2Proof.Machine
end

