-- ==== Sys2Proof/Laws/Frames.lean ====
section
/-! SUPPORT. The shared operations: every field that an operation does not write keeps its value, one lemma for each operation. -/

namespace Sys2Proof.Machine

/-- A fold keeps what each of its steps keeps. -/
theorem foldl_keeps {α β σ : Type} (p : σ → β) (f : σ → α → σ) (h : ∀ s a, p (f s a) = p s) (l : List α) (s : σ) :
    p (l.foldl f s) = p s := by
  induction l generalizing s with
  | nil => rfl
  | cons a l ih => rw [List.foldl_cons, ih, h]

/-- The alert test writes the transmit queue and the conditions alone (R180). -/
@[simp] theorem State.alertTest_keeps (s : State) :
      (s.alertTest).ec = s.ec ∧
      (s.alertTest).port = s.port ∧
      (s.alertTest).dmc = s.dmc ∧
      (s.alertTest).taps = s.taps ∧
      (s.alertTest).mu = s.mu ∧
      (s.alertTest).fe = s.fe ∧
      (s.alertTest).sru = s.sru ∧
      (s.alertTest).choices = s.choices ∧
      (s.alertTest).pending = s.pending := by
  unfold State.alertTest; (repeat' split) <;> simp

/-- Raising a condition with a given stamp writes the transmit queue and the conditions alone (R179). -/
@[simp] theorem State.raiseAt_keeps (s : State) (n : Word32) (d : Detail) :
      (s.raiseAt n d).ec = s.ec ∧
      (s.raiseAt n d).port = s.port ∧
      (s.raiseAt n d).dmc = s.dmc ∧
      (s.raiseAt n d).taps = s.taps ∧
      (s.raiseAt n d).mu = s.mu ∧
      (s.raiseAt n d).fe = s.fe ∧
      (s.raiseAt n d).sru = s.sru ∧
      (s.raiseAt n d).choices = s.choices ∧
      (s.raiseAt n d).pending = s.pending := by
  simp [State.raiseAt]

/-- Raising a condition writes the transmit queue and the conditions alone (R179). -/
@[simp] theorem State.raise_keeps (s : State) (d : Detail) :
      (s.raise d).ec = s.ec ∧
      (s.raise d).port = s.port ∧
      (s.raise d).dmc = s.dmc ∧
      (s.raise d).taps = s.taps ∧
      (s.raise d).mu = s.mu ∧
      (s.raise d).fe = s.fe ∧
      (s.raise d).sru = s.sru ∧
      (s.raise d).choices = s.choices ∧
      (s.raise d).pending = s.pending := by
  simp [State.raise]

/-- Counting a delay clamp writes the slot table alone (R74). -/
@[simp] theorem State.countDelayClamp_keeps (s : State) (i : SlotIx) (b : Bool) :
      (s.countDelayClamp i b).link = s.link ∧
      (s.countDelayClamp i b).ec = s.ec ∧
      (s.countDelayClamp i b).port = s.port ∧
      (s.countDelayClamp i b).dmc = s.dmc ∧
      (s.countDelayClamp i b).taps = s.taps ∧
      (s.countDelayClamp i b).mu = s.mu ∧
      (s.countDelayClamp i b).fe = s.fe ∧
      (s.countDelayClamp i b).cu = s.cu ∧
      (s.countDelayClamp i b).choices = s.choices ∧
      (s.countDelayClamp i b).pending = s.pending := by
  unfold State.countDelayClamp; (repeat' split) <;> simp

/-- A clear that starts moves one page and writes no sample (R27). -/
@[simp] theorem State.startScrub_keeps (s : State) :
      (s.startScrub).link = s.link ∧
      (s.startScrub).ec = s.ec ∧
      (s.startScrub).port = s.port ∧
      (s.startScrub).taps = s.taps ∧
      (s.startScrub).mu = s.mu ∧
      (s.startScrub).fe = s.fe ∧
      (s.startScrub).sru = s.sru ∧
      (s.startScrub).cu = s.cu ∧
      (s.startScrub).choices = s.choices ∧
      (s.startScrub).pending = s.pending ∧
      (s.startScrub).dmc.memory = s.dmc.memory := by
  unfold State.startScrub; (repeat' split) <;> simp

/-- Wait-list service writes the pool, the lines and what raising LINE_READY writes (R48). -/
@[simp] theorem serveUpTo_keeps (s : State) (n : Nat) :
      (serveUpTo n s).ec = s.ec ∧
      (serveUpTo n s).port = s.port ∧
      (serveUpTo n s).taps = s.taps ∧
      (serveUpTo n s).mu = s.mu ∧
      (serveUpTo n s).fe = s.fe ∧
      (serveUpTo n s).sru = s.sru ∧
      (serveUpTo n s).choices = s.choices ∧
      (serveUpTo n s).pending = s.pending ∧
      (serveUpTo n s).dmc.memory = s.dmc.memory := by
  induction n generalizing s with
  | zero => simp [serveUpTo]
  | succ n ih => unfold serveUpTo; (repeat' split) <;> simp [ih]

/-- Wait-list service (R48). -/
@[simp] theorem State.serveWaitList_keeps (s : State) :
      (s.serveWaitList).ec = s.ec ∧
      (s.serveWaitList).port = s.port ∧
      (s.serveWaitList).taps = s.taps ∧
      (s.serveWaitList).mu = s.mu ∧
      (s.serveWaitList).fe = s.fe ∧
      (s.serveWaitList).sru = s.sru ∧
      (s.serveWaitList).choices = s.choices ∧
      (s.serveWaitList).pending = s.pending ∧
      (s.serveWaitList).dmc.memory = s.dmc.memory := by
  simp [State.serveWaitList]

/-- A close that completes writes the pool, its line, the ledger and the marks (R60). -/
@[simp] theorem State.completeClose_keeps (s : State) (k : LineIx) :
      (s.completeClose k).link = s.link ∧
      (s.completeClose k).port = s.port ∧
      (s.completeClose k).taps = s.taps ∧
      (s.completeClose k).mu = s.mu ∧
      (s.completeClose k).sru = s.sru ∧
      (s.completeClose k).cu = s.cu ∧
      (s.completeClose k).choices = s.choices ∧
      (s.completeClose k).pending = s.pending ∧
      (s.completeClose k).dmc.memory = s.dmc.memory ∧
      (s.completeClose k).ec.engine = s.ec.engine ∧
      (s.completeClose k).ec.rate = s.ec.rate ∧
      (s.completeClose k).ec.counter = s.ec.counter ∧
      (s.completeClose k).ec.span = s.ec.span ∧
      (s.completeClose k).ec.fade = s.ec.fade ∧
      (s.completeClose k).ec.tally = s.ec.tally := by
  unfold State.completeClose; (repeat' split) <;> simp

/-- The closes that are due (R60). -/
@[simp] theorem State.completeCloses_keeps (s : State) :
      (s.completeCloses).link = s.link ∧
      (s.completeCloses).port = s.port ∧
      (s.completeCloses).taps = s.taps ∧
      (s.completeCloses).mu = s.mu ∧
      (s.completeCloses).sru = s.sru ∧
      (s.completeCloses).cu = s.cu ∧
      (s.completeCloses).choices = s.choices ∧
      (s.completeCloses).pending = s.pending ∧
      (s.completeCloses).dmc.memory = s.dmc.memory ∧
      (s.completeCloses).ec.engine = s.ec.engine ∧
      (s.completeCloses).ec.rate = s.ec.rate ∧
      (s.completeCloses).ec.counter = s.ec.counter ∧
      (s.completeCloses).ec.span = s.ec.span ∧
      (s.completeCloses).ec.fade = s.ec.fade ∧
      (s.completeCloses).ec.tally = s.ec.tally := by
  have h (l : List LineIx) (s : State) := foldl_keeps (fun s : State =>
    (s.link, s.port, s.taps, s.mu, s.sru, s.cu, s.choices, s.pending, s.dmc.memory, s.ec.engine, s.ec.rate, s.ec.counter, s.ec.span, s.ec.fade, s.ec.tally))
    (fun s k => s.completeClose k : State → LineIx → State) (fun s x => by simp) l s
  simp only [Prod.mk.injEq] at h
  simp [State.completeCloses, h]

/-- A tap that becomes UNUSED writes the taps, the reference counts, the ledger and the marks (R85). -/
@[simp] theorem State.removeTap_keeps (s : State) (t : TapIx) :
      (s.removeTap t).link = s.link ∧
      (s.removeTap t).port = s.port ∧
      (s.removeTap t).mu = s.mu ∧
      (s.removeTap t).sru = s.sru ∧
      (s.removeTap t).cu = s.cu ∧
      (s.removeTap t).choices = s.choices ∧
      (s.removeTap t).pending = s.pending ∧
      (s.removeTap t).dmc.memory = s.dmc.memory ∧
      (s.removeTap t).ec.engine = s.ec.engine ∧
      (s.removeTap t).ec.rate = s.ec.rate ∧
      (s.removeTap t).ec.counter = s.ec.counter ∧
      (s.removeTap t).ec.span = s.ec.span ∧
      (s.removeTap t).ec.fade = s.ec.fade ∧
      (s.removeTap t).ec.tally = s.ec.tally := by
  have h (l : List LineIx) (s : State) := foldl_keeps (fun s : State =>
    (s.link, s.port, s.mu, s.sru, s.cu, s.choices, s.pending, s.dmc.memory, s.ec.engine, s.ec.rate, s.ec.counter, s.ec.span, s.ec.fade, s.ec.tally))
    (fun s k => s.mapLine k fun l => { l with refs := l.refs - 1 } : State → LineIx → State) (fun s x => by simp) l s
  simp only [Prod.mk.injEq] at h
  simp [State.removeTap, h]

/-- One tap of a closed WAITING line (R86). -/
@[simp] theorem State.removeTapOf_keeps (s : State) (k : LineIx) (t : TapIx) :
      (s.removeTapOf k t).link = s.link ∧
      (s.removeTapOf k t).port = s.port ∧
      (s.removeTapOf k t).mu = s.mu ∧
      (s.removeTapOf k t).sru = s.sru ∧
      (s.removeTapOf k t).cu = s.cu ∧
      (s.removeTapOf k t).choices = s.choices ∧
      (s.removeTapOf k t).pending = s.pending ∧
      (s.removeTapOf k t).dmc.memory = s.dmc.memory ∧
      (s.removeTapOf k t).ec.engine = s.ec.engine ∧
      (s.removeTapOf k t).ec.rate = s.ec.rate ∧
      (s.removeTapOf k t).ec.counter = s.ec.counter ∧
      (s.removeTapOf k t).ec.span = s.ec.span ∧
      (s.removeTapOf k t).ec.fade = s.ec.fade ∧
      (s.removeTapOf k t).ec.tally = s.ec.tally := by
  unfold State.removeTapOf; (repeat' split) <;> simp

/-- The taps of a closed WAITING line (R86). -/
@[simp] theorem State.removeTapsOf_keeps (s : State) (k : LineIx) :
      (s.removeTapsOf k).link = s.link ∧
      (s.removeTapsOf k).port = s.port ∧
      (s.removeTapsOf k).mu = s.mu ∧
      (s.removeTapsOf k).sru = s.sru ∧
      (s.removeTapsOf k).cu = s.cu ∧
      (s.removeTapsOf k).choices = s.choices ∧
      (s.removeTapsOf k).pending = s.pending ∧
      (s.removeTapsOf k).dmc.memory = s.dmc.memory ∧
      (s.removeTapsOf k).ec.engine = s.ec.engine ∧
      (s.removeTapsOf k).ec.rate = s.ec.rate ∧
      (s.removeTapsOf k).ec.counter = s.ec.counter ∧
      (s.removeTapsOf k).ec.span = s.ec.span ∧
      (s.removeTapsOf k).ec.fade = s.ec.fade ∧
      (s.removeTapsOf k).ec.tally = s.ec.tally := by
  have h (l : List TapIx) (s : State) := foldl_keeps (fun s : State =>
    (s.link, s.port, s.mu, s.sru, s.cu, s.choices, s.pending, s.dmc.memory, s.ec.engine, s.ec.rate, s.ec.counter, s.ec.span, s.ec.fade, s.ec.tally))
    (State.removeTapOf k : State → TapIx → State) (fun s x => by simp) l s
  simp only [Prod.mk.injEq] at h
  simp [State.removeTapsOf, h]

/-- A WAITING line leaves (R58). -/
@[simp] theorem State.dropWaiting_keeps (s : State) (k : LineIx) :
      (s.dropWaiting k).link = s.link ∧
      (s.dropWaiting k).port = s.port ∧
      (s.dropWaiting k).mu = s.mu ∧
      (s.dropWaiting k).sru = s.sru ∧
      (s.dropWaiting k).cu = s.cu ∧
      (s.dropWaiting k).choices = s.choices ∧
      (s.dropWaiting k).pending = s.pending ∧
      (s.dropWaiting k).dmc.memory = s.dmc.memory ∧
      (s.dropWaiting k).ec.engine = s.ec.engine ∧
      (s.dropWaiting k).ec.rate = s.ec.rate ∧
      (s.dropWaiting k).ec.counter = s.ec.counter ∧
      (s.dropWaiting k).ec.span = s.ec.span ∧
      (s.dropWaiting k).ec.fade = s.ec.fade ∧
      (s.dropWaiting k).ec.tally = s.ec.tally := by
  simp [State.dropWaiting]

/-- The close of a WAITING line (R58). -/
@[simp] theorem State.closeWaiting_keeps (s : State) (k : LineIx) :
      (s.closeWaiting k).port = s.port ∧
      (s.closeWaiting k).mu = s.mu ∧
      (s.closeWaiting k).sru = s.sru ∧
      (s.closeWaiting k).choices = s.choices ∧
      (s.closeWaiting k).pending = s.pending ∧
      (s.closeWaiting k).dmc.memory = s.dmc.memory ∧
      (s.closeWaiting k).ec.engine = s.ec.engine ∧
      (s.closeWaiting k).ec.rate = s.ec.rate ∧
      (s.closeWaiting k).ec.counter = s.ec.counter ∧
      (s.closeWaiting k).ec.span = s.ec.span ∧
      (s.closeWaiting k).ec.fade = s.ec.fade ∧
      (s.closeWaiting k).ec.tally = s.ec.tally := by
  simp [State.closeWaiting]

/-- The close of an ACTIVE line (R59). -/
@[simp] theorem State.closeActive_keeps (s : State) (k : LineIx) :
      (s.closeActive k).link = s.link ∧
      (s.closeActive k).port = s.port ∧
      (s.closeActive k).mu = s.mu ∧
      (s.closeActive k).sru = s.sru ∧
      (s.closeActive k).cu = s.cu ∧
      (s.closeActive k).choices = s.choices ∧
      (s.closeActive k).pending = s.pending ∧
      (s.closeActive k).dmc.memory = s.dmc.memory ∧
      (s.closeActive k).ec.engine = s.ec.engine ∧
      (s.closeActive k).ec.rate = s.ec.rate ∧
      (s.closeActive k).ec.counter = s.ec.counter ∧
      (s.closeActive k).ec.span = s.ec.span ∧
      (s.closeActive k).ec.fade = s.ec.fade ∧
      (s.closeActive k).ec.tally = s.ec.tally := by
  simp [State.closeActive]

/-- A group close (R61). -/
@[simp] theorem State.groupClose_keeps (s : State) (p : Line → Bool) :
      (s.groupClose p).port = s.port ∧
      (s.groupClose p).mu = s.mu ∧
      (s.groupClose p).sru = s.sru ∧
      (s.groupClose p).choices = s.choices ∧
      (s.groupClose p).pending = s.pending ∧
      (s.groupClose p).dmc.memory = s.dmc.memory ∧
      (s.groupClose p).ec.engine = s.ec.engine ∧
      (s.groupClose p).ec.rate = s.ec.rate ∧
      (s.groupClose p).ec.counter = s.ec.counter ∧
      (s.groupClose p).ec.span = s.ec.span ∧
      (s.groupClose p).ec.fade = s.ec.fade ∧
      (s.groupClose p).ec.tally = s.ec.tally := by
  have h (l : List LineIx) (s : State) := foldl_keeps (fun s : State =>
    (s.port, s.mu, s.sru, s.choices, s.pending, s.dmc.memory, s.ec.engine, s.ec.rate, s.ec.counter, s.ec.span, s.ec.fade, s.ec.tally))
    (fun s k => s.dropWaiting k : State → LineIx → State) (fun s x => by simp) l s
  simp only [Prod.mk.injEq] at h
  have h' (l : List LineIx) (s : State) := foldl_keeps (fun s : State =>
    (s.port, s.mu, s.sru, s.choices, s.pending, s.dmc.memory, s.ec.engine, s.ec.rate, s.ec.counter, s.ec.span, s.ec.fade, s.ec.tally))
    (fun s k => s.beginClose k : State → LineIx → State) (fun s x => by simp) l s
  simp only [Prod.mk.injEq] at h'
  simp [State.groupClose, h, h']

/-- A new target writes the tap, the retune counters and the marks (R109). -/
@[simp] theorem State.handTarget_keeps (s : State) (t : TapIx) (n : Nat) :
      (s.handTarget t n).link = s.link ∧
      (s.handTarget t n).ec = s.ec ∧
      (s.handTarget t n).port = s.port ∧
      (s.handTarget t n).dmc = s.dmc ∧
      (s.handTarget t n).mu = s.mu ∧
      (s.handTarget t n).cu = s.cu ∧
      (s.handTarget t n).choices = s.choices ∧
      (s.handTarget t n).pending = s.pending := by
  unfold State.handTarget; dsimp only; split <;> simp

/-- Forming a target (R74). -/
@[simp] theorem State.formTarget_keeps (s : State) (t : TapIx) :
      (s.formTarget t).link = s.link ∧
      (s.formTarget t).ec = s.ec ∧
      (s.formTarget t).port = s.port ∧
      (s.formTarget t).dmc = s.dmc ∧
      (s.formTarget t).mu = s.mu ∧
      (s.formTarget t).cu = s.cu ∧
      (s.formTarget t).choices = s.choices ∧
      (s.formTarget t).pending = s.pending := by
  simp [State.formTarget]

/-- A tap that follows the tempo (R74). -/
@[simp] theorem State.followTempo_keeps (s : State) (t : TapIx) :
      (s.followTempo t).link = s.link ∧
      (s.followTempo t).ec = s.ec ∧
      (s.followTempo t).port = s.port ∧
      (s.followTempo t).dmc = s.dmc ∧
      (s.followTempo t).mu = s.mu ∧
      (s.followTempo t).cu = s.cu ∧
      (s.followTempo t).choices = s.choices ∧
      (s.followTempo t).pending = s.pending := by
  unfold State.followTempo; (repeat' split) <;> simp

/-- A change of tempo (R135). -/
@[simp] theorem State.setTempo_keeps (s : State) (b : Nat) :
      (s.setTempo b).link = s.link ∧
      (s.setTempo b).ec = s.ec ∧
      (s.setTempo b).port = s.port ∧
      (s.setTempo b).dmc = s.dmc ∧
      (s.setTempo b).cu = s.cu ∧
      (s.setTempo b).choices = s.choices ∧
      (s.setTempo b).pending = s.pending := by
  have h (l : List TapIx) (s : State) := foldl_keeps (fun s : State =>
    (s.link, s.ec, s.port, s.dmc, s.cu, s.choices, s.pending))
    (State.followTempo : State → TapIx → State) (fun s x => by simp) l s
  simp only [Prod.mk.injEq] at h
  unfold State.setTempo; dsimp only; (repeat' split) <;> simp [h]

/-- A halt cause writes the engine, the conditions and the transmit queue (R167). -/
@[simp] theorem State.haltCause_keeps (s : State) (n : Word32) (w : HaltReason) :
      (s.haltCause n w).port = s.port ∧
      (s.haltCause n w).dmc = s.dmc ∧
      (s.haltCause n w).taps = s.taps ∧
      (s.haltCause n w).mu = s.mu ∧
      (s.haltCause n w).fe = s.fe ∧
      (s.haltCause n w).sru = s.sru ∧
      (s.haltCause n w).choices = s.choices ∧
      (s.haltCause n w).pending = s.pending ∧
      (s.haltCause n w).ec.rate = s.ec.rate ∧
      (s.haltCause n w).ec.counter = s.ec.counter ∧
      (s.haltCause n w).ec.budgetUsed = s.ec.budgetUsed ∧
      (s.haltCause n w).ec.span = s.ec.span := by
  unfold State.haltCause; (repeat' split) <;> simp

/-- An OUTMAP_FILL writes the edited map alone (R13). -/
@[simp] theorem State.fillMap_keeps (s : State) (i j : EntryIx) (b : Bool) (e : MapEntry) :
      (s.fillMap i j b e).link = s.link ∧
      (s.fillMap i j b e).ec = s.ec ∧
      (s.fillMap i j b e).dmc = s.dmc ∧
      (s.fillMap i j b e).taps = s.taps ∧
      (s.fillMap i j b e).mu = s.mu ∧
      (s.fillMap i j b e).fe = s.fe ∧
      (s.fillMap i j b e).sru = s.sru ∧
      (s.fillMap i j b e).cu = s.cu ∧
      (s.fillMap i j b e).choices = s.choices ∧
      (s.fillMap i j b e).pending = s.pending := by
  have h (l : List (EntryIx × Nat)) (s : State) := foldl_keeps (fun s : State =>
    (s.link, s.ec, s.dmc, s.taps, s.mu, s.fe, s.sru, s.cu, s.choices, s.pending))
    (fun s x => s.writeMapEntry x.1 (steppedEntry s.ec.timeSlots b e x.2) : State → (EntryIx × Nat) → State) (fun s x => by simp) l s
  simp only [Prod.mk.injEq] at h
  simp [State.fillMap, h]

/-- Examining a word writes the checker and what CHECK_LOCK writes (R17). -/
@[simp] theorem State.checkWord_keeps (s : State) (n : Nat) (w : Word24) (b : Bool) :
      (s.checkWord n w b).ec = s.ec ∧
      (s.checkWord n w b).dmc = s.dmc ∧
      (s.checkWord n w b).taps = s.taps ∧
      (s.checkWord n w b).mu = s.mu ∧
      (s.checkWord n w b).fe = s.fe ∧
      (s.checkWord n w b).sru = s.sru ∧
      (s.checkWord n w b).choices = s.choices ∧
      (s.checkWord n w b).pending = s.pending := by
  unfold State.checkWord; dsimp only; (repeat' split) <;> simp

/-- A created tap writes the taps, the reference counts and the ledger (R73). -/
@[simp] theorem State.enterTap_keeps (s : State) (t : TapIx) (x : Tap) :
      (s.enterTap t x).link = s.link ∧
      (s.enterTap t x).port = s.port ∧
      (s.enterTap t x).mu = s.mu ∧
      (s.enterTap t x).fe = s.fe ∧
      (s.enterTap t x).sru = s.sru ∧
      (s.enterTap t x).cu = s.cu ∧
      (s.enterTap t x).choices = s.choices ∧
      (s.enterTap t x).pending = s.pending ∧
      (s.enterTap t x).dmc.memory = s.dmc.memory ∧
      (s.enterTap t x).ec.engine = s.ec.engine ∧
      (s.enterTap t x).ec.rate = s.ec.rate ∧
      (s.enterTap t x).ec.counter = s.ec.counter ∧
      (s.enterTap t x).ec.span = s.ec.span ∧
      (s.enterTap t x).ec.fade = s.ec.fade ∧
      (s.enterTap t x).ec.tally = s.ec.tally := by
  have h (l : List LineIx) (s : State) := foldl_keeps (fun s : State =>
    (s.link, s.port, s.mu, s.fe, s.sru, s.cu, s.choices, s.pending, s.dmc.memory, s.ec.engine, s.ec.rate, s.ec.counter, s.ec.span, s.ec.fade, s.ec.tally))
    (fun s k => s.mapLine k fun l => { l with refs := l.refs + 1 } : State → LineIx → State) (fun s x => by simp) l s
  simp only [Prod.mk.injEq] at h
  simp [State.enterTap, h]

/-- A TAP_SET writes the tap and what retuning writes (R78). -/
@[simp] theorem State.applyTapSet_keeps (s : State) (t : TapIx) (p : TapParts) :
      (s.applyTapSet t p).link = s.link ∧
      (s.applyTapSet t p).ec = s.ec ∧
      (s.applyTapSet t p).port = s.port ∧
      (s.applyTapSet t p).dmc = s.dmc ∧
      (s.applyTapSet t p).mu = s.mu ∧
      (s.applyTapSet t p).cu = s.cu ∧
      (s.applyTapSet t p).choices = s.choices ∧
      (s.applyTapSet t p).pending = s.pending := by
  unfold State.applyTapSet; (repeat' split) <;> simp

/-- One tap of a TAP_FILL (R81). -/
@[simp] theorem State.fillTap_keeps (s : State) (f : FillField) (t : TapIx) :
      (s.fillTap f t).link = s.link ∧
      (s.fillTap f t).ec = s.ec ∧
      (s.fillTap f t).port = s.port ∧
      (s.fillTap f t).dmc = s.dmc ∧
      (s.fillTap f t).mu = s.mu ∧
      (s.fillTap f t).cu = s.cu ∧
      (s.fillTap f t).choices = s.choices ∧
      (s.fillTap f t).pending = s.pending := by
  cases f <;> simp [State.fillTap]

/-- A TAP_FILL (R81). -/
@[simp] theorem State.applyTapFill_keeps (s : State) (i : SlotIx) (a b : TapIx) (f : FillField) :
      (s.applyTapFill i a b f).link = s.link ∧
      (s.applyTapFill i a b f).ec = s.ec ∧
      (s.applyTapFill i a b f).port = s.port ∧
      (s.applyTapFill i a b f).dmc = s.dmc ∧
      (s.applyTapFill i a b f).mu = s.mu ∧
      (s.applyTapFill i a b f).cu = s.cu ∧
      (s.applyTapFill i a b f).choices = s.choices ∧
      (s.applyTapFill i a b f).pending = s.pending := by
  have h (l : List TapIx) (s : State) := foldl_keeps (fun s : State =>
    (s.link, s.ec, s.port, s.dmc, s.mu, s.cu, s.choices, s.pending))
    (fun s t => s.fillTap f t : State → TapIx → State) (fun s x => by simp) l s
  simp only [Prod.mk.injEq] at h
  simp [State.applyTapFill, h]

/-- An accepted mark (R139). -/
@[simp] theorem State.acceptMark_keeps (s : State) (i : Nat) :
      (s.acceptMark i).link = s.link ∧
      (s.acceptMark i).ec = s.ec ∧
      (s.acceptMark i).port = s.port ∧
      (s.acceptMark i).dmc = s.dmc ∧
      (s.acceptMark i).cu = s.cu ∧
      (s.acceptMark i).choices = s.choices ∧
      (s.acceptMark i).pending = s.pending := by
  simp [State.acceptMark]

/-- An applied entry (R158). -/
@[simp] theorem Entry.apply_keeps (s : State) (e : Entry) :
      (e.apply s).link = s.link ∧
      (e.apply s).ec = s.ec ∧
      (e.apply s).cu = s.cu ∧
      (e.apply s).choices = s.choices ∧
      (e.apply s).pending = s.pending ∧
      (e.apply s).dmc.memory = s.dmc.memory := by
  cases e <;> simp [Entry.apply]

/-- An entry that is handled (R158). -/
@[simp] theorem handleEntry_keeps (s : State) (x : Tallied) (e : Entry) :
      ((handleEntry (s, x) e).1).link = s.link ∧
      ((handleEntry (s, x) e).1).ec = s.ec ∧
      ((handleEntry (s, x) e).1).cu = s.cu ∧
      ((handleEntry (s, x) e).1).choices = s.choices ∧
      ((handleEntry (s, x) e).1).pending = s.pending ∧
      ((handleEntry (s, x) e).1).dmc.memory = s.dmc.memory := by
  unfold handleEntry; (repeat' split) <;> cases e <;> simp [Entry.slot]

/-- A list that is applied (R158). -/
@[simp] theorem applyList_keeps (s : State) (l : List Entry) :
      ((applyList l s).1).ec = s.ec ∧
      ((applyList l s).1).choices = s.choices ∧
      ((applyList l s).1).pending = s.pending ∧
      ((applyList l s).1).dmc.memory = s.dmc.memory := by
  have h (l : List Entry) (x : State × Tallied) := foldl_keeps (fun x : State × Tallied =>
    (x.1.ec, x.1.choices, x.1.pending, x.1.dmc.memory))
    handleEntry (fun x e => by cases x; simp) l x
  simp only [Prod.mk.injEq] at h
  unfold applyList; dsimp only; split <;> simp [h]

/-- A due action (R157). -/
@[simp] theorem State.applyAction_keeps (s : State) (a : Action) :
      (s.applyAction a).ec = s.ec ∧
      (s.applyAction a).choices = s.choices ∧
      (s.applyAction a).pending = s.pending ∧
      (s.applyAction a).dmc.memory = s.dmc.memory := by
  unfold State.applyAction; dsimp only; split <;> simp

/-- The due work of a boundary (R158). -/
@[simp] theorem State.applyDueWork_keeps (s : State) :
      (s.applyDueWork).ec = s.ec ∧
      (s.applyDueWork).choices = s.choices ∧
      (s.applyDueWork).pending = s.pending ∧
      (s.applyDueWork).dmc.memory = s.dmc.memory := by
  have h (l : List Action) (s : State) := foldl_keeps (fun s : State =>
    (s.ec, s.choices, s.pending, s.dmc.memory))
    (fun s a => s.applyAction a : State → Action → State) (fun s x => by simp) l s
  simp only [Prod.mk.injEq] at h
  simp [State.applyDueWork, h]

/-- A read fault that is reported (R37). -/
@[simp] theorem State.reportFault_keeps (s : State) (n : Word32) (f : LineIx × Nat) :
      (s.reportFault n f).port = s.port ∧
      (s.reportFault n f).dmc = s.dmc ∧
      (s.reportFault n f).taps = s.taps ∧
      (s.reportFault n f).mu = s.mu ∧
      (s.reportFault n f).fe = s.fe ∧
      (s.reportFault n f).sru = s.sru ∧
      (s.reportFault n f).choices = s.choices ∧
      (s.reportFault n f).pending = s.pending ∧
      (s.reportFault n f).ec.rate = s.ec.rate ∧
      (s.reportFault n f).ec.counter = s.ec.counter ∧
      (s.reportFault n f).ec.budgetUsed = s.ec.budgetUsed := by
  unfold State.reportFault; dsimp only; (repeat' split) <;> simp

/-- A bus clip that is reported (R102). -/
@[simp] theorem State.clipBus_keeps (s : State) (c : Computation) (cs : List (Dest × Int)) (b : BusIx) :
      (s.clipBus c cs b).ec = s.ec ∧
      (s.clipBus c cs b).port = s.port ∧
      (s.clipBus c cs b).dmc = s.dmc ∧
      (s.clipBus c cs b).taps = s.taps ∧
      (s.clipBus c cs b).mu = s.mu ∧
      (s.clipBus c cs b).fe = s.fe ∧
      (s.clipBus c cs b).sru = s.sru ∧
      (s.clipBus c cs b).choices = s.choices ∧
      (s.clipBus c cs b).pending = s.pending := by
  unfold State.clipBus; (repeat' split) <;> simp

/-- The stores of one line (R101). -/
@[simp] theorem State.storeLine_keeps (s : State) (c : Computation) (cs : List (Dest × Int)) (k : LineIx) :
      (s.storeLine c cs k).link = s.link ∧
      (s.storeLine c cs k).ec = s.ec ∧
      (s.storeLine c cs k).port = s.port ∧
      (s.storeLine c cs k).taps = s.taps ∧
      (s.storeLine c cs k).mu = s.mu ∧
      (s.storeLine c cs k).fe = s.fe ∧
      (s.storeLine c cs k).sru = s.sru ∧
      (s.storeLine c cs k).cu = s.cu ∧
      (s.storeLine c cs k).choices = s.choices ∧
      (s.storeLine c cs k).pending = s.pending := by
  unfold State.storeLine; dsimp only; split <;> simp

/-- The counts of modulation clamps (R94). -/
@[simp] theorem State.countClamps_keeps (s : State) (c : Computation) (o : Vector TapOut 256) (t : TapIx) :
      (s.countClamps c o t).link = s.link ∧
      (s.countClamps c o t).ec = s.ec ∧
      (s.countClamps c o t).port = s.port ∧
      (s.countClamps c o t).dmc = s.dmc ∧
      (s.countClamps c o t).taps = s.taps ∧
      (s.countClamps c o t).mu = s.mu ∧
      (s.countClamps c o t).fe = s.fe ∧
      (s.countClamps c o t).cu = s.cu ∧
      (s.countClamps c o t).choices = s.choices ∧
      (s.countClamps c o t).pending = s.pending := by
  unfold State.countClamps; (repeat' split) <;> simp

/-- The advances of one tap (R103). -/
@[simp] theorem State.advanceTap_keeps (s : State) (c : Computation) (t : TapIx) :
      (s.advanceTap c t).link = s.link ∧
      (s.advanceTap c t).ec = s.ec ∧
      (s.advanceTap c t).port = s.port ∧
      (s.advanceTap c t).dmc = s.dmc ∧
      (s.advanceTap c t).mu = s.mu ∧
      (s.advanceTap c t).fe = s.fe ∧
      (s.advanceTap c t).cu = s.cu ∧
      (s.advanceTap c t).choices = s.choices ∧
      (s.advanceTap c t).pending = s.pending := by
  unfold State.advanceTap; dsimp only; (repeat' split) <;> simp

/-- A release that completes (R85). -/
@[simp] theorem State.completeRelease_keeps (s : State) (c : Computation) (t : TapIx) :
      (s.completeRelease c t).link = s.link ∧
      (s.completeRelease c t).port = s.port ∧
      (s.completeRelease c t).mu = s.mu ∧
      (s.completeRelease c t).sru = s.sru ∧
      (s.completeRelease c t).cu = s.cu ∧
      (s.completeRelease c t).choices = s.choices ∧
      (s.completeRelease c t).pending = s.pending ∧
      (s.completeRelease c t).dmc.memory = s.dmc.memory ∧
      (s.completeRelease c t).ec.engine = s.ec.engine ∧
      (s.completeRelease c t).ec.rate = s.ec.rate ∧
      (s.completeRelease c t).ec.counter = s.ec.counter ∧
      (s.completeRelease c t).ec.span = s.ec.span ∧
      (s.completeRelease c t).ec.fade = s.ec.fade ∧
      (s.completeRelease c t).ec.tally = s.ec.tally := by
  unfold State.completeRelease; (repeat' split) <;> simp

/-- A saturation that is reported (R147). -/
@[simp] theorem State.reportSaturation_keeps (s : State) (c : Computation) (i : SlotIx) :
      (s.reportSaturation c i).link = s.link ∧
      (s.reportSaturation c i).ec = s.ec ∧
      (s.reportSaturation c i).port = s.port ∧
      (s.reportSaturation c i).dmc = s.dmc ∧
      (s.reportSaturation c i).taps = s.taps ∧
      (s.reportSaturation c i).mu = s.mu ∧
      (s.reportSaturation c i).fe = s.fe ∧
      (s.reportSaturation c i).choices = s.choices ∧
      (s.reportSaturation c i).pending = s.pending := by
  unfold State.reportSaturation; dsimp only; (repeat' split) <;> simp

/-- The saturation of one line (R100). -/
@[simp] theorem State.saturateLine_keeps (s : State) (c : Computation) (cs : List (Dest × Int)) (k : LineIx) :
      (s.saturateLine c cs k).link = s.link ∧
      (s.saturateLine c cs k).ec = s.ec ∧
      (s.saturateLine c cs k).port = s.port ∧
      (s.saturateLine c cs k).dmc = s.dmc ∧
      (s.saturateLine c cs k).taps = s.taps ∧
      (s.saturateLine c cs k).mu = s.mu ∧
      (s.saturateLine c cs k).fe = s.fe ∧
      (s.saturateLine c cs k).choices = s.choices ∧
      (s.saturateLine c cs k).pending = s.pending := by
  unfold State.saturateLine; (repeat' split) <;> simp

/-- The beat phase (R137). -/
@[simp] theorem State.advanceBeat_keeps (s : State) (c : Computation) :
      (s.advanceBeat c).link = s.link ∧
      (s.advanceBeat c).ec = s.ec ∧
      (s.advanceBeat c).port = s.port ∧
      (s.advanceBeat c).dmc = s.dmc ∧
      (s.advanceBeat c).taps = s.taps ∧
      (s.advanceBeat c).sru = s.sru ∧
      (s.advanceBeat c).cu = s.cu ∧
      (s.advanceBeat c).choices = s.choices ∧
      (s.advanceBeat c).pending = s.pending := by
  unfold State.advanceBeat; (repeat' split) <;> simp

/-- The master fade (R166). -/
@[simp] theorem State.advanceFade_keeps (s : State) (c : Computation) :
      (s.advanceFade c).link = s.link ∧
      (s.advanceFade c).port = s.port ∧
      (s.advanceFade c).dmc = s.dmc ∧
      (s.advanceFade c).taps = s.taps ∧
      (s.advanceFade c).mu = s.mu ∧
      (s.advanceFade c).fe = s.fe ∧
      (s.advanceFade c).sru = s.sru ∧
      (s.advanceFade c).choices = s.choices ∧
      (s.advanceFade c).pending = s.pending ∧
      (s.advanceFade c).ec.rate = s.ec.rate ∧
      (s.advanceFade c).ec.counter = s.ec.counter ∧
      (s.advanceFade c).ec.budgetUsed = s.ec.budgetUsed ∧
      (s.advanceFade c).ec.span = s.ec.span := by
  unfold State.advanceFade; dsimp only; (repeat' split) <;> simp

/-- The offer to the probe (R184). -/
@[simp] theorem State.offerProbe_keeps (s : State) (c : Computation) (o : Vector TapOut 256) (cs : List (Dest × Int)) :
      (s.offerProbe c o cs).link = s.link ∧
      (s.offerProbe c o cs).ec = s.ec ∧
      (s.offerProbe c o cs).port = s.port ∧
      (s.offerProbe c o cs).dmc = s.dmc ∧
      (s.offerProbe c o cs).taps = s.taps ∧
      (s.offerProbe c o cs).mu = s.mu ∧
      (s.offerProbe c o cs).fe = s.fe ∧
      (s.offerProbe c o cs).sru = s.sru ∧
      (s.offerProbe c o cs).choices = s.choices ∧
      (s.offerProbe c o cs).pending = s.pending := by
  unfold State.offerProbe; (repeat' split) <;> (try dsimp only) <;> (try split) <;> simp

/-- The bus values (R102). -/
@[simp] theorem State.deliverBuses_keeps (s : State) (c : Computation) (cs : List (Dest × Int)) :
      (s.deliverBuses c cs).ec = s.ec ∧
      (s.deliverBuses c cs).dmc = s.dmc ∧
      (s.deliverBuses c cs).taps = s.taps ∧
      (s.deliverBuses c cs).mu = s.mu ∧
      (s.deliverBuses c cs).sru = s.sru ∧
      (s.deliverBuses c cs).choices = s.choices ∧
      (s.deliverBuses c cs).pending = s.pending := by
  have h (l : List BusIx) (s : State) := foldl_keeps (fun s : State =>
    (s.ec, s.dmc, s.taps, s.mu, s.sru, s.choices, s.pending))
    (State.clipBus c cs : State → BusIx → State) (fun s x => by simp) l s
  simp only [Prod.mk.injEq] at h
  simp [State.deliverBuses, h]

/-- The completion of a computation (R104). -/
@[simp] theorem State.finish_keeps (s : State) (c : Computation) :
      (s.finish c).choices = s.choices ∧
      (s.finish c).pending = s.pending := by
  have h0 (l : List TapIx) (s : State) := foldl_keeps (fun s : State =>
    (s.choices, s.pending))
    (State.completeRelease c : State → TapIx → State) (fun s x => by simp) l s
  simp only [Prod.mk.injEq] at h0
  have h1 (l : List TapIx) (s : State) := foldl_keeps (fun s : State =>
    (s.choices, s.pending))
    (State.advanceTap c : State → TapIx → State) (fun s x => by simp) l s
  simp only [Prod.mk.injEq] at h1
  have h2 (cs : List (Dest × Int)) (l : List LineIx) (s : State) := foldl_keeps (fun s : State =>
    (s.choices, s.pending))
    (State.saturateLine c cs) (fun s x => by simp) l s
  simp only [Prod.mk.injEq] at h2
  have h3 (o : Vector TapOut 256) (l : List TapIx) (s : State) := foldl_keeps (fun s : State =>
    (s.choices, s.pending))
    (State.countClamps c o) (fun s x => by simp) l s
  simp only [Prod.mk.injEq] at h3
  have h4 (cs : List (Dest × Int)) (l : List LineIx) (s : State) := foldl_keeps (fun s : State =>
    (s.choices, s.pending))
    (State.storeLine c cs) (fun s x => by simp) l s
  simp only [Prod.mk.injEq] at h4
  have h5 (l : List (LineIx × Nat)) (s : State) := foldl_keeps (fun s : State =>
    (s.choices, s.pending))
    (State.reportFault c.stamp) (fun s x => by simp) l s
  simp only [Prod.mk.injEq] at h5
  simp [State.finish, h0, h1, h2, h3, h4, h5]

/-- A completion, with the damage that came upon the memory (R36, R104). -/
@[simp] theorem State.completeComputation_keeps (s : State) (l : List Strike) :
      (s.completeComputation l).choices = s.choices ∧
      (s.completeComputation l).pending = s.pending := by
  unfold State.completeComputation; dsimp only; split <;> simp

/-- The return of the frame clock (R170). -/
@[simp] theorem State.clockBack_keeps (s : State) :
      (s.clockBack).port = s.port ∧
      (s.clockBack).dmc = s.dmc ∧
      (s.clockBack).taps = s.taps ∧
      (s.clockBack).mu = s.mu ∧
      (s.clockBack).sru = s.sru ∧
      (s.clockBack).choices = s.choices ∧
      (s.clockBack).pending = s.pending ∧
      (s.clockBack).ec.rate = s.ec.rate ∧
      (s.clockBack).ec.counter = s.ec.counter ∧
      (s.clockBack).ec.budgetUsed = s.ec.budgetUsed ∧
      (s.clockBack).ec.engine = s.ec.engine ∧
      (s.clockBack).ec.span = s.ec.span := by
  unfold State.clockBack; (repeat' split) <;> simp

/-- The beginning of a computation (R90, R91). -/
@[simp] theorem State.beginComputation_keeps (s : State) :
      (s.beginComputation).ec = s.ec ∧
      (s.beginComputation).choices = s.choices ∧
      (s.beginComputation).pending = s.pending ∧
      (s.beginComputation).dmc.memory = s.dmc.memory := by
  simp [State.beginComputation]

/-- A rejected frame (R173). -/
@[simp] theorem State.rejectFrame_keeps (s : State) (w : RejectReason) :
      (s.rejectFrame w).ec = s.ec ∧
      (s.rejectFrame w).port = s.port ∧
      (s.rejectFrame w).dmc = s.dmc ∧
      (s.rejectFrame w).taps = s.taps ∧
      (s.rejectFrame w).mu = s.mu ∧
      (s.rejectFrame w).fe = s.fe ∧
      (s.rejectFrame w).sru = s.sru ∧
      (s.rejectFrame w).choices = s.choices ∧
      (s.rejectFrame w).pending = s.pending := by
  unfold State.rejectFrame; dsimp only; split <;> simp

/-- A complete frame offered to the queue (R174). -/
@[simp] theorem State.enqueue_keeps (s : State) (f : Frame) :
      (s.enqueue f).ec = s.ec ∧
      (s.enqueue f).port = s.port ∧
      (s.enqueue f).dmc = s.dmc ∧
      (s.enqueue f).taps = s.taps ∧
      (s.enqueue f).mu = s.mu ∧
      (s.enqueue f).fe = s.fe ∧
      (s.enqueue f).sru = s.sru ∧
      (s.enqueue f).choices = s.choices ∧
      (s.enqueue f).pending = s.pending := by
  unfold State.enqueue; (repeat' split) <;> simp

/-- A gathered byte (R172). -/
@[simp] theorem State.gather_keeps (s : State) (bs : List Byte) (d : Bool) (b : Byte) :
      (s.gather bs d b).ec = s.ec ∧
      (s.gather bs d b).port = s.port ∧
      (s.gather bs d b).dmc = s.dmc ∧
      (s.gather bs d b).taps = s.taps ∧
      (s.gather bs d b).mu = s.mu ∧
      (s.gather bs d b).fe = s.fe ∧
      (s.gather bs d b).sru = s.sru ∧
      (s.gather bs d b).choices = s.choices ∧
      (s.gather bs d b).pending = s.pending := by
  unfold State.gather; dsimp only; (repeat' split) <;> simp

/-- A frame that closes (R173). -/
@[simp] theorem State.closeFrame_keeps (s : State) (bs : List Byte) (e d : Bool) :
      (s.closeFrame bs e d).ec = s.ec ∧
      (s.closeFrame bs e d).port = s.port ∧
      (s.closeFrame bs e d).dmc = s.dmc ∧
      (s.closeFrame bs e d).taps = s.taps ∧
      (s.closeFrame bs e d).mu = s.mu ∧
      (s.closeFrame bs e d).fe = s.fe ∧
      (s.closeFrame bs e d).sru = s.sru ∧
      (s.closeFrame bs e d).choices = s.choices ∧
      (s.closeFrame bs e d).pending = s.pending := by
  unfold State.closeFrame; dsimp only; (repeat' split) <;> simp

/-- A character on the receive input (R172). -/
@[simp] theorem State.receiveCharacter_keeps (s : State) (b : Byte) (l : Bool) :
      (s.receiveCharacter b l).ec = s.ec ∧
      (s.receiveCharacter b l).port = s.port ∧
      (s.receiveCharacter b l).dmc = s.dmc ∧
      (s.receiveCharacter b l).taps = s.taps ∧
      (s.receiveCharacter b l).mu = s.mu ∧
      (s.receiveCharacter b l).fe = s.fe ∧
      (s.receiveCharacter b l).sru = s.sru ∧
      (s.receiveCharacter b l).choices = s.choices ∧
      (s.receiveCharacter b l).pending = s.pending := by
  unfold State.receiveCharacter; dsimp only; (repeat' split) <;> simp

/-- Memory found clean (R34). -/
@[simp] theorem State.memoryClean_keeps (s : State) :
      (s.memoryClean).port = s.port ∧
      (s.memoryClean).dmc = s.dmc ∧
      (s.memoryClean).taps = s.taps ∧
      (s.memoryClean).mu = s.mu ∧
      (s.memoryClean).fe = s.fe ∧
      (s.memoryClean).sru = s.sru ∧
      (s.memoryClean).choices = s.choices ∧
      (s.memoryClean).pending = s.pending := by
  unfold State.memoryClean; (repeat' split) <;> simp

end Sys2Proof.Machine
end

