-- ==== Sys2Proof/Laws/Memory.lean ====
section
/-! SUPPORT. Delay memory: a read after a write, and that every operation keeps the canonical form (R35, R36). -/

namespace Sys2Proof.Machine

/-! ## Reads -/

@[simp] theorem Memory.read_nil (a : Nat) : Memory.read [] a = Stored.blank := rfl

theorem Memory.read_cons (b : Nat) (y : Stored) (m : Memory) (a : Nat) :
    Memory.read ((b, y) :: m) a = if b = a then y else Memory.read m a := rfl

/-- An address below every listed one reads blank. -/
theorem Memory.read_below {m : Memory} {a : Nat} (h : ∀ q ∈ m, a < q.1) : Memory.read m a = Stored.blank := by
  induction m with
  | nil => rfl
  | cons q m ih =>
    rw [Memory.read_cons, if_neg (by have := h q (by simp); omega)]
    exact ih fun p hp => h p (by simp [hp])

/-- A write leaves every other address alone (R35). -/
theorem Memory.read_write_other (m : Memory) (a b : Nat) (x : Stored) (h : b ≠ a) : (m.write a x).read b = m.read b := by
  induction m with
  | nil =>
    unfold Memory.write; split
    · rfl
    · rw [Memory.read_cons, if_neg (by omega)]
  | cons q m ih =>
    unfold Memory.write
    split
    · split
      · rfl
      · rw [Memory.read_cons, if_neg (by omega)]
    · split
      · split
        · rw [Memory.read_cons, if_neg (by omega)]
        · rw [Memory.read_cons, Memory.read_cons, if_neg (by omega), if_neg (by omega)]
      · rw [Memory.read_cons, Memory.read_cons, ih]

/-- A read after a write gives what was written (R35). -/
theorem Memory.read_write_same (m : Memory) (a : Nat) (x : Stored) (h : m.Pairwise fun p q => p.1 < q.1) :
    (m.write a x).read a = x := by
  induction m with
  | nil =>
    unfold Memory.write; split
    · rename_i hx; rw [hx]; rfl
    · rw [Memory.read_cons, if_pos rfl]
  | cons q m ih =>
    rw [List.pairwise_cons] at h
    unfold Memory.write
    split
    · rename_i hlt
      split
      · rename_i hx
        rw [hx]; exact Memory.read_below fun p hp => by
          rcases List.mem_cons.mp hp with rfl | hp
          · exact hlt
          · exact hlt.trans (h.1 p hp)
      · rw [Memory.read_cons, if_pos rfl]
    · split
      · rename_i heq
        split
        · rename_i hx; rw [hx]; exact Memory.read_below fun p hp => heq ▸ h.1 p hp
        · rw [Memory.read_cons, if_pos rfl]
      · rw [Memory.read_cons, if_neg (by omega)]; exact ih h.2

/-- A filter keeps what an address that it keeps reads as. -/
theorem Memory.read_filter (m : Memory) (keep : Nat → Bool) (a : Nat) (h : keep a = true) :
    Memory.read (m.filter fun q => keep q.1) a = m.read a := by
  induction m with
  | nil => rfl
  | cons q m ih =>
    obtain ⟨b, y⟩ := q
    rw [List.filter_cons]
    split
    · rw [Memory.read_cons, Memory.read_cons, ih]
    · rename_i hb
      rw [Memory.read_cons, if_neg (by rintro rfl; exact hb h), ih]

/-- A filter makes an address that it drops read blank. -/
theorem Memory.read_filter_dropped (m : Memory) (keep : Nat → Bool) (a : Nat) (h : keep a = false) :
    Memory.read (m.filter fun q => keep q.1) a = Stored.blank := by
  induction m with
  | nil => rfl
  | cons q m ih =>
    obtain ⟨b, y⟩ := q
    rw [List.filter_cons]
    split
    · rename_i hb
      rw [Memory.read_cons, if_neg (by rintro rfl; simp_all), ih]
    · exact ih

/-- After a page clear every sample of the page reads zero with valid check bits, and no other sample changes (R28). -/
theorem Memory.read_clearPage (m : Memory) (p : Page) (a : Nat) :
    (m.clearPage p).read a = if a / 4096 = p.val then Stored.blank else m.read a := by
  unfold Memory.clearPage
  split
  · exact Memory.read_filter_dropped m (fun b => decide (b / 4096 ≠ p.val)) a (by simpa)
  · exact Memory.read_filter m (fun b => decide (b / 4096 ≠ p.val)) a (by simpa)

/-! ## The canonical form -/

theorem Memory.wf_nil : Memory.wf [] := ⟨List.Pairwise.nil, nofun⟩

theorem Memory.wf_filter {m : Memory} (keep : Nat × Stored → Bool) (h : m.wf) : Memory.wf (m.filter keep) :=
  ⟨h.1.filter keep, fun p hp => h.2 p (List.mem_filter.mp hp).1⟩

/-- An entry of a memory that a write leaves is the entry written or was there before. -/
theorem Memory.mem_write {m : Memory} {a : Nat} {x : Stored} {p : Nat × Stored} (h : p ∈ m.write a x) :
    (p = (a, x) ∧ x ≠ Stored.blank) ∨ p ∈ m := by
  induction m with
  | nil =>
    unfold Memory.write at h; split at h
    · exact absurd h (by simp)
    · exact .inl ⟨List.mem_singleton.mp h, by assumption⟩
  | cons q m ih =>
    unfold Memory.write at h
    (repeat' split at h) <;> simp only [List.mem_cons] at h ⊢
    · exact .inr h
    · rcases h with rfl | h
      · exact .inl ⟨rfl, by assumption⟩
      · exact .inr h
    · exact .inr (.inr h)
    · rcases h with rfl | h
      · exact .inl ⟨rfl, by assumption⟩
      · exact .inr (.inr h)
    · rcases h with rfl | h
      · exact .inr (.inl rfl)
      · exact (ih h).imp_right .inr

/-- A write inside delay memory keeps the canonical form. -/
theorem Memory.wf_write {m : Memory} {a : Nat} {x : Stored} (h : m.wf) (ha : a < memorySize) : (m.write a x).wf := by
  refine ⟨?_, fun p hp => ?_⟩
  · obtain ⟨h, -⟩ := h
    induction m with
    | nil => unfold Memory.write; split <;> simp
    | cons q m ih =>
      have hq := List.pairwise_cons.mp h
      unfold Memory.write
      split
      · rename_i hlt
        split
        · exact h
        · refine List.pairwise_cons.mpr ⟨fun p hp => ?_, h⟩
          rcases List.mem_cons.mp hp with rfl | hp
          · exact hlt
          · exact hlt.trans (hq.1 p hp)
      · split
        · rename_i heq
          split
          · exact hq.2
          · exact List.pairwise_cons.mpr ⟨fun p hp => heq ▸ hq.1 p hp, hq.2⟩
        · refine List.pairwise_cons.mpr ⟨fun p hp => ?_, ih hq.2⟩
          rcases Memory.mem_write hp with ⟨rfl, -⟩ | hp
          · show q.1 < a; omega
          · exact hq.1 p hp
  · rcases Memory.mem_write hp with ⟨rfl, hx⟩ | hp
    · exact ⟨ha, hx⟩
    · exact h.2 p hp

theorem Memory.wf_store {m : Memory} {a : Nat} {v : Int} (h : m.wf) (ha : a < memorySize) : (m.store a v).wf :=
  Memory.wf_write h ha

theorem Memory.wf_clearPage {m : Memory} (p : Page) (h : m.wf) : (m.clearPage p).wf := Memory.wf_filter _ h

theorem Memory.wf_strike {m : Memory} (k : Strike) (h : m.wf) : (m.strike k).wf := by
  unfold Memory.strike; split
  · rename_i hk; exact Memory.wf_write h hk.1
  · exact h

theorem Memory.wf_strikes {m : Memory} (l : List Strike) (h : m.wf) : (l.foldl Memory.strike m).wf := by
  induction l generalizing m with
  | nil => exact h
  | cons k l ih => exact ih (Memory.wf_strike k h)

theorem State.abandonedMemory_wf (s : State) (h : s.dmc.memory.wf) : s.abandonedMemory.wf := by
  unfold State.abandonedMemory; split
  · exact h
  · exact Memory.wf_filter _ h

/-- A position that the page list maps lies inside delay memory (R49). -/
theorem Line.address_lt {l : Line} {p a : Nat} (h : l.address p = some a) : a < memorySize := by
  unfold Line.address at h
  rw [Option.map_eq_some_iff] at h
  obtain ⟨g, -, rfl⟩ := h
  have := g.isLt
  unfold memorySize; omega

/-- The stores of one line keep the canonical form (R101). -/
theorem State.storeLine_wf (c : Computation) (cs : List (Dest × Int)) (s : State) (k : LineIx) (h : s.dmc.memory.wf) :
    (s.storeLine c cs k).dmc.memory.wf := by
  unfold State.storeLine; dsimp only; split
  · exact h
  · cases ha : (c.view.lines[k]).address (c.view.lines[k]).w with
    | none => simpa [ha] using h
    | some a => simpa [ha] using Memory.wf_store h (Line.address_lt ha)

/-- Delay memory is canonical after a reset. -/
theorem State.reset_memory_wf : State.reset.dmc.memory.wf := Memory.wf_nil

end Sys2Proof.Machine
end

