-- ==== Sys2Proof/Laws/PerInstr.lean ====
section
/-! SUPPORT. The family FrameRoundTrip, one lemma for each command: the frame that carries a request command is decoded to that
command (R174, R175). An event has no frame. -/

namespace Sys2Proof

/-- Every kind of the catalogue is found by its code. -/
theorem Machine.Kind.ofCode_code : ∀ k : Machine.Kind, Machine.Kind.ofCode k.code = some k
  | .status => rfl
  | .init => rfl
  | .start => rfl
  | .stop => rfl
  | .halt => rfl
  | .resume => rfl
  | .reset => rfl
  | .timeGet => rfl
  | .portDrive => rfl
  | .portBypass => rfl
  | .outmapSet => rfl
  | .outmapFill => rfl
  | .outmapGet => rfl
  | .checkSet => rfl
  | .checkRead => rfl
  | .checkClear => rfl
  | .lineOpen => rfl
  | .lineSet => rfl
  | .lineClose => rfl
  | .lineReleaseTag => rfl
  | .lineReleaseAll => rfl
  | .lineGet => rfl
  | .poolGet => rfl
  | .tapCreate => rfl
  | .tapSet => rfl
  | .tapFill => rfl
  | .tapFree => rfl
  | .tapGet => rfl
  | .modSet => rfl
  | .modSync => rfl
  | .modGet => rfl
  | .tempoSet => rfl
  | .beat => rfl
  | .tempoGet => rfl
  | .slotSet => rfl
  | .slotClear => rfl
  | .slotGet => rfl
  | .commit => rfl
  | .discard => rfl
  | .schedCancel => rfl
  | .schedGet => rfl
  | .condEnable => rfl
  | .condGet => rfl
  | .alertRelease => rfl
  | .probeSet => rfl
  | .probeGet => rfl
  | .countersGet => rfl

/-- A frame of a known kind is decoded by its kind. -/
theorem decodeFrame_known (k : Machine.Kind) (r : Request) :
    decodeFrame { kind := k.code, tag := r.tag, disposition := r.disposition, payload := r.payload } = commandOf k r := by
  unfold decodeFrame; rw [Machine.Kind.ofCode_code]

/-- A frame of an unknown kind is decoded to the request of an unknown kind. -/
theorem decodeFrame_unknown (b : Byte) (r : Request) (h : Machine.Kind.ofCode b = none) :
    decodeFrame { kind := b, tag := r.tag, disposition := r.disposition, payload := r.payload } = .unknownKindRequest b r := by
  unfold decodeFrame; rw [h]

end Sys2Proof

namespace Sys2Proof.Laws.FrameRoundTrip

/-- A well-formed command that a frame carries is what that frame decodes to. -/
def Statement (i : Instr) : Prop := i.wellFormed = true → ∀ f, encodeFrame i = some f → decodeFrame f = i

/-- A command of a known kind is decoded from its frame. -/
theorem of_known (k : Machine.Kind) (r : Request) (i : Instr) (hk : kindAndRequest i = some (k.code, r))
    (hc : i.wellFormed = true → commandOf k r = i) : Statement i := by
  intro hw f hf
  unfold encodeFrame at hf
  rw [hk] at hf
  rw [← Option.some.inj hf]
  exact (decodeFrame_known k r).trans (hc hw)

/-- An event has no frame. -/
theorem of_event (i : Instr) (hk : kindAndRequest i = none) : Statement i := by
  intro _ f hf
  unfold encodeFrame at hf
  rw [hk] at hf
  exact absurd hf (by nofun)

theorem status (r : Request) : Statement (.status r) :=
  of_known .status r _ rfl fun _ => rfl

theorem init (r : Request) : Statement (.init r) :=
  of_known .init r _ rfl fun _ => rfl

theorem start (r : Request) : Statement (.start r) :=
  of_known .start r _ rfl fun _ => rfl

theorem stop (r : Request) : Statement (.stop r) :=
  of_known .stop r _ rfl fun _ => rfl

theorem halt (r : Request) : Statement (.halt r) :=
  of_known .halt r _ rfl fun _ => rfl

theorem resume (r : Request) : Statement (.resume r) :=
  of_known .resume r _ rfl fun _ => rfl

theorem reset (r : Request) : Statement (.reset r) :=
  of_known .reset r _ rfl fun _ => rfl

theorem resetTake : Statement .resetTake :=
  of_event _ rfl

theorem powerOnReset : Statement .powerOnReset :=
  of_event _ rfl

theorem timeGet (r : Request) : Statement (.timeGet r) :=
  of_known .timeGet r _ rfl fun _ => rfl

theorem portDrive (r : Request) : Statement (.portDrive r) :=
  of_known .portDrive r _ rfl fun _ => rfl

theorem portBypass (r : Request) : Statement (.portBypass r) :=
  of_known .portBypass r _ rfl fun _ => rfl

theorem outmapSet (r : Request) : Statement (.outmapSet r) :=
  of_known .outmapSet r _ rfl fun _ => rfl

theorem outmapFill (r : Request) : Statement (.outmapFill r) :=
  of_known .outmapFill r _ rfl fun _ => rfl

theorem outmapGet (r : Request) : Statement (.outmapGet r) :=
  of_known .outmapGet r _ rfl fun _ => rfl

theorem checkSet (r : Request) : Statement (.checkSet r) :=
  of_known .checkSet r _ rfl fun _ => rfl

theorem checkRead (r : Request) : Statement (.checkRead r) :=
  of_known .checkRead r _ rfl fun _ => rfl

theorem checkClear (r : Request) : Statement (.checkClear r) :=
  of_known .checkClear r _ rfl fun _ => rfl

theorem lineOpen (r : Request) : Statement (.lineOpen r) :=
  of_known .lineOpen r _ rfl fun _ => rfl

theorem lineSet (r : Request) : Statement (.lineSet r) :=
  of_known .lineSet r _ rfl fun _ => rfl

theorem lineClose (r : Request) : Statement (.lineClose r) :=
  of_known .lineClose r _ rfl fun _ => rfl

theorem lineReleaseTag (r : Request) : Statement (.lineReleaseTag r) :=
  of_known .lineReleaseTag r _ rfl fun _ => rfl

theorem lineReleaseAll (r : Request) : Statement (.lineReleaseAll r) :=
  of_known .lineReleaseAll r _ rfl fun _ => rfl

theorem lineGet (r : Request) : Statement (.lineGet r) :=
  of_known .lineGet r _ rfl fun _ => rfl

theorem poolGet (r : Request) : Statement (.poolGet r) :=
  of_known .poolGet r _ rfl fun _ => rfl

theorem tapCreate (r : Request) : Statement (.tapCreate r) :=
  of_known .tapCreate r _ rfl fun _ => rfl

theorem tapSet (r : Request) : Statement (.tapSet r) :=
  of_known .tapSet r _ rfl fun _ => rfl

theorem tapFill (r : Request) : Statement (.tapFill r) :=
  of_known .tapFill r _ rfl fun _ => rfl

theorem tapFree (r : Request) : Statement (.tapFree r) :=
  of_known .tapFree r _ rfl fun _ => rfl

theorem tapGet (r : Request) : Statement (.tapGet r) :=
  of_known .tapGet r _ rfl fun _ => rfl

theorem modSet (r : Request) : Statement (.modSet r) :=
  of_known .modSet r _ rfl fun _ => rfl

theorem modSync (r : Request) : Statement (.modSync r) :=
  of_known .modSync r _ rfl fun _ => rfl

theorem modGet (r : Request) : Statement (.modGet r) :=
  of_known .modGet r _ rfl fun _ => rfl

theorem tempoSet (r : Request) : Statement (.tempoSet r) :=
  of_known .tempoSet r _ rfl fun _ => rfl

theorem beat (r : Request) : Statement (.beat r) :=
  of_known .beat r _ rfl fun _ => rfl

theorem tempoGet (r : Request) : Statement (.tempoGet r) :=
  of_known .tempoGet r _ rfl fun _ => rfl

theorem slotSet (r : Request) : Statement (.slotSet r) :=
  of_known .slotSet r _ rfl fun _ => rfl

theorem slotClear (r : Request) : Statement (.slotClear r) :=
  of_known .slotClear r _ rfl fun _ => rfl

theorem slotGet (r : Request) : Statement (.slotGet r) :=
  of_known .slotGet r _ rfl fun _ => rfl

theorem commitNow (r : Request) : Statement (.commitNow r) :=
  of_known .commit r _ rfl fun hw =>
  if_neg (of_decide_eq_false ((Bool.not_eq_true' _).mp (Bool.and_elim_right hw)))

theorem commitAt (r : Request) : Statement (.commitAt r) :=
  of_known .commit r _ rfl fun hw => if_pos (of_decide_eq_true (Bool.and_elim_right hw))

theorem discard (r : Request) : Statement (.discard r) :=
  of_known .discard r _ rfl fun _ => rfl

theorem schedCancel (r : Request) : Statement (.schedCancel r) :=
  of_known .schedCancel r _ rfl fun _ => rfl

theorem schedGet (r : Request) : Statement (.schedGet r) :=
  of_known .schedGet r _ rfl fun _ => rfl

theorem condEnable (r : Request) : Statement (.condEnable r) :=
  of_known .condEnable r _ rfl fun _ => rfl

theorem condGet (r : Request) : Statement (.condGet r) :=
  of_known .condGet r _ rfl fun _ => rfl

theorem alertRelease (r : Request) : Statement (.alertRelease r) :=
  of_known .alertRelease r _ rfl fun _ => rfl

theorem probeSet (r : Request) : Statement (.probeSet r) :=
  of_known .probeSet r _ rfl fun _ => rfl

theorem probeGet (r : Request) : Statement (.probeGet r) :=
  of_known .probeGet r _ rfl fun _ => rfl

theorem countersGet (r : Request) : Statement (.countersGet r) :=
  of_known .countersGet r _ rfl fun _ => rfl

theorem unknownKindRequest (kind : Byte) (r : Request) : Statement (.unknownKindRequest kind r) :=
  by
  intro hw f hf
  unfold encodeFrame at hf
  rw [← Option.some.inj hf]
  exact decodeFrame_unknown kind r (Option.isNone_iff_eq_none.mp (Bool.and_elim_right hw))

theorem frameClose (stopLow : Bool) : Statement (.frameClose stopLow) :=
  of_event _ rfl

theorem frameTransmitDone : Statement .frameTransmitDone :=
  of_event _ rfl

theorem frameBoundary : Statement .frameBoundary :=
  of_event _ rfl

theorem frameComputationComplete (strikes : List Strike) : Statement (.frameComputationComplete strikes) :=
  of_event _ rfl

theorem pageClearComplete : Statement .pageClearComplete :=
  of_event _ rfl

theorem inputSlotReceived (slot : Nat) (word : Word24) (fresh : Bool) : Statement (.inputSlotReceived slot word fresh) :=
  of_event _ rfl

theorem rateMeasurementComplete (elapsed : Nat) : Statement (.rateMeasurementComplete elapsed) :=
  of_event _ rfl

theorem rateMeasurementLoss : Statement .rateMeasurementLoss :=
  of_event _ rfl

theorem clockLost : Statement .clockLost :=
  of_event _ rfl

theorem trackerTimeout : Statement .trackerTimeout :=
  of_event _ rfl

theorem characterReceived (c : Byte) (stopLow : Bool) : Statement (.characterReceived c stopLow) :=
  of_event _ rfl

end Sys2Proof.Laws.FrameRoundTrip
end

