-- ==== Sys2Proof/Laws/Tables.lean ====
section
/-! SUPPORT. Reading a table after one record, or every record, was changed; the range of a fill; the bytes of a number. -/

namespace Sys2Proof.Machine

/-- One record changed: that record reads changed, every other as before. -/
theorem updateAt_get {α : Type} {n : Nat} (v : Vector α n) (i j : Fin n) (f : α → α) :
    (updateAt v i f)[j] = if i = j then f v[j] else v[j] := by
  unfold updateAt
  by_cases h : i = j
  · subst h; simp
  · have : (i : Nat) ≠ j := fun hv => h (Fin.ext hv)
    simp [h, this]

/-- Every record changed by its index and itself. -/
theorem mapIx_get {α β : Type} {n : Nat} (f : Fin n → α → β) (v : Vector α n) (i : Fin n) : (mapIx f v)[i] = f i v[i] := by
  simp [mapIx]

/-- Every record of a table changed at once, as a list. -/
theorem mapIx_toList {α β : Type} {n : Nat} (f : Fin n → α → β) (v : Vector α n) :
    (mapIx f v).toList = List.zipWith f (List.finRange n) v.toList := by
  unfold mapIx; rfl

/-- A property of every record of a table is one of every index. -/
theorem forall_mem_toList {α : Type} {n : Nat} (v : Vector α n) (P : α → Prop) :
    (∀ x ∈ v.toList, P x) ↔ ∀ i : Fin n, P v[i] := by
  constructor
  · exact fun h i => h _ (by simp)
  · intro h x hx
    obtain ⟨i, hi, rfl⟩ := List.mem_iff_getElem.mp hx
    have hi' : i < n := by simpa using hi
    simpa using h ⟨i, hi'⟩

/-- A number below the size of a table names one of its records. -/
theorem index_some {n k : Nat} (h : k < n) : index n k = some ⟨k, h⟩ := by unfold index; rw [dif_pos h]

/-- A number at or beyond the size of a table names none. -/
theorem index_none {n k : Nat} (h : ¬ k < n) : index n k = none := by unfold index; rw [dif_neg h]

/-- The records of a range: without a wrap those from first to last, with one those outside (R13, R80). -/
theorem mem_wrapRange {n : Nat} (first last i : Fin n) :
    i ∈ wrapRange first last ↔ if first ≤ last then first ≤ i ∧ i ≤ last else first ≤ i ∨ i ≤ last := by
  unfold wrapRange; split <;> simp

/-- The number of bytes that a number is written in. -/
@[simp] theorem bytesOf_length (n v : Nat) : (bytesOf n v).length = n := by
  induction n with
  | zero => rfl
  | succ n ih => simp [bytesOf, ih]

@[simp] theorem signedBytes_length (n : Nat) (v : Int) : (signedBytes n v).length = n := by simp [signedBytes]

/-- A clamped number lies in its range. -/
theorem clampNat_mem {lo hi : Nat} (h : lo ≤ hi) (v : Nat) : lo ≤ clampNat lo hi v ∧ clampNat lo hi v ≤ hi := by
  unfold clampNat; omega

/-- A clamped integer lies in its range. -/
theorem clampInt_mem {lo hi : Int} (h : lo ≤ hi) (v : Int) : lo ≤ clampInt lo hi v ∧ clampInt lo hi v ≤ hi := by
  unfold clampInt; omega

/-- A number already in its range is not changed by the clamp. -/
theorem clampInt_of_mem {lo hi v : Int} (h1 : lo ≤ v) (h2 : v ≤ hi) : clampInt lo hi v = v := by unfold clampInt; omega

/-- A step toward a target does not pass it and moves by at most the step (R76). -/
theorem approach_cases (step current target : Int) (h : 0 ≤ step) :
    (current ≤ target ∧ current ≤ approach step current target ∧ approach step current target ≤ target ∧
        (approach step current target = current + step ∨ approach step current target = target)) ∨
      (target < current ∧ target ≤ approach step current target ∧ approach step current target ≤ current ∧
        (approach step current target = current - step ∨ approach step current target = target)) := by
  unfold approach; split <;> omega

end Sys2Proof.Machine
end

