-- ==== Sys2Proof/Laws/Requests.lean ====
section
/-! SUPPORT. Taking, judging and answering a request, and the alert test: what each can do, said once. -/

namespace Sys2Proof.Machine

/-! ## Taking a request -/

/-- A request that can be taken leaves the receive queue (R174). -/
theorem State.takeFrame_of_canTake {f : Frame} {s : State} (h : s.link.canTake f) : s.takeFrame f = some s.accepted := by
  obtain ⟨hw, hq⟩ := h
  unfold State.takeFrame
  rw [hw]
  rcases hq with hq | hq
  · rw [hq]; simp [State.accepted]; cases s; rename_i l _ _ _ _ _ _ _ _ _ _; cases l; simp_all
  · cases hr : s.link.rx with
    | nil => rw [hr] at hq; cases hq
    | cons g rest =>
      rw [hr] at hq
      simp only [List.head?_cons, Option.some.injEq] at hq
      simp [hq, State.accepted, hr]

/-- A request that cannot be taken now is not. -/
theorem State.takeFrame_of_not_canTake {f : Frame} {s : State} (h : ¬ s.link.canTake f) : s.takeFrame f = none := by
  unfold State.takeFrame
  cases hw : s.link.resetWaits with
  | true => rfl
  | false =>
    cases hr : s.link.rx with
    | nil => exact absurd ⟨hw, .inl hr⟩ h
    | cons g rest =>
      have : g ≠ f := fun hg => h ⟨hw, .inr (by rw [hr, hg]; rfl)⟩
      simp [this]

/-- A request taken to be applied reaches its owner, whose verdict is concluded (R175). -/
theorem State.take_of_applies {k : Kind} {r : Request} {s : State} (owner : Bool → List Byte → State → Verdict)
    (h : Applies k r s) (hp : r.payload.length = k.payloadLength) :
    s.take k r owner = s.accepted.conclude k.code r.tag (owner false r.payload s.accepted) := by
  obtain ⟨hc, hd, hk⟩ := h
  unfold State.take
  rw [State.takeFrame_of_canTake hc]
  simp [judge, hd, hk, hp]

/-- A stageable request taken to be staged reaches its owner, whose verdict is concluded (R154, R175). -/
theorem State.take_of_stages {k : Kind} {r : Request} {s : State} (owner : Bool → List Byte → State → Verdict)
    (h : Stages k r s) (hs : k.stageable = true) (hp : r.payload.length = k.payloadLength) :
    s.take k r owner = s.accepted.conclude k.code r.tag (owner true r.payload s.accepted) := by
  obtain ⟨hc, hd, hk⟩ := h
  unfold State.take
  rw [State.takeFrame_of_canTake hc]
  simp [judge, hd, hk, hp, hs]

/-- A request that cannot be taken now changes nothing. -/
theorem State.take_of_not_canTake {k : Kind} {r : Request} {s : State} (owner : Bool → List Byte → State → Verdict)
    (h : ¬ s.link.canTake (requestFrame k.code r)) : s.take k r owner = s := by
  unfold State.take; rw [State.takeFrame_of_not_canTake h]

/-! ## The reply -/

/-- A request that formed no frame of its own has its reply at the tail of the transmit queue (R176). -/
theorem State.placeReply_of_quiet (f : TxFrame) (before after : State) (h : after.link.tx = before.link.tx) :
    State.placeReply f before after = after.send f := by
  unfold State.placeReply; simp [h]

/-- A refusal changes nothing but the link (R175). -/
theorem State.conclude_refuse (kind tag : Byte) (s : State) (st : Status) :
    s.conclude kind tag (.refuse st) = s.send (.reply kind tag st []) := rfl

/-- A taken request that formed no frame of its own. -/
theorem State.conclude_of_quiet (kind tag : Byte) (s t : State) (st : Status) (p : List Byte) (h : t.link.tx = s.link.tx) :
    s.conclude kind tag (.done t st p) = t.send (.reply kind tag st p) :=
  State.placeReply_of_quiet _ s t h

/-- The reply and what the request formed stand behind every frame that waited, in either order (R176). -/
theorem State.placeReply_tx (f : TxFrame) (before after : State) (l : List TxFrame) (h : after.link.tx = before.link.tx ++ l) :
    (State.placeReply f before after).link.tx = before.link.tx ++ f :: l ∨
      (State.placeReply f before after).link.tx = before.link.tx ++ l ++ [f] := by
  unfold State.placeReply
  simp only [h, List.drop_left]
  cases l with
  | nil => simp [h]
  | cons a l => simp only [List.isEmpty_cons, Bool.false_eq_true, if_false]; split <;> simp

/-! ## Conditions -/

/-- Raising a condition changes its own record alone (R179). -/
theorem State.post_condition (n : Word32) (d : Detail) (s : State) (i : Fin 15) :
    (s.post n d).cu.conditions[i] =
      if d.code = i then Condition.record { stamp := n, detail := d } s.cu.conditions[i] else s.cu.conditions[i] := by
  simp only [State.post_cu]; exact updateAt_get _ _ _ _

/-- The alert test forms nothing, or one ALERT of every announceable condition, and sets the latch (R180). -/
theorem State.alertTest_cases (s : State) :
    (s.alertTest = s ∧ (s.cu.latch = true ∨ ∀ c ∈ s.cu.conditions.toList, c.announceable = false)) ∨
      (s.cu.latch = false ∧ (∃ c ∈ s.cu.conditions.toList, c.announceable = true) ∧
        s.alertTest = State.send (.alert s.cu.announcements)
          { s with cu := { s.cu with conditions := mapIx (fun _ c => c.announce) s.cu.conditions, latch := true } }) := by
  unfold State.alertTest
  split
  · rename_i h
    refine .inl ⟨rfl, ?_⟩
    rw [Bool.or_eq_true] at h
    refine h.imp_right fun h c hc => ?_
    simp only [Bool.not_eq_true', List.any_eq_false] at h
    simpa using h c hc
  · rename_i h
    have h' : s.cu.latch = false ∧ s.cu.conditions.toList.any Condition.announceable = true := by
      cases h1 : s.cu.latch <;> cases h2 : s.cu.conditions.toList.any Condition.announceable <;> simp_all
    exact .inr ⟨h'.1, List.any_eq_true.mp h'.2, rfl⟩

/-- The alert test adds at most one frame to the transmit queue. -/
theorem State.alertTest_tx (s : State) :
    s.alertTest.link.tx = s.link.tx ∨ ∃ items, s.alertTest.link.tx = s.link.tx ++ [.alert items] := by
  rcases s.alertTest_cases with ⟨h, -⟩ | ⟨-, -, h⟩
  · exact .inl (by rw [h])
  · exact .inr ⟨_, by rw [h]; rfl⟩

/-- Raising a condition adds at most one frame to the transmit queue. -/
theorem State.raiseAt_tx (n : Word32) (d : Detail) (s : State) :
    (s.raiseAt n d).link.tx = s.link.tx ∨ ∃ items, (s.raiseAt n d).link.tx = s.link.tx ++ [.alert items] :=
  (s.post n d).alertTest_tx

/-- All that a halt cause can do (R167): nothing; or it adds its reason, halts an engine that computes, and raises HALTED. -/
theorem State.haltCause_cases (n : Word32) (w : HaltReason) (s : State) :
    let r := s.ec.reasons.add w
    (s.haltCause n w = s ∧ (s.ec.engine = .halted ∧ s.ec.reasons.has w = true ∨ s.ec.engine.computes = false ∧ s.ec.engine ≠ .halted)) ∨
      (s.ec.engine = .halted ∧ s.ec.reasons.has w = false ∧
        s.haltCause n w = State.raiseAt n (.halted r) { s with ec := { s.ec with reasons := r } }) ∨
      (s.ec.engine.computes = true ∧
        s.haltCause n w = State.raiseAt n (.halted r)
          { s with ec := { s.ec with engine := .halted, reasons := r, clockAbsent := false, clockTimer := false } }) := by
  unfold State.haltCause
  cases h : s.ec.engine <;> cases hw : s.ec.reasons.has w <;> simp [EngineState.computes]

end Sys2Proof.Machine
end

