-- ==== Sys2Proof/Tests/Slice0.lean ====
section
/-! SUPPORT. Tests: the WellFormed smoke test, the worked examples of the manual, one or two small steps for each command, and for
each statement with hypotheses a state and operands that meet them. Expected values are the manual's or follow from its rules by
hand. -/

set_option Elab.async false

namespace Sys2Proof.Tests

open Sys2Proof.Machine

/-! ## Helpers -/

/-- A request to be applied, with tag 7, as bytes. -/
def req (p : List Nat) : Request := { tag := 7, disposition := 0, payload := p.map (BitVec.ofNat 8) }

/-- The same request, to be staged. -/
def stagedReq (p : List Nat) : Request := { tag := 7, disposition := 1, payload := p.map (BitVec.ofNat 8) }

/-- The state a command leads to; the state after a reset stands for a fault or a refusal. -/
def run (c : Instr) (s : State) : State :=
  match exec c s with
  | .next t => t
  | .fault _ => State.reset
  | .refused _ => State.reset

/-- The last reply's status and payload. -/
def answer (s : State) : Option (Status × List Nat) :=
  match s.link.tx.getLast? with
  | some (.reply _ _ st p) => some (st, p.map BitVec.toNat)
  | _ => none

/-- A line of slot 1 that holds pages 0 and 1. -/
def ring : Line :=
  { Line.freeValue with state := .active, slot := 1, length := 8192, pageCount := 2, pages := [0, 1], w := 10 }

/-- A bus tap of slot 1 on line 6. -/
def echo : Tap :=
  { Tap.freeValue with
    state := .live, slot := 1, source := 6, dest := .bus 3, spec := .fixed 25600, target := 25600, position := 25600,
    gainTarget := 12288, gain := 6400 }

/-- The part RUNNING at 48,000 with its counter at 1,000: line 6 with one tap, record 0, and every other page clean. -/
def running : State :=
  { State.reset with
    ec := { Engine.resetValue with
      engine := .running, rate := some .r48, fade := 256, goal := 256, clockTimer := true, counter := 1000, budgetUsed := 6 }
    port := { Port.resetValue with
      receive := List.replicate 32 0, previous := List.replicate 32 0, before := List.replicate 32 0,
      latch := { engine := .running, drive := false, bypass := false, haltAction := .mute } }
    dmc := { Dmc.resetValue [] with
      clean := allPages.drop 2, dirty := [], lines := (Vector.replicate 64 Line.freeValue).set 6 { ring with refs := 1 } }
    taps := (Vector.replicate 256 Tap.freeValue).set 0 echo }

/-- A payload of the longest length that fits, and one byte more. -/
def long (n : Nat) : Request := { tag := 0, disposition := 0, payload := List.replicate n 0 }

/-! ## WellFormed refuses -/

theorem test_wellFormed_refuses_long_payload :
    (Instr.beat (long 1025)).wellFormed = false ∧ (Instr.beat (long 1024)).wellFormed = true := by decide +kernel

theorem test_wellFormed_refuses_commitNow_at : (Instr.commitNow (req [1, 0, 0, 0, 0])).wellFormed = false := by decide

theorem test_wellFormed_refuses_commitAt_now : (Instr.commitAt (req [0, 0, 0, 0, 0])).wellFormed = false := by decide

theorem test_wellFormed_refuses_known_kind :
    (Instr.unknownKindRequest 0x44 (req [])).wellFormed = false ∧ (Instr.unknownKindRequest 0x46 (req [])).wellFormed = true := by
  decide

theorem test_wellFormed_refuses_strike_outside :
    (Instr.frameComputationComplete [{ address := 8388608, damage := .correctable }]).wellFormed = false ∧
      (Instr.frameComputationComplete [{ address := 8388607, damage := .correctable }]).wellFormed = true := by decide

theorem test_wellFormed_refuses_slot_32 :
    (Instr.inputSlotReceived 32 0 true).wellFormed = false ∧ (Instr.inputSlotReceived 31 0 true).wellFormed = true := by decide

/-! ## Words and wire -/

/-- No row of the table has bits. -/
theorem test_no_word_decodes : decodeTableWord 8 0x44 = none ∧ (State.reset.withFetchWord 8 0x44).pending = [] := by decide

/-- Section 10.5, "one request on the wire": TAP_FREE of tap 245 with tag 7. -/
theorem test_wire_tap_free :
    (wire (Frame.body { kind := 0x33, tag := 7, disposition := 0, payload := [245] })).map BitVec.toNat =
      [0xF5, 0x00, 0x04, 0x33, 0x07, 0x00, 0xF4, 0xE5, 0x01, 0x33, 0xF5] := by decide

/-- The same section: the reply's bytes. -/
theorem test_wire_reply :
    (unescaped (TxFrame.body (.reply 0x33 7 .ok []))).map BitVec.toNat = [0x00, 0x03, 0xB3, 0x07, 0x00, 0x00, 0xBD] := by decide

/-- The same section: the frame of the wire spells the command. -/
theorem test_decode_tap_free :
    decodeFrame { kind := 0x33, tag := 7, disposition := 0, payload := [245] } = .tapFree (req [245]) := by decide

/-! ## Arithmetic: the worked examples -/

/-- Section 1.7: the first two pattern words, 1,536 and 1,310,840. -/
theorem test_pattern_words : patternWordOf 1 = 1536 ∧ patternWordOf (patternState 1) = 1310840 := by decide

/-- Section 5.5: a triangle at phase 3,221,225,472 gives −1, an offset of −1, a read of 1,993, a gain of 12,288, 1,495 on the bus. -/
theorem test_bus_tap_figures :
    ({ Modulator.resetValue 5 with phase := 3221225472 } : Modulator).value = -1 ∧ modOffset 2560 (-1) = -1 ∧
      readPosition 48000 6144128 (-1) = 6144127 ∧ interpolate 1000 3001 127 = 1993 ∧ busGain 12288 16384 256 = 12288 ∧
      scaled 1993 12288 = 1495 ∧ fadeMix 1000 (-3000) 64 256 = 0 := by decide

/-- Section 5.6: a feedback tap and a damped store; section 6.3: computation 151 of the fade. -/
theorem test_feedback_figures :
    feedbackGain 12288 2 = 3072 ∧ feedbackGain (-12287) 2 = -3071 ∧ scaled 1993 3072 = 374 ∧ scaled 100000 8192 = 50000 ∧
      damp 50374 40000 16384 = 47780 ∧ fadeMix 2000 (-1000) 150 512 = 1121 := by decide

/-- Section 4.3: the targets of 3/4 and of 16/1 on a line of 48,000 samples at B = 24,000. -/
theorem test_tempo_targets :
    targetFor (.tempo 3 4) 24000 48000 = 4608000 ∧ targetClamped (.tempo 3 4) 24000 48000 = false ∧
      targetFor (.tempo 16 1) 24000 48000 = 12287744 ∧ targetClamped (.tempo 16 1) 24000 48000 = true := by decide

/-- Section 6.3: events A to E of a fade superseded twice. -/
theorem test_fade_superseded :
    let a : Tap := { echo with position := 3072000, target := 3072000, retuneLength := 512 }
    let fading (k : Nat) (p : Option Nat) : Retune := .fading 3840000 k 512 p
    (a.retarget 3840000).1.retune = fading 0 none ∧ (a.retarget 3840000).2 = .started ∧
      (({ a with target := 3840000, retune := fading 100 none } : Tap).retarget 4608000).2 = .changed ∧
      (({ a with target := 4608000, retune := fading 150 (some 4608000) } : Tap).retarget 2304000).2 = .superseded ∧
      (({ a with target := 5376000, retune := fading 150 (some 5376000) } : Tap).retarget 5376000).2 = .same ∧
      (({ a with target := 5376000, retune := fading 511 (some 5376000) } : Tap).advanceRetune.1).retune =
        .fading 5376000 0 512 none := by decide

/-- Section 6.4: a glide re-aimed part-way: steps 213 and 35, and its last two computations. -/
theorem test_glide_reaimed :
    let g : Tap := { echo with position := 256000, target := 256000, retuneMode := .glide, retuneLength := 4800 }
    (g.retarget 1280000).1.retune = .gliding 213 ∧
      (({ g with position := 682000, target := 1280000, retune := .gliding 213 } : Tap).retarget 512000).1.retune = .gliding 35 ∧
      (({ g with position := 512040, target := 512000, retune := .gliding 35 } : Tap).advanceRetune.1).position = 512005 ∧
      (({ g with position := 512005, target := 512000, retune := .gliding 35 } : Tap).advanceRetune.1).retune = .idle := by decide

/-- Section 7.4: the first two cycle wraps of a fresh modulator, and the value between them. -/
theorem test_random_cycle :
    let m : Modulator := { Modulator.resetValue 0 with shape := .randomSmooth, increment := 1048576, phase := 4293918720 }
    let one := m.advance 1048576 4293918720
    let two := ({ one with phase := 4293918720 } : Modulator).advance 1048576 4293918720
    one.phase = 0 ∧ one.random = 3 ∧ one.randomCurrent = -32762 ∧ ({ one with phase := 1048576 } : Modulator).value = -8 ∧
      ({ one with phase := 2147483648 } : Modulator).value = -16381 ∧ two.random = 5 ∧ two.randomPrevious = -32762 ∧
      two.randomCurrent = -32758 := by decide +kernel

/-- Section 3.5: the sample at delay 5 of a line of length 10,000 with w = 3 is at position 9,998, in the third page. -/
theorem test_ring_address :
    let l : Line := { ring with length := 10000, pageCount := 3, pages := [7, 8, 9], w := 3 }
    l.positionAt 5 = 9998 ∧ l.address 9998 = some (9 * 4096 + 1806) := by decide

/-! ## Ports -/

/-- R1: 4,200, −1 and the least sample in the 32 bit periods of a slot, by hand. -/
theorem test_slot_word :
    slotWord 4200 = 0x00106800 ∧ slotWord (-1) = 0xFFFFFF00 ∧ slotWord (-8388608) = 0x80000000 := by decide

/-- Section 1.5: one map in each output state, entries 0 to 3. -/
theorem test_output_states :
    let map : Vector MapEntry 32 := (((Vector.replicate 32 MapEntry.resetValue).set 0 { mode := .ret, source := 2 }).set 1
      { mode := .directAligned, source := 5 } |>.set 2 { mode := .fixed, source := 1000 }).set 3 { mode := .released, source := 0 }
    let shown (e : EngineState) (drive bypass : Bool) (a : HaltAction) : List (Option Int) :=
      (Port.formReturn 32 { Port.resetValue with
        previous := [11, 21, 31, 0, 0, 55], before := [0, 0, 0, 0, 0, 50], transmit := (Vector.replicate 16 0).set 2 4200,
        inUse := map, latch := { engine := e, drive := drive, bypass := bypass, haltAction := a } }).returnSlots.take 4 |>.map fun w =>
          w.map fun x => (x.extractLsb' 8 24).toInt
    shown .running true false .mute = [some 4200, some 50, some 1000, none] ∧
      shown .stopped true false .mute = [some 0, some 50, some 1000, none] ∧
      shown .halted true false .mute = [some 0, some 50, some 1000, none] ∧
      shown .halted true false .bypass = [some 11, some 21, some 31, none] ∧
      shown .running true true .mute = [some 11, some 21, some 31, none] ∧
      shown .running false false .mute = [none, none, none, none] := by decide +kernel

/-- Section 1.8: W6 after three exact words locks; a word with 3 bits in error counts 3 and keeps the lock. -/
theorem test_checker_locks_and_counts :
    let w := patternWordOf 1
    let c : Checker := { Checker.resetValue with slot := some 7, state := .seeking, reference := some 1, consecutive := 3 }
    (c.examine w).1.state = .locked ∧ (c.examine w).2 = true ∧
      (({ c with state := .locked, consecutive := 2 } : Checker).examine (w ^^^ 7)).1.running = 3 ∧
      (({ c with state := .locked, consecutive := 2 } : Checker).examine (w ^^^ 7)).1.consecutive = 0 := by decide

/-- Section 1.8: the fourth word with six bits in error loses the lock; a zero word leaves no reference. -/
theorem test_checker_loses_lock :
    let c : Checker := { Checker.resetValue with slot := some 7, state := .locked, reference := some 1, consecutive := 3 }
    (c.examine (patternWordOf 1 ^^^ 31)).1.state = .locked ∧ (c.examine (patternWordOf 1 ^^^ 63)).1.state = .seeking ∧
      (({ c with state := .seeking } : Checker).examine 0).1.reference = none := by decide

/-! ## Commands of the ports -/

/-- The part with another engine state. -/
def inState (e : EngineState) : State := { running with ec := { running.ec with engine := e } }

/-- The part at 96,000. -/
def running96 : State := { running with ec := { running.ec with rate := some .r96 } }

theorem test_port_drive : (run (.portDrive (req [1])) running).port.drive = true ∧
    answer (run (.portDrive (req [2])) running) = some (.badValue, []) := by decide +kernel

theorem test_port_bypass : (run (.portBypass (req [1])) running).port.bypass = true ∧
    answer (run (.portBypass (req [1])) (inState .initializing)) = some (.wrongState, []) := by decide +kernel

theorem test_outmap_set_index :
    answer (run (.outmapSet (req [31, 0, 0, 0, 0, 15])) running) = some (.ok, []) ∧
      answer (run (.outmapSet (req [31, 0, 0, 0, 0, 16])) running) = some (.badIndex, []) ∧
      answer (run (.outmapSet (req [0, 1, 0, 0, 0, 16])) running96) = some (.badIndex, []) ∧
      answer (run (.outmapSet (req [32, 0, 0, 0, 0, 0])) running) = some (.badIndex, []) := by decide +kernel

theorem test_outmap_set_fixed :
    (run (.outmapSet (req [3, 3, 0xFF, 0x7F, 0xFF, 0xFF])) running).port.edited[3].source = -8388608 ∧
      answer (run (.outmapSet (req [3, 3, 0xFF, 0x7F, 0xFF, 0xFF])) running) = some (.okClamped, []) := by decide +kernel

/-- Section 1.6: at 96,000 a fill from 14 to 1 with DIRECT_ALIGNED, step 1 and source 14 writes twenty entries. -/
theorem test_outmap_fill :
    let s := run (.outmapFill (req [14, 1, 2, 1, 0, 0, 0, 14])) running96
    answer s = some (.ok, [20]) ∧
      [s.port.edited[14].source, s.port.edited[15].source, s.port.edited[16].source, s.port.edited[31].source,
        s.port.edited[0].source, s.port.edited[1].source, s.port.edited[2].source] = [14, 15, 0, 15, 0, 1, 0] := by decide +kernel

theorem test_outmap_get : (answer (run (.outmapGet (req [])) running)).map (fun x => (x.1, x.2.length, x.2.getLast?)) =
    some (.ok, 161, some 32) := by decide +kernel

theorem test_check_set : (run (.checkSet (req [31])) running).port.checker.slot = some 31 ∧
    answer (run (.checkSet (req [32])) running) = some (.badIndex, []) := by decide +kernel

theorem test_check_read : answer (run (.checkRead (req [])) running) = some (.ok, [0, 0, 0, 255]) := by decide +kernel

theorem test_check_clear :
    (run (.checkClear (req [])) { running with port := { running.port with checker := { running.port.checker with
      running := 5, snapshot := 3 } } }).port.checker.snapshot = 0 := by decide +kernel

/-! ## Engine commands -/

/-- The engine's answers by its state: STATUS's first byte, and WRONG_STATE where R163 to R168 refuse. -/
theorem test_status :
    answer (run (.status (req [])) running) =
      some (.ok, [3, 0, 0, 0, 0, 0, 3, 232, 1, 0, 1, 0, 0, 0, 0, 6, 6, 64, 0, 0]) := by decide +kernel

theorem test_time_get : answer (run (.timeGet (req [])) running) = some (.ok, [0, 0, 3, 232]) := by decide +kernel

theorem test_init :
    let s := run (.init (req [1, 1])) State.reset
    s.ec.engine = .initializing ∧ s.ec.rate = some .r96 ∧ s.ec.haltAction = .bypass ∧ s.dmc.scrubber = some 0 ∧
      s.mu.tempo = 48000 ∧ s.port.receive.length = 16 := by decide +kernel

theorem test_init_refused :
    answer (run (.init (req [0, 0])) running) = some (.wrongState, []) ∧
      answer (run (.init (req [2, 0])) State.reset) = some (.badValue, []) := by decide +kernel

theorem test_start :
    let s := run (.start (req [])) (inState .stopped)
    s.ec.engine = .running ∧ s.ec.fade = 0 ∧ s.ec.goal = 256 ∧ s.sru.slots[7].windowLeft = 4800 ∧
      answer (run (.start (req [])) (inState .halted)) = some (.wrongState, []) := by decide +kernel

theorem test_stop :
    (run (.stop (req [])) running).ec.goal = 0 ∧ (run (.stop (req [])) running).ec.engine = .stopping ∧
      (run (.stop (req [])) (inState .halted)).ec.engine = .stopped := by decide +kernel

theorem test_halt :
    (run (.halt (req [])) running).ec.reasons.host = true ∧
      ((run (.halt (req [])) running).cu.conditions[2]).reported = true ∧
      answer (run (.halt (req [])) (inState .stopped)) = some (.wrongState, []) := by decide +kernel

theorem test_resume :
    let faulted : State := { inState .halted with ec := { (inState .halted).ec with
      rateResult := .disagree, reasons := { host := false, rate := true, memory := false } } }
    (run (.resume (req [])) (inState .halted)).ec.engine = .running ∧
      answer (run (.resume (req [])) faulted) = some (.stillFaulted, []) ∧
      answer (run (.resume (req [])) running) = some (.wrongState, []) := by decide +kernel

/-- R177: RESET is answered, and the reset follows its reply. -/
theorem test_reset :
    let s := run (.reset (req [])) running
    s.ec.engine = .running ∧ (run .resetTake s).ec.engine = .unconfigured ∧ (run .resetTake running).ec.engine = .running ∧
      (run .frameTransmitDone s).link.resetSent = true := by decide +kernel

theorem test_power_on_reset :
    (run .powerOnReset running).ec.engine = .unconfigured ∧ (run .powerOnReset running).dmc.clean = [] := by decide +kernel

/-- R175: the tests in their order. -/
theorem test_request_tests :
    answer (run (.unknownKindRequest 0x46 (req [])) running) = some (.unknownKind, []) ∧
      answer (run (.beat { tag := 7, disposition := 2, payload := [] }) State.reset) = some (.badValue, []) ∧
      answer (run (.beat (stagedReq [])) State.reset) = some (.notStageable, []) ∧
      answer (run (.beat (req [0])) State.reset) = some (.wrongState, []) ∧
      answer (run (.beat (req [0])) running) = some (.badLength, []) := by decide +kernel

/-! ## Lines and pages -/

/-- A LINE_OPEN payload of slot 0 with no send source. -/
def opening (length : Nat) : List Nat := [0, 0, 0, length / 2 ^ 24, length / 2 ^ 16, length / 2 ^ 8, length, 255, 0, 0, 0, 0]

/-- Section 3.4, the worked example's first row. -/
def waitingPool : State :=
  { running with dmc := { running.dmc with
      clean := [40, 41], dirty := [11, 12, 13], scrubber := some 10, lines := Vector.replicate 64 Line.freeValue, roundRobin := 5 } }

/-- Section 3.4, events 1 and 3: an open that waits, an open that is refused. -/
theorem test_line_open_waits :
    let s := run (.lineOpen (req (opening 12000))) waitingPool
    s.dmc.waitList = [5] ∧ s.dmc.promised = 3 ∧ s.dmc.roundRobin = 6 ∧ s.dmc.lines[5].state = .waiting ∧
      answer (run (.lineOpen (req (opening 28672))) waitingPool) = some (.noMemory, []) := by decide +kernel

/-- Section 2.5, event 1: three pages from the head of the clean pool; R42: a length below 64 is clamped. -/
theorem test_line_open_takes_pages :
    (run (.lineOpen (req (opening 10000))) running).dmc.lines[0].pages = [2, 3, 4] ∧
      answer (run (.lineOpen (req (opening 10000))) running) = some (.ok, [0]) ∧
      answer (run (.lineOpen (req (opening 63))) running) = some (.okClamped, [0]) := by decide +kernel

/-- Section 3.4, event 6: the page joins the pool, line 5 takes 40, 41 and 10, the scrubber starts page 11. -/
theorem test_page_clear_complete :
    let s := run .pageClearComplete { waitingPool with dmc := { waitingPool.dmc with
      waitList := [5, 7],
      lines := (waitingPool.dmc.lines.set 5 { Line.freeValue with state := .waiting, length := 12000, pageCount := 3 }).set 7
        { Line.freeValue with state := .waiting, length := 5000, pageCount := 2 } } }
    s.dmc.lines[5].pages = [40, 41, 10] ∧ s.dmc.waitList = [7] ∧ s.dmc.clean = [] ∧ s.dmc.scrubber = some 11 ∧
      s.dmc.dirty = [12, 13] := by decide +kernel

/-- R34: the last clear of INITIALIZING makes the engine STOPPED and raises INIT_DONE. -/
theorem test_init_done :
    let s := run .pageClearComplete { inState .initializing with dmc := { waitingPool.dmc with dirty := [] } }
    s.ec.engine = .stopped ∧ (s.cu.conditions[0]).reported = true ∧ s.dmc.scrubber = none := by decide +kernel

/-- Section 3.9, first rows: a line that a tap still reads becomes CLOSING and its tap RELEASING. -/
theorem test_line_close_in_use :
    let s := run (.lineClose (req [6])) running
    s.dmc.lines[6].state = .closing ∧ s.taps[0].state = .releasing ∧ s.taps[0].gainTarget = 0 ∧
      answer (run (.lineClose (req [5])) running) = some (.notLive, []) := by decide +kernel

/-- A line that no tap uses. -/
def unused : State :=
  { running with
    ec := { running.ec with budgetUsed := 2 }, taps := Vector.replicate 256 Tap.freeValue
    dmc := { running.dmc with lines := (Vector.replicate 64 Line.freeValue).set 6 { ring with refs := 0, tag := 9 } } }

/-- Section 2.5, event 3: an unreferenced line gives its pages back at once; the first enters the scrubber. -/
theorem test_line_close_unused :
    let s := run (.lineClose (req [6])) unused
    s.dmc.lines[6] = Line.freeValue ∧ s.dmc.scrubber = some 0 ∧ s.dmc.dirty = [1] ∧ s.ec.budgetUsed = 0 := by decide +kernel

theorem test_line_set :
    let s := run (.lineSet (req [6, 6, 99, 0xC0, 0, 1, 2])) running
    s.dmc.lines[6].sendTarget = -16384 ∧ s.dmc.lines[6].damping = 258 ∧ s.dmc.lines[6].source = none ∧
      answer (run (.lineSet (req [6, 1, 32, 0, 0, 0, 0])) running) = some (.badIndex, []) ∧
      answer (run (.lineSet (req [63, 6, 0, 0, 0, 0, 0])) running) = some (.notLive, []) := by decide +kernel

theorem test_line_release_tag :
    answer (run (.lineReleaseTag (req [9])) unused) = some (.ok, [1]) ∧
      answer (run (.lineReleaseTag (req [8])) unused) = some (.ok, [0]) := by decide +kernel

theorem test_line_release_all :
    let s := run (.lineReleaseAll (req [])) { unused with dmc := { unused.dmc with roundRobin := 5 } }
    answer s = some (.ok, [1]) ∧ s.dmc.roundRobin = 0 ∧ s.dmc.lines[6].state = .free := by decide +kernel

theorem test_line_get :
    answer (run (.lineGet (req [6])) running) = some (.ok,
      [2, 1, 0, 0, 0, 0, 32, 0, 0, 2, 0, 0, 0, 10, 255, 0, 0, 0, 0, 0, 0, 0, 0, 0, 0, 0, 1, 0, 0, 0, 0, 1]) ∧
      answer (run (.lineGet (req [64])) running) = some (.badIndex, []) := by decide +kernel

theorem test_pool_get :
    answer (run (.poolGet (req [])) waitingPool) = some (.ok, [0, 2, 0, 3, 1, 0, 10, 0, 0, 0, 0, 0]) := by decide +kernel

/-! ## Taps -/

/-- Section 4.8: line 6 of 48,000 samples, the echo tap TEMPO 3/4 to BUS 3. -/
theorem test_tap_create :
    let s := run (.tapCreate (req [1, 6, 0, 3, 1, 3, 4, 0, 0, 255, 0, 0, 48, 0, 0, 4, 0]))
      { unused with dmc := { unused.dmc with lines := unused.dmc.lines.set 6 { ring with length := 48000, pageCount := 12 } } }
    answer s = some (.ok, [0]) ∧ s.taps[0].target = 4608000 ∧ s.taps[0].gainTarget = 12288 ∧ s.taps[0].gain = 0 ∧
      s.dmc.lines[6].refs = 1 ∧ s.ec.budgetUsed = 6 := by decide +kernel

theorem test_tap_create_refused :
    answer (run (.tapCreate (req [2, 6, 0, 3, 0, 0, 0, 100, 0, 255, 0, 0, 48, 0, 0, 4, 0])) running) = some (.slotMismatch, []) ∧
      answer (run (.tapCreate (req [1, 6, 0, 16, 0, 0, 0, 100, 0, 255, 0, 0, 48, 0, 0, 4, 0])) running) =
        some (.badIndex, []) := by decide +kernel

/-- Section 4.7: a gain fill from 250 to 3 that wraps. -/
theorem test_tap_fill :
    let tap (slot : SlotIx) (st : TapState) (d : Dest) : Tap := { echo with slot := slot, state := st, dest := d, gainTarget := 0 }
    let taps := (((((Vector.replicate 256 Tap.freeValue).set 251 (tap 2 .live (.bus 4))).set 253 (tap 2 .live (.line 9))).set 254
      (tap 2 .releasing (.bus 4))).set 0 (tap 5 .live (.bus 4))).set 2 (tap 2 .live (.bus 5))
    let s := run (.tapFill (req [2, 250, 3, 0, 0, 0, 78, 32])) { running with taps := taps }
    answer s = some (.okClamped, [0, 3]) ∧ [s.taps[251].gainTarget, s.taps[253].gainTarget, s.taps[254].gainTarget,
      s.taps[0].gainTarget, s.taps[2].gainTarget] = [20000, 16000, 0, 0, 20000] := by decide +kernel

theorem test_tap_set :
    let s := run (.tapSet (req [0, 5, 0, 0, 0, 200, 0, 0, 0, 0, 0x80, 0, 0, 0, 0])) running
    s.taps[0].retune = .fading 51200 0 16 none ∧ s.taps[0].gainTarget = -32768 ∧ s.sru.slots[1].counters.started = 1 ∧
      answer (run (.tapSet (req [1, 4, 0, 0, 0, 0, 0, 0, 0, 0, 0, 0, 0, 0, 0])) running) = some (.notLive, []) := by decide +kernel

theorem test_tap_free :
    (run (.tapFree (req [0])) running).taps[0].state = .releasing ∧
      answer (run (.tapFree (req [255])) running) = some (.notLive, []) := by decide +kernel

theorem test_tap_get :
    answer (run (.tapGet (req [0])) running) = some (.ok,
      [1, 1, 6, 0, 3, 0, 0, 0, 100, 0, 0, 0, 100, 0, 0, 0, 16, 0, 0, 0, 100, 0, 0, 0, 0, 0, 0, 0, 0, 0, 0, 0, 0, 0, 0, 0, 0, 0, 0,
        255, 0, 0, 48, 0, 25, 0]) := by decide +kernel

/-! ## Modulators, tempo, beat -/

/-- R130: a lock of 1/1 at B = 24,000 gives 178,956; a rate ends the lock. -/
theorem test_mod_set :
    (run (.modSet (req [2, 4, 0, 0, 0, 0, 0, 1, 1, 0])) running).mu.mods[2].increment = 178956 ∧
      (run (.modSet (req [15, 2, 0, 0, 0x20, 0, 0, 0, 0, 0])) running).mu.mods[15].increment = 2097151 ∧
      answer (run (.modSet (req [0, 1, 5, 0, 0, 0, 0, 0, 0, 0])) running) = some (.badValue, []) := by decide +kernel

/-- A modulator that runs with the beat and is locked to it 1/1. -/
def lockedMod : Modulator :=
  { Modulator.resetValue 2 with phase := 77, beatSync := true, lock := some { num := 1, den := 1 }, increment := 178956 }

/-- The part with that modulator as record 2. -/
def synced : State := { running with mu := { running.mu with mods := running.mu.mods.set 2 lockedMod } }

theorem test_mod_sync : (run (.modSync (req [2])) synced).mu.mods[2].phase = 0 ∧
    answer (run (.modSync (req [16])) synced) = some (.badIndex, []) := by decide +kernel

theorem test_mod_get :
    answer (run (.modGet (req [2])) synced) = some (.ok,
      [0, 0, 2, 187, 12, 1, 1, 1, 0, 0, 0, 77, 0, 3, 0, 0, 0, 0, 128, 0]) := by decide +kernel

/-- R136: clamped to fs/5; the lock follows: floor(2^32 / 9,600) = 447,392. -/
theorem test_tempo_set :
    let s := run (.tempoSet (req [0, 0, 0, 1])) synced
    s.mu.tempo = 9600 ∧ s.mu.mods[2].increment = 447392 ∧ answer s = some (.okClamped, []) := by decide +kernel

/-- The tracker before mark 6 of section 7's worked sequence, at the frame given. -/
def tapped (counter : Word32) : State :=
  { synced with
    ec := { synced.ec with counter := counter }
    mu := { synced.mu with
      tempo := 22633, beatPhase := 500
      tracker := { state := .tracking, lastMark := some 167900, intervals := [22500, 22800, 22600] } } }

/-- The worked sequence, mark 6: B = 22,675, the increment 189,414, a beat. -/
theorem test_beat_accepted :
    let s := run (.beat (req [])) (tapped 190700)
    s.mu.tempo = 22675 ∧ s.mu.mods[2].increment = 189414 ∧ s.mu.mods[2].phase = 0 ∧ s.mu.beatPhase = 0 ∧
      answer s = some (.ok, [0, 2, 232, 236, 1, 2, 0, 0, 88, 147]) := by decide +kernel

/-- R139: an interval of 4,799 is bounced, one of 4,800 is accepted and clamped to 9,600. -/
theorem test_beat_bounced :
    (run (.beat (req [])) (tapped 172699)).mu.tracker.lastMark = some 167900 ∧
      (run (.beat (req [])) (tapped 172700)).mu.tracker.intervals = [22500, 22800, 22600, 9600] := by decide +kernel

/-- R140: due at 167,900 + 96,000. -/
theorem test_tracker_timeout :
    (run .trackerTimeout (tapped 263899)).mu.tracker.state = .tracking ∧
      (run .trackerTimeout (tapped 263900)).mu.tracker = { state := .idle, lastMark := none, intervals := [] } := by decide +kernel

theorem test_tempo_get :
    answer (run (.tempoGet (req [])) (tapped 190700)) = some (.ok,
      [0, 0, 88, 105, 2, 1, 0, 2, 143, 220, 3, 0, 0, 87, 228, 0, 0, 89, 16, 0, 0, 88, 72, 0, 0, 1, 244]) := by decide +kernel

/-! ## Slots, staging, the schedule -/

theorem test_slot_set :
    let s := run (.slotSet (req [7, 9, 0x40, 1, 0, 0, 0])) running
    s.sru.slots[7].levelTarget = 16384 ∧ s.sru.slots[7].limit = 1 ∧ answer s = some (.okClamped, []) ∧
      answer (run (.slotSet (req [8, 1, 0, 0, 0, 0, 0])) running) = some (.badIndex, []) := by decide +kernel

/-- R150: a staged safe part is refused. -/
theorem test_slot_set_staged :
    answer (run (.slotSet (stagedReq [0, 4, 0, 0, 0, 1, 0])) running) = some (.notStageable, []) ∧
      (run (.slotSet (stagedReq [0, 2, 0, 0, 1, 0, 0])) running).sru.staging.length = 1 := by decide +kernel

theorem test_slot_clear :
    answer (run (.slotClear (req [1])) unused) = some (.ok, [1]) ∧
      (run (.slotClear (req [1])) unused).dmc.lines[6].state = .free := by decide +kernel

theorem test_slot_get :
    let counted : State := running.countSlot 1 fun c => { c with stale := 258 }
    ((answer (run (.slotGet (req [1, 1])) counted)).map fun x => (x.2.take 8, x.2.drop 40)) =
      some ([64, 0, 64, 0, 0, 0, 16, 0], [0, 0, 1, 2]) ∧
      (run (.slotGet (req [1, 1])) counted).sru.slots[1].counters.stale = 0 ∧
      answer (run (.slotGet (req [1, 2])) counted) = some (.badValue, []) := by decide +kernel

/-- The part with a staged tempo of 30,000 and one action under handle 0, due at frame 1,100. -/
def scheduled : State :=
  { running with
    sru := { running.sru with
      staging := [.tempoSet 30000]
      queue := [{ handle := 0, frame := 1100, isDue := false, entries := [.tempoSet 20000] }] } }

/-- R155: while the engine computes, the list waits; while it does not, it is applied at once. -/
theorem test_commit_now :
    (run (.commitNow (req [0, 0, 0, 0, 0])) scheduled).sru.dueNow = [.tempoSet 30000] ∧
      answer (run (.commitNow (req [0, 0, 0, 0, 0])) scheduled) = some (.ok, [0, 1]) ∧
      (run (.commitNow (req [0, 0, 0, 0, 0])) { scheduled with ec := (inState .stopped).ec }).mu.tempo = 30000 := by decide +kernel

/-- R156: the lowest free handle, behind the actions whose lead is not greater. -/
theorem test_commit_at :
    let s := run (.commitAt (req [1, 0, 0, 4, 0x4C])) scheduled
    s.sru.queue.map Action.handle = [0, 1] ∧ s.sru.staging = [] ∧ answer s = some (.ok, [1]) ∧
      (run (.commitAt (req [1, 0, 0, 4, 0x4B])) scheduled).sru.queue.map Action.handle = [1, 0] := by decide +kernel

theorem test_discard : answer (run (.discard (req [])) scheduled) = some (.ok, [0, 1]) ∧
    (run (.discard (req [])) scheduled).sru.staging = [] := by decide +kernel

theorem test_sched_cancel :
    answer (run (.schedCancel (req [0])) scheduled) = some (.ok, [0, 1]) ∧
      answer (run (.schedCancel (req [7])) scheduled) = some (.notFound, []) ∧
      answer (run (.schedCancel (req [8])) scheduled) = some (.badIndex, []) := by decide +kernel

theorem test_sched_get :
    answer (run (.schedGet (req [])) scheduled) =
      some (.ok, [0, 254, 0, 1, 0, 0, 1, 0, 0, 0, 4, 0x4C, 0, 1, 0]) := by decide +kernel

/-- R158: a safe slot skips, a tap that is not LIVE is stale. -/
theorem test_entries_skipped_and_stale :
    let parts : TapParts := { spec := none, modulator := none, gain := some 5, retune := none }
    let safe : State := running.mapSlot 1 fun r => { r with safe := true }
    let none : Tallied := { applied := 0, skipped := 0, stale := 0 }
    (handleEntry (safe, none) (.tapSet 0 parts 1)).2.skipped = 1 ∧ (handleEntry (running, none) (.tapSet 1 parts 1)).2.stale = 1 ∧
      (handleEntry (running, none) (.tapSet 0 parts 1)).1.taps[0].gainTarget = 5 := by decide +kernel

/-! ## Conditions, the probe, the counters -/

/-- Section 11.2, "a repeat during an outstanding alert", after event 3. -/
def repeated : State :=
  let clip (stamp : Word32) (b : BusIx) : Occurrence := { stamp := stamp, detail := .busClip b }
  let bus : Condition :=
    { Condition.resetValue with
      pending := true, reported := true, again := true, first := some (clip 1000 3), latest := some (clip 1001 5) }
  let wait : Occurrence := { stamp := 1040, detail := .poolWait 9 }
  let pool : Condition := { Condition.resetValue with pending := true, first := some wait, latest := some wait }
  { running with
    cu := { running.cu with conditions := (running.cu.conditions.set 13 bus).set 5 pool, latch := true } }

/-- The same section, event 2: a raised condition that is reported is marked again and sends nothing. -/
theorem test_condition_again :
    let s := (running.raise (.busClip 3)).raise (.busClip 5)
    (s.cu.conditions[13]).again = true ∧ s.link.tx.length = 1 ∧
      ((s.cu.conditions[13]).latest.map Occurrence.detail) = some (.busClip 5) := by decide +kernel

/-- The same section, event 4. -/
theorem test_alert_release :
    let s := run (.alertRelease (req [])) repeated
    (s.cu.conditions[13]).again = false ∧ (s.cu.conditions[13]).reported = true ∧ (s.cu.conditions[5]).reported = true ∧
      s.cu.latch = true ∧
      ((s.cu.conditions[13]).first.map Occurrence.detail) = some (.busClip 5) ∧
      answer (run (.alertRelease (req [])) running) = some (.ok, [0]) := by decide +kernel

theorem test_cond_enable :
    let s := run (.condEnable (req [0x40, 0x01])) running
    (s.cu.conditions[0]).enabled = true ∧ (s.cu.conditions[1]).enabled = false ∧ (s.cu.conditions[14]).enabled = true := by
  decide +kernel

theorem test_cond_get :
    ((answer (run (.condGet (req [])) repeated)).map fun x => (x.2.length, x.2.take 2, (x.2.drop 274).take 12)) =
      some (316, [1, 1], [15, 0, 0, 3, 232, 3, 0, 0, 0, 0, 0, 0]) := by decide +kernel

theorem test_probe_set :
    (run (.probeSet (req [3, 15, 0, 0, 0, 0])) running).cu.probe.trip = 1 ∧
      answer (run (.probeSet (req [3, 16, 0, 0, 0, 9])) running) = some (.badIndex, []) ∧
      answer (run (.probeSet (req [4, 0, 0, 0, 0, 9])) running) = some (.badValue, []) := by decide +kernel

theorem test_probe_get :
    ((answer (run (.probeGet (req [])) { running with cu := { running.cu with probe := { Probe.resetValue with peak := 515 } } })).map
      fun x => (x.2.length, x.2.take 11)) = some (37, [0, 0, 0, 0x80, 0, 0, 0, 0, 0, 2, 3]) := by decide +kernel

theorem test_counters_get :
    let s : State := { running with cu := { running.cu with counters := { running.cu.counters with linkRejects := 2 } } }
    ((answer (run (.countersGet (req [1])) s)).map fun x => (x.2.length, x.2.take 8)) = some (76, [0, 0, 0, 0, 0, 0, 0, 2]) ∧
      (run (.countersGet (req [1])) s).cu.counters.linkRejects = 0 := by decide +kernel

/-! ## The link -/

/-- The receiver about to see the closing marker of section 10.5's frame, or its first length bytes. -/
def collecting (bytes : List Byte) : State :=
  { running with link := { running.link with receiver := .collect bytes false false } }

/-- The same section: the frame is whole, and without its escaped byte it is TRUNCATED. -/
theorem test_frame_close :
    (run (.frameClose false) (collecting [0, 4, 0x33, 7, 0, 0xF5, 1, 0x33])).link.rx =
        [{ kind := 0x33, tag := 7, disposition := 0, payload := [0xF5] }] ∧
      (run (.frameClose false) (collecting [0, 4, 0x33, 7, 0, 1, 0x33])).link.tx.head? = some (.reject .truncated) ∧
      (run (.frameClose true) (collecting [0, 4, 0x33, 7, 0, 0xF5, 1, 0x33])).link.tx.head? = some (.reject .checkBad) := by
  decide +kernel

/-- R173: lengths 1,027 and 1,028, 3 and 2. -/
theorem test_character_length :
    (run (.characterReceived 3 false) (collecting [4])).link.receiver = .collect [4, 3] false false ∧
      (run (.characterReceived 4 false) (collecting [4])).link.tx.head? = some (.reject .tooLong) ∧
      (run (.characterReceived 3 false) (collecting [0])).link.receiver = .collect [0, 3] false false ∧
      (run (.characterReceived 2 false) (collecting [0])).link.tx.head? = some (.reject .truncated) := by decide +kernel

theorem test_frame_transmit_done : (run .frameTransmitDone (repeated.send (.reject .tooLong))).link.tx = [] := by decide +kernel

/-! ## Frames and clocks -/

/-- R2, R5, R90, R162: the boundary advances the counter and begins a computation with its stamp. -/
theorem test_frame_boundary :
    let s := run .frameBoundary running
    s.ec.counter = 1001 ∧ s.fe.computation.map Computation.stamp = some 1001 ∧ s.port.latch.engine = .running ∧
      (run .frameBoundary (inState .stopped)).ec.counter = 1000 ∧
      (run .frameBoundary (inState .stopped)).fe.computation = none := by decide +kernel

/-- R170: after the loss of the clock the first boundary raises CLOCK_BACK and fades in from 0. -/
theorem test_clock_back :
    let s := run .clockLost running
    s.ec.clockAbsent = true ∧ (s.cu.conditions[3]).reported = true ∧ (run .frameBoundary s).ec.fade = 0 ∧
      ((run .frameBoundary s).cu.conditions[4]).pending = true := by decide +kernel

/-- The computation that begins at a boundary of the running part. -/
def computation : Computation :=
  { stamp := 1001, view := running.takeView, busSums := Vector.replicate 16 0, lineSums := Vector.replicate 64 0
    written := Written.nothing }

/-- The part with that computation in progress. -/
def computing : State := { running with fe := { running.fe with computation := some computation } }

/-- Section 4.8: the gain ramps by 64 in each computation; the write index of the line goes on by one. -/
theorem test_frame_computation_complete :
    let s := run (.frameComputationComplete []) computing
    s.taps[0].gain = 6464 ∧ s.dmc.lines[6].w = 11 ∧ s.fe.computation = none := by decide +kernel

/-- R102, R179, R180: of two clips of one computation the first is announced as it is found, and the second finds it reported. -/
theorem test_second_clip_gains_again :
    let c : Computation := { computation with busSums := (computation.busSums.set 2 8388608).set 7 (-8388609) }
    let s := run (.frameComputationComplete []) { computing with fe := { computing.fe with computation := some c } }
    let clip (b : BusIx) : Occurrence := { stamp := 1001, detail := .busClip b }
    s.link.tx = [.alert [clip 2]] ∧ (s.cu.conditions[13]).again = true ∧ (s.cu.conditions[13]).first = some (clip 2) ∧
      (s.cu.conditions[13]).latest = some (clip 7) := by decide +kernel

/-- Section 4.8, the last row: a release completes when the gain reaches 0. -/
theorem test_release_completes :
    let last : Tap := { echo with state := .releasing, gain := 64, gainTarget := 0 }
    let v : View := { computation.view with taps := computation.view.taps.set 0 last }
    let c : Computation := { computation with view := v }
    let s := ({ running with taps := running.taps.set 0 last } : State).advanceTap c 0
    (s.completeRelease c 0).taps[0] = Tap.freeValue ∧ (s.completeRelease c 0).dmc.lines[6].refs = 0 ∧
      (s.completeRelease c 0).ec.budgetUsed = 2 := by decide +kernel

/-- Section 2.5: the damaged sample is read as 0 at two successive delays, with a fault each. -/
theorem test_damaged_sample :
    let m : Memory := [(9, { value := 700, damage := some .uncorrectable })]
    (readSample m 6 ring 1).value = 0 ∧ (readSample m 6 ring 1).faults = [(6, 9)] ∧
      (readSample m 6 { ring with w := 11 } 2).faults = [(6, 9)] ∧ (readSample (m.store 9 5) 6 ring 1).value = 5 := by decide

/-- R147, R148: a saturation at the limit trips and raises the runaway level; a clean window lowers it. -/
theorem test_runaway :
    let s : State := running.mapSlot 1 fun r => { r with windowCount := 15 }
    (s.reportSaturation computation 1).sru.slots[1].runaway = 1 ∧ (s.reportSaturation computation 1).sru.slots[1].windowCount = 0 ∧
      (Slot.advanceWindow 4800 { Slot.resetValue with runaway := 2, windowLeft := 1 }).runaway = 1 := by decide +kernel

/-- R3, R20: the sample enters the receive buffer of the frame in progress. -/
theorem test_input_slot :
    (run (.inputSlotReceived 31 0xFFFFFF true) running).port.receive[31]? = some (-1) ∧
      (run (.inputSlotReceived 16 1 true) running96).port.receive = running.port.receive := by decide +kernel

/-- R169: 64,000 microseconds is the limit between the rates; a disagreement halts the engine. -/
theorem test_rate_measurement :
    let s : State := { running with ec := { running.ec with span := some 4096 } }
    (run (.rateMeasurementComplete 64000) s).ec.rateResult = .agree ∧
      (run (.rateMeasurementComplete 63999) s).ec.engine = .halted ∧
      (run (.rateMeasurementComplete 63999) s).ec.reasons.rate = true ∧
      (run (.rateMeasurementComplete 63999) running).ec.engine = .running := by decide +kernel

theorem test_rate_loss : (run .rateMeasurementLoss { running with ec := { running.ec with span := some 7 } }).ec.span = none := by
  decide +kernel

/-! ## Witnesses

For each statement with hypotheses, and for each of its clauses, a state and operands that meet them, at the boundary of a range where
the clause has one. -/

/-- A request is taken to be applied where the link is idle and the engine state takes its kind. -/
theorem applies (k : Kind) (p : List Nat) (s : State) (l : s.link = Link.resetValue) (h : k.takenIn s.ec.engine = true) :
    Applies k (req p) s :=
  ⟨⟨by rw [l]; rfl, .inl (by rw [l]; rfl)⟩, rfl, h⟩

/-- The same, to be staged. -/
theorem stages (k : Kind) (p : List Nat) (s : State) (l : s.link = Link.resetValue) (h : k.takenIn s.ec.engine = true) :
    Stages k (stagedReq p) s :=
  ⟨⟨by rw [l]; rfl, .inl (by rw [l]; rfl)⟩, rfl, h⟩

/-- The part with a command in front of its queue. -/
def queued (c : Instr) (s : State) : State := { s with pending := [c] }

theorem witness_StepRunsTheFrontCommand : (queued .frameBoundary running).pending = .frameBoundary :: [] ∧ running.pending = [] :=
  ⟨rfl, rfl⟩

/-- A frame at the head of the receive queue that is another request's, and a RESET reply that has gone out. -/
theorem witness_RequestTestsInOrder_not_taken :
    let other : Frame := { kind := 0x44, tag := 1, disposition := 0, payload := [] }
    let s : State := { running with link := { running.link with rx := [other] } }
    let due : State := { running with link := { running.link with resetSent := true } }
    ¬ s.link.canTake (requestFrame Kind.beat.code (req [])) ∧ ¬ due.link.canTake (requestFrame Kind.beat.code (req [])) ∧
      ¬ s.link.canTake (requestFrame 0x46 (req [])) :=
  ⟨fun h => absurd h.2 (by decide), fun h => absurd h.1 (by decide), fun h => absurd h.2 (by decide)⟩

theorem witness_RequestTestsInOrder :
    State.reset.link.canTake (requestFrame Kind.beat.code (req [])) ∧ Kind.ofCode 0x46 = none ∧
      (2 : Byte) ≠ 0 ∧ (2 : Byte) ≠ 1 ∧ (stagedReq []).disposition = 1 ∧ Kind.beat.stageable = false ∧
      Kind.tempoSet.stageable = true ∧ (req []).disposition = 0 ∧ Kind.beat.takenIn State.reset.ec.engine = false ∧
      Kind.beat.takenIn running.ec.engine = true ∧ (req [0]).payload.length ≠ Kind.beat.payloadLength :=
  ⟨⟨rfl, .inl rfl⟩, by decide⟩

theorem witness_ExactlyOneReply :
    (Instr.tapFree (req [1])).wellFormed = true ∧ kindAndRequest (.tapFree (req [1])) = some (Kind.tapFree.code, req [1]) ∧
      running.link.canTake (requestFrame Kind.tapFree.code (req [1])) ∧ 0x10 ≤ Status.code .notLive ∧
      answer (run (.tapFree (req [1])) running) = some (.notLive, []) :=
  ⟨rfl, rfl, ⟨rfl, .inl rfl⟩, by decide, by decide +kernel⟩

/-! ### The invariants, in the midst of a computation, with its completion in front of the queue -/

/-- The part with that computation in progress, a stored sample and a staged entry. -/
def busy : State :=
  { queued (.frameComputationComplete []) computing with
    dmc := { computing.dmc with memory := [(9, { value := 700, damage := none })] }
    sru := { computing.sru with staging := [.tempoSet 30000] } }

theorem witness_step : ∃ t, step busy = .next t := ⟨_, rfl⟩

theorem witness_MemoryStaysCanonical : busy.dmc.memory.wf := by decide

theorem witness_SamplesStayInRange : busy.SamplesInRange where
  memory := by simp only [InSample]; decide +kernel
  lines := by simp only [Line.inRange, InSample]; decide +kernel
  receive := by simp only [AllSamples, InSample]; decide +kernel
  previous := by simp only [AllSamples, InSample]; decide +kernel
  before := by simp only [AllSamples, InSample]; decide +kernel
  held := by simp only [AllSamples, InSample]; decide +kernel
  transmit := by simp only [AllSamples, InSample]; decide +kernel
  edited := by simp only [MapEntry.inRange, InSample]; decide +kernel
  inUse := by simp only [MapEntry.inRange, InSample]; decide +kernel
  returns := fun v h => absurd h (by show v ∉ []; simp)
  buses := by simp only [AllSamples, InSample]; decide +kernel
  entries := fun e h => by
    have : e = .tempoSet 30000 := by simpa [busy, Sru.entries, computing, running, State.reset, Sru.resetValue, queued] using h
    subst this; trivial
  view := fun c h => by
    have : c = computation := by simpa [busy, queued, computing] using h.symm
    subst this; simp only [Line.inRange, InSample]; decide +kernel

theorem witness_LinkStaysBounded : busy.link.Bounded where
  requests := by decide
  rejects := by decide
  frames := fun f h => absurd h (by show f ∉ []; simp)
  receiver := trivial

theorem witness_AlertsStayConsistent : busy.cu.Consistent where
  ordered := fun i => by
    have : ∀ i : Fin 15, busy.cu.conditions[i] = Condition.resetValue := by decide +kernel
    rw [this i]
    exact ⟨by decide, by decide, by decide, fun _ h => (nomatch h), fun _ h => (nomatch h)⟩
  clear := fun _ => by decide +kernel
  set := fun h => absurd h (by decide)

theorem witness_PagesStayPartitioned : busy.dmc.Partitioned where
  places := by
    have h : busy.dmc.lines.toList.flatMap Line.pages = allPages.take 2 := by decide +kernel
    have hc : busy.dmc.clean = allPages.drop 2 := by simp only [busy, queued, computing, running]
    have hd : busy.dmc.dirty = [] := rfl
    have hs : busy.dmc.scrubber.toList = [] := rfl
    rw [Dmc.allPlaces, h, hc, hd, hs, List.append_nil, List.append_nil]
    exact List.perm_append_comm.trans (by rw [List.take_append_drop])
  lines := fun k => by
    have : ∀ k : LineIx, busy.dmc.lines[k] = if k = 6 then { ring with refs := 1 } else Line.freeValue := by decide +kernel
    rw [this k]
    by_cases h : k = 6
    · rw [if_pos h]; exact ⟨by decide, by decide, by decide, by decide⟩
    · rw [if_neg h]; exact ⟨by decide, by decide, by decide, by decide⟩
  waits := by decide
  waiting := by decide +kernel
  promises := by
    have h : busy.dmc.promised = 0 := by decide +kernel
    rw [h]; exact Nat.zero_le _

theorem witness_LedgerAndReferencesStayExact_ledger : busy.LedgerExact where
  used := by decide +kernel
  fits := by decide
  view := fun c h => by
    have : c = computation := by simpa [busy, queued, computing] using h.symm
    subst this; decide +kernel

/-- Every tap of the busy part is the echo tap or UNUSED. -/
theorem busy_taps : ∀ t : TapIx, busy.taps[t] = echo ∨ busy.taps[t] = Tap.freeValue := by decide +kernel

/-- Of the taps of the busy part only record 0 is in use. -/
theorem busy_used : ∀ t : TapIx, (busy.taps[t]).state ≠ .unused → busy.taps[t] = echo := fun t h => by
  rcases busy_taps t with e | e
  · exact e
  · rw [e] at h; exact absurd rfl h

theorem witness_LedgerAndReferencesStayExact_references : busy.ReferencesExact where
  counts := by decide +kernel
  lines := fun t k h n => by
    rw [busy_used t h] at n ⊢
    have hk : k = 6 := by rcases n with n | n <;> simp [echo] at n; exact n.symm
    subst hk; decide +kernel

theorem witness_RetunesStayInAgreement : busy.RetunesAgree where
  taps := fun t => by
    rcases busy_taps t with h | h <;> rw [h] <;>
      exact ⟨by decide, by decide, fun _ _ _ _ h => (nomatch h), fun _ h => (nomatch h), by
        simp only [retuneLengthFits, echo, Tap.freeValue]; decide⟩
  entries := fun e h => by
    have : e = .tempoSet 30000 := by simpa [busy, Sru.entries, computing, running, State.reset, Sru.resetValue, queued] using h
    subst this; trivial

theorem witness_TempoStaysInRange : busy.TempoInRange where
  tempo := by unfold Engine.tempoFits; decide
  count := by decide
  intervals := fun i h => absurd h (by show i ∉ []; simp)
  beatPhase := by decide
  entries := fun e h => by
    have : e = .tempoSet 30000 := by simpa [busy, Sru.entries, computing, running, State.reset, Sru.resetValue, queued] using h
    subst this
    show busy.ec.tempoFits 30000
    unfold Engine.tempoFits; decide

/-- The slot record after a reset is in range. -/
theorem slot_in_range : Slot.resetValue.InRange 4800 := ⟨by decide, by decide, by decide, by decide, by decide, by decide⟩

theorem witness_SlotsAndTapsStayInRange_slots : busy.SlotsInRange where
  slots := fun r h => by
    have : ∀ r ∈ busy.sru.slots.toList, r = Slot.resetValue := by decide +kernel
    rw [this r h]; exact slot_in_range
  view := fun c h r hr => by
    have : c = computation := by simpa [busy, queued, computing] using h.symm
    subst this
    have : ∀ r ∈ computation.view.slots.toList, r = Slot.resetValue := by decide +kernel
    rw [this r hr]; exact slot_in_range
  entries := fun e h => by
    have : e = .tempoSet 30000 := by simpa [busy, Sru.entries, computing, running, State.reset, Sru.resetValue, queued] using h
    subst this; trivial

theorem witness_SlotsAndTapsStayInRange_taps : busy.TapsInRange where
  taps := fun t h => by
    have len : ∀ t : TapIx, (busy.taps[t]).state ≠ .unused → (busy.dmc.lines[(busy.taps[t]).source]).length = 8192 := by
      decide +kernel
    rw [len t h, busy_used t h]
    refine ⟨?_, ?_, fun _ _ _ _ h => (nomatch h), ?_, ?_⟩
    · simp only [DelayFits, echo]; decide
    · simp only [DelayFits, echo]; decide
    · simp only [Dest.admitsGain, echo]; decide
    · simp only [Dest.admitsGain, echo]; decide
  view := fun c h t a => by
    have : c = computation := by simpa [busy, queued, computing] using h.symm
    subst this
    have ht : ∀ t : TapIx, computation.advancesTap t = true → computation.view.taps[t] = echo ∧ busy.taps[t] = echo := by
      decide +kernel
    rw [(ht t a).1, (ht t a).2]
    simp only [Dest.admitsGain, echo]; decide

theorem witness_RecallStaysBounded : busy.sru.Bounded := ⟨by decide, by decide, by decide⟩

theorem witness_SequencesStayNonZero :
    busy.port.generator ≠ 0 ∧ busy.port.checker.reference ≠ some 0 ∧ ∀ i : ModIx, (busy.mu.mods[i]).random ≠ 0 := by
  decide +kernel

/-! ### Frames, queries, conditions -/

theorem witness_DelayMemoryFrame :
    (∃ t, exec (.beat (req [])) running = .next t) ∧ (∃ t, exec .powerOnReset waitingPool = .next t) ∧
      (∃ t, exec .pageClearComplete waitingPool = .next t) ∧ waitingPool.dmc.scrubber = some 10 :=
  ⟨⟨_, rfl⟩, ⟨_, rfl⟩, ⟨_, rfl⟩, rfl⟩

theorem witness_UnconfiguredScrubberIsIdle :
    (∃ t, exec .powerOnReset waitingPool = .next t ∧ t.ec.engine = .unconfigured) ∧ waitingPool.ec.engine ≠ .unconfigured ∧
      (∃ t, exec (.timeGet (req [])) State.reset = .next t) ∧ State.reset.ec.engine = .unconfigured ∧
      State.reset.dmc.scrubber = none :=
  ⟨⟨_, rfl, rfl⟩, by decide, ⟨_, rfl⟩, rfl, rfl⟩

theorem witness_ConditionsAreRaisedAndAnnounced :
    let freed : State := { repeated with cu := { repeated.cu with latch := false } }
    (repeated.cu.conditions[13]).reported = true ∧ (repeated.cu.conditions[5]).reported = false ∧
      (repeated.cu.conditions[5]).pending = true ∧ (repeated.cu.conditions[0]).pending = false ∧ repeated.cu.latch = true ∧
      (∀ i : Fin 15, (running.cu.conditions[i]).announceable = false) ∧ freed.cu.latch = false ∧
      (freed.cu.conditions[(5 : Fin 15)]).announceable = true := by decide +kernel

theorem witness_QueriesReportAndKeep :
    (req []).payload = [] ∧ Applies .status (req []) running ∧ Applies .timeGet (req []) running ∧
      Applies .outmapGet (req []) running ∧ Applies .poolGet (req []) running ∧ Applies .tempoGet (req []) running ∧
      Applies .schedGet (req []) running ∧ Applies .condGet (req []) running :=
  ⟨rfl, applies _ _ _ rfl rfl, applies _ _ _ rfl rfl, applies _ _ _ rfl rfl, applies _ _ _ rfl rfl, applies _ _ _ rfl rfl,
    applies _ _ _ rfl rfl, applies _ _ _ rfl rfl⟩

theorem witness_RecordQueriesReportAndKeep :
    Applies .lineGet (req [64]) running ∧ 63 < (64 : Byte).toNat ∧ Applies .lineGet (req [63]) running ∧
      (63 : LineIx).val = (63 : Byte).toNat ∧ Applies .tapGet (req [255]) running ∧ (255 : TapIx).val = (255 : Byte).toNat ∧
      Applies .modGet (req [16]) running ∧ 15 < (16 : Byte).toNat ∧ Applies .modGet (req [15]) running ∧
      (15 : ModIx).val = (15 : Byte).toNat ∧ (req [15]).payload = [15] :=
  ⟨applies _ _ _ rfl rfl, by decide, applies _ _ _ rfl rfl, rfl, applies _ _ _ rfl rfl, rfl, applies _ _ _ rfl rfl, by decide,
    applies _ _ _ rfl rfl, rfl, rfl⟩

/-! ### Engine and ports -/

theorem witness_InitSetsEveryBlock :
    Applies .init (req [1, 1]) (inState .halted) ∧ (req [1, 1]).payload = [byteOf Rate.r96.code, byteOf HaltAction.bypass.code] ∧
      Applies .init (req [0, 0]) State.reset ∧ (req [0, 0]).payload = [byteOf Rate.r48.code, byteOf HaltAction.mute.code] ∧
      Applies .init (req [2, 0]) State.reset ∧ (req [2, 0]).payload = [2, 0] ∧ 1 < (2 : Byte).toNat :=
  ⟨applies _ _ _ rfl rfl, rfl, applies _ _ _ rfl rfl, rfl, applies _ _ _ rfl rfl, rfl, by decide⟩

theorem witness_StartAndStopByState :
    (req []).payload = [] ∧
      ∀ e : EngineState, e.portsOperate = true → (inState e).ec.engine = e ∧ Applies .start (req []) (inState e) ∧
        Applies .stop (req []) (inState e) :=
  ⟨rfl, fun _ h => ⟨rfl, applies _ _ _ rfl h, applies _ _ _ rfl h⟩⟩

/-- The part HALTED for the rate, with the last measurement in disagreement. -/
def rateHalted : State :=
  { inState .halted with
    ec := { (inState .halted).ec with rateResult := .disagree, reasons := { host := true, rate := true, memory := false } } }

theorem witness_HaltAndResumeByState :
    Applies .halt (req []) running ∧ Applies .halt (req []) (inState .stopping) ∧ Applies .halt (req []) (inState .stopped) ∧
      Applies .halt (req []) (inState .halted) ∧ (inState .halted).ec.reasons.host = false ∧
      Applies .halt (req []) rateHalted ∧ rateHalted.ec.reasons.host = true ∧ rateHalted.cu.Consistent ∧
      Applies .resume (req []) running ∧ Applies .resume (req []) rateHalted ∧ rateHalted.ec.reasons.rate = true ∧
      rateHalted.ec.rateResult = .disagree ∧ Applies .resume (req []) (inState .halted) ∧
      (inState .halted).ec.reasons.rate = false :=
  ⟨applies _ _ _ rfl rfl, applies _ _ _ rfl rfl, applies _ _ _ rfl rfl, applies _ _ _ rfl rfl, rfl, applies _ _ _ rfl rfl, rfl,
    witness_AlertsStayConsistent, applies _ _ _ rfl rfl, applies _ _ _ rfl rfl, rfl, rfl, applies _ _ _ rfl rfl, rfl⟩

theorem witness_ResetFollowsItsReply :
    let s : State := running.send (.reply Kind.reset.code 7 .ok [])
    let r : State := running.send (.reject .checkBad)
    let due : State := { waitingPool with link := { waitingPool.link with resetSent := true } }
    Applies .reset (req []) running ∧ s.link.resetSent = false ∧ s.link.tx = [.reply Kind.reset.code 7 .ok []] ∧
      r.link.tx = [.reject .checkBad] ∧ TxFrame.isResetReply (.reject .checkBad) = false ∧ due.link.resetSent = true ∧
      due.dmc.scrubber = some 10 ∧ running.dmc.scrubber = none ∧ 11 * 4096 / 4096 ≠ (10 : Page).val :=
  ⟨applies _ _ _ rfl rfl, rfl, rfl, rfl, rfl, rfl, rfl, rfl, by decide⟩

theorem witness_PortFlagsAreSet :
    (req [1]).payload = [flagByte true] ∧ Applies .portDrive (req [1]) running ∧ Applies .portBypass (req [1]) running ∧
      (req [2]).payload = [2] ∧ (2 : Byte) ≠ 0 ∧ (2 : Byte) ≠ 1 ∧ Applies .portDrive (req [2]) running ∧
      Applies .portBypass (req [2]) running :=
  ⟨rfl, applies _ _ _ rfl rfl, applies _ _ _ rfl rfl, rfl, by decide, by decide, applies _ _ _ rfl rfl, applies _ _ _ rfl rfl⟩

/-- Entries 31 and 32, modes 6 and 7, bus 15 and 16, slots S−1 and S, the sample range and one beyond. -/
theorem witness_OutmapSetWritesOneEntry :
    (∀ p : List Nat, Applies .outmapSet (req p) running) ∧ (req [31, 0, 0, 0, 0, 15]).payload = [31, 0, 0, 0, 0, 15] ∧
      31 < (32 : Byte).toNat ∧ (31 : EntryIx).val = (31 : Byte).toNat ∧ 6 < (7 : Byte).toNat ∧
      (0 ≤ signedOf [0, 0, 0, 15] ∧ signedOf [0, 0, 0, 15] ≤ 15) ∧ ¬ signedOf [0, 0, 0, 16] ≤ 15 ∧
      signedOf [0, 0, 0, 31] < running.ec.timeSlots ∧ ¬ signedOf [0, 0, 0, 32] < running.ec.timeSlots ∧
      ¬ 0 ≤ signedOf [255, 255, 255, 255] ∧ signedOf [0, 0x7F, 0xFF, 0xFF] = 8388607 ∧ signedOf [0, 0x80, 0, 0] = 8388608 ∧
      signedOf [0xFF, 0x80, 0, 0] = -8388608 ∧ signedOf [0xFF, 0x7F, 0xFF, 0xFF] = -8388609 :=
  ⟨fun _ => applies _ _ _ rfl rfl, by decide⟩

/-- From 14 to 1 at 96,000, and the one entry 31 to 31. -/
theorem witness_OutmapFillWritesItsRange :
    Applies .outmapFill (req [14, 1, 2, 1, 0, 0, 0, 14]) running96 ∧
      (req [14, 1, 2, 1, 0, 0, 0, 14]).payload = [14, 1, byteOf OutMode.directAligned.code, flagByte true, 0, 0, 0, 14] ∧
      signedOf [0, 0, 0, 14] < running96.ec.timeSlots ∧ Applies .outmapFill (req [31, 31, 0, 0, 0, 0, 0, 15]) running ∧
      (req [31, 31, 0, 0, 0, 0, 0, 15]).payload = [31, 31, byteOf OutMode.ret.code, flagByte false, 0, 0, 0, 15] ∧
      signedOf [0, 0, 0, 15] ≤ 15 :=
  ⟨applies _ _ _ rfl rfl, by decide, by decide, applies _ _ _ rfl rfl, by decide, by decide⟩

/-- Each check of OUTMAP_FILL just beyond its range, the ones before it passed. -/
theorem witness_OutmapFillWritesItsRange_refused :
    (∀ p : List Nat, Applies .outmapFill (req p) running) ∧ (req [0, 32, 6, 1, 0, 0, 0, 16]).payload = [0, 32, 6, 1, 0, 0, 0, 16] ∧
      31 < (32 : Byte).toNat ∧ (31 : Byte).toNat ≤ 31 ∧ 6 < (7 : Byte).toNat ∧ (6 : Byte).toNat ≤ 6 ∧ 1 < (2 : Byte).toNat ∧
      (1 : Byte).toNat ≤ 1 ∧ ¬ signedOf [0, 0, 0, 16] ≤ 15 ∧ ¬ signedOf [0, 0, 0, 32] < running.ec.timeSlots :=
  ⟨fun _ => applies _ _ _ rfl rfl, by decide⟩

theorem witness_CheckerRequests :
    (∀ p : List Nat, Applies .checkSet (req p) running) ∧ Applies .checkRead (req []) running ∧
      Applies .checkClear (req []) running ∧ (req [255]).payload = [255] ∧ (31 : Byte).toNat < running.ec.timeSlots ∧
      (32 : Byte) ≠ 255 ∧ ¬ (32 : Byte).toNat < running.ec.timeSlots :=
  ⟨fun _ => applies _ _ _ rfl rfl, applies _ _ _ rfl rfl, applies _ _ _ rfl rfl, by decide⟩

/-! ### Lines -/

/-- Lines and capacity at their limits: record 7 is the first FREE one at or after the pointer 6, and 2 units are left. -/
def nearlyFull : State :=
  { running with ec := { running.ec with budgetUsed := 1598 }, dmc := { running.dmc with roundRobin := 6 } }

theorem witness_LineOpenTakesARecord_active :
    Applies .lineOpen (req [7, 9, 1, 0, 0x10, 0, 1, 31, 0, 0, 0, 0]) nearlyFull ∧
      (req [7, 9, 1, 0, 0x10, 0, 1, 31, 0, 0, 0, 0]).payload = [7, 9, flagByte true, 0, 0x10, 0, 1, 31, 0, 0, 0, 0] ∧
      (31 : Byte).toNat < nearlyFull.ec.timeSlots ∧ nearlyFull.ec.budgetUsed + 2 ≤ nearlyFull.ec.capacity ∧
      (nearlyFull.dmc.lines[nearlyFull.dmc.roundRobin + (1 : Fin 64)]).state = .free ∧
      (∀ m : Fin 64, m < 1 → (nearlyFull.dmc.lines[nearlyFull.dmc.roundRobin + m]).state ≠ .free) ∧
      nearlyFull.dmc.promised + 256 ≤ nearlyFull.dmc.unowned ∧ nearlyFull.dmc.waitList = [] ∧
      256 ≤ nearlyFull.dmc.clean.length :=
  ⟨applies _ _ _ rfl rfl, by decide +kernel⟩

theorem witness_LineOpenTakesARecord_waiting :
    Applies .lineOpen (req (opening 12000)) waitingPool ∧
      (req (opening 12000)).payload = [0, 0, flagByte false, 0, 0, 46, 224, 255, 0, 0, 0, 0] ∧
      waitingPool.ec.budgetUsed + 2 ≤ waitingPool.ec.capacity ∧
      (waitingPool.dmc.lines[waitingPool.dmc.roundRobin + (0 : Fin 64)]).state = .free ∧
      waitingPool.dmc.promised + 3 ≤ waitingPool.dmc.unowned ∧
      ¬ (waitingPool.dmc.waitList = [] ∧ 3 ≤ waitingPool.dmc.clean.length) :=
  ⟨applies _ _ _ rfl rfl, by decide +kernel⟩

/-- 1,599 units used; 64 lines in use; 6 pages unowned and 7 asked for. -/
theorem witness_LineOpenAdmissions :
    let spent : State := { running with ec := { running.ec with budgetUsed := 1599 } }
    let full : State := { running with dmc := { running.dmc with lines := Vector.replicate 64 ring } }
    Applies .lineOpen (req (opening 28672)) spent ∧ spent.ec.capacity < spent.ec.budgetUsed + 2 ∧
      Applies .lineOpen (req (opening 28672)) full ∧ (∀ k : LineIx, (full.dmc.lines[k]).state ≠ .free) ∧
      Applies .lineOpen (req (opening 28672)) waitingPool ∧ (waitingPool.dmc.lines[(5 : LineIx)]).state = .free ∧
      waitingPool.dmc.unowned < waitingPool.dmc.promised + 7 ∧
      (req (opening 28672)).payload = [0, 0, flagByte false, 0, 0, 112, 0, 255, 0, 0, 0, 0] :=
  ⟨applies _ _ _ rfl rfl, by decide, applies _ _ _ rfl rfl, by decide +kernel, applies _ _ _ rfl rfl, by decide +kernel⟩

/-- Each field check of LINE_OPEN just beyond its range, the ones before it passed. -/
theorem witness_LineOpenAdmissions_fields :
    (∀ p : List Nat, Applies .lineOpen (req p) running) ∧
      (req [7, 0, 1, 0, 0, 0, 64, 32, 0, 0, 0, 0]).payload = [7, 0, 1, 0, 0, 0, 64, 32, 0, 0, 0, 0] ∧ 7 < (8 : Byte).toNat ∧
      (7 : Byte).toNat ≤ 7 ∧ 1 < (2 : Byte).toNat ∧ (1 : Byte).toNat ≤ 1 ∧ (32 : Byte) ≠ 255 ∧
      ¬ (32 : Byte).toNat < running.ec.timeSlots :=
  ⟨fun _ => applies _ _ _ rfl rfl, by decide⟩

/-- The part with record 6 given. -/
def withLine (l : Line) : State := { running with dmc := { running.dmc with lines := running.dmc.lines.set 6 l } }

theorem witness_LineSetWritesItsParts :
    (∀ (p : List Nat) (l : Line), Applies .lineSet (req p) (withLine l)) ∧
      (req [6, 7, 31, 0, 0, 0, 0]).payload = [6, 7, 31, 0, 0, 0, 0] ∧ 63 < (64 : Byte).toNat ∧
      (63 : LineIx).val = (63 : Byte).toNat ∧ ((withLine ring).dmc.lines[(63 : LineIx)]).state = .free ∧
      ((withLine { ring with state := .closing }).dmc.lines[(6 : LineIx)]).state = .closing ∧
      ((withLine { ring with state := .waiting }).dmc.lines[(6 : LineIx)]).state = .waiting ∧
      ((withLine ring).dmc.lines[(6 : LineIx)]).state = .active ∧ (7 : Byte).getLsbD 0 = true ∧
      (31 : Byte).toNat < running.ec.timeSlots ∧ ¬ (32 : Byte).toNat < running.ec.timeSlots :=
  ⟨fun _ _ => applies _ _ _ rfl rfl, by decide +kernel⟩

theorem witness_LineCloseByState :
    let cleared : State := { unused with dmc := { unused.dmc with scrubber := some 9 } }
    let closing : State := withLine { ring with state := .closing, refs := 1 }
    (∀ s : State, s = running ∨ s = cleared ∨ s = unused ∨ s = closing → Applies .lineClose (req [6]) s) ∧
      (req [6]).payload = [byteOf (6 : LineIx)] ∧
      (∀ j : LineIx, ¬ ((running.dmc.lines[j]).state = .closing ∧ (running.dmc.lines[j]).refs = 0)) ∧
      (∀ j : LineIx, ¬ ((cleared.dmc.lines[j]).state = .closing ∧ (cleared.dmc.lines[j]).refs = 0)) ∧
      (∀ j : LineIx, ¬ ((closing.dmc.lines[j]).state = .closing ∧ (closing.dmc.lines[j]).refs = 0)) ∧
      (running.dmc.lines[(63 : LineIx)]).state = .free ∧ (closing.dmc.lines[(6 : LineIx)]).state = .closing ∧
      (running.dmc.lines[(6 : LineIx)]).state = .active ∧ (running.dmc.lines[(6 : LineIx)]).refs ≠ 0 ∧
      (cleared.dmc.lines[(6 : LineIx)]).refs = 0 ∧ cleared.dmc.scrubber = some 9 ∧ (unused.dmc.lines[(6 : LineIx)]).refs = 0 ∧
      unused.dmc.scrubber = none ∧ 63 < (64 : Byte).toNat ∧ (req [64]).payload = [64] :=
  ⟨fun s h => by rcases h with rfl | rfl | rfl | rfl <;> exact applies _ _ _ rfl rfl, by decide +kernel⟩

/-- Line 6 WAITING with the echo tap on it. -/
def waitingLine : State :=
  { withLine { ring with state := .waiting, pages := [], refs := 1, tag := 9 } with
    dmc := { (withLine { ring with state := .waiting, pages := [], refs := 1, tag := 9 }).dmc with waitList := [6] } }

theorem witness_WaitingLineCloses :
    Applies .lineClose (req [6]) waitingLine ∧ (req [6]).payload = [byteOf (6 : LineIx)] ∧
      (waitingLine.dmc.lines[(6 : LineIx)]).state = .waiting ∧ (∀ j : LineIx, (waitingLine.dmc.lines[j]).state ≠ .closing) ∧
      (waitingLine.taps[(0 : TapIx)]).source = 6 :=
  ⟨applies _ _ _ rfl rfl, by decide +kernel⟩

/-- Each of the three group closes with a WAITING line in its set, and one with an ACTIVE line. -/
theorem witness_GroupClosesCloseTheirSet :
    Applies .lineReleaseTag (req [9]) waitingLine ∧ (req [9]).payload = [9] ∧
      (∀ l : Line, (l.state != .free && l.tag == 9 && !l.keep) = true ↔ l.state ≠ .free ∧ l.tag = 9 ∧ l.keep = false) ∧
      Applies .lineReleaseAll (req []) waitingLine ∧ (∀ l : Line, (l.state != .free) = true ↔ l.state ≠ .free) ∧
      Applies .slotClear (req [1]) running ∧ (req [1]).payload = [byteOf (1 : SlotIx)] ∧
      (∀ l : Line, (l.state != .free && l.slot == 1) = true ↔ l.state ≠ .free ∧ l.slot = 1) ∧
      (waitingLine.dmc.lines[(6 : LineIx)]).tag = 9 ∧ (running.dmc.lines[(6 : LineIx)]).slot = 1 ∧
      (6 : LineIx) ∉ running.dmc.waitList ∧ (waitingLine.taps[(0 : TapIx)]).source = 6 ∧
      (waitingLine.taps[(0 : TapIx)]).state ≠ .unused ∧ (req [8]).payload = [8] ∧ 7 < (8 : Byte).toNat :=
  ⟨applies _ _ _ rfl rfl, rfl, fun l => by simp [and_assoc], applies _ _ _ rfl rfl, fun l => by simp, applies _ _ _ rfl rfl, rfl,
    fun l => by simp, by decide +kernel⟩

/-! ### Taps -/

/-- TEMPO 0/17 clamped to 1/16, to line 6 itself, beyond the feedback ceiling; 4 units left. -/
theorem witness_TapCreateTakesARecord :
    let s : State := { running with ec := { running.ec with budgetUsed := 1596 } }
    Applies .tapCreate (req [1, 6, 1, 6, 1, 0, 17, 0, 0, 15, 255, 255, 127, 255, 1, 255, 255]) s ∧
      (req [1, 6, 1, 6, 1, 0, 17, 0, 0, 15, 255, 255, 127, 255, 1, 255, 255]).payload =
        [1, 6, 1, 6, 1, 0, 17, 0, 0, 15, 255, 255, 127, 255, 1, 255, 255] ∧
      [1, 6] = (Dest.line 6).bytes ∧ 15 = byteOrNone ((some (15 : ModIx)).map Fin.val) ∧ 1 = byteOf RetuneMode.glide.code ∧
      (∀ j : LineIx, j = 6 ∨ Dest.line 6 = .line j →
        ((s.dmc.lines[j]).state = .waiting ∨ (s.dmc.lines[j]).state = .active) ∧ (s.dmc.lines[j]).slot = 1) ∧
      (s.taps[(1 : TapIx)]).state = .unused ∧ (∀ j : TapIx, j < 1 → (s.taps[j]).state ≠ .unused) ∧
      s.ec.budgetUsed + 4 ≤ s.ec.capacity :=
  ⟨applies _ _ _ rfl rfl, by decide +kernel⟩

/-- Each check of TAP_CREATE just beyond its range, and each of its admissions. -/
theorem witness_TapCreateTakesARecord_refused :
    let full : State := { running with taps := Vector.replicate 256 echo }
    let spent : State := { running with ec := { running.ec with budgetUsed := 1597 } }
    (∀ s : State, s = running ∨ s = full ∨ s = spent → ∀ p : List Nat, Applies .tapCreate (req p) s) ∧
      (req [7, 63, 1, 63, 1, 1, 1, 0, 0, 15, 0, 0, 0, 0, 1, 0, 16]).payload =
        [7, 63, 1, 63, 1, 1, 1, 0, 0, 15, 0, 0, 0, 0, 1, 0, 16] ∧
      7 < (8 : Byte).toNat ∧ 63 < (64 : Byte).toNat ∧ 1 < (2 : Byte).toNat ∧ 15 < (16 : Byte).toNat ∧
      [1, 63] = (Dest.line 63).bytes ∧ [0, 15] = (Dest.bus 15).bytes ∧ ¬ ((16 : Byte) = 255 ∨ (16 : Byte).toNat ≤ 15) ∧
      ((15 : Byte) = 255 ∨ (15 : Byte).toNat ≤ 15) ∧ (1 : Byte).toNat ≤ 1 ∧
      ¬ ((running.dmc.lines[(63 : LineIx)]).state = .waiting ∨ (running.dmc.lines[(63 : LineIx)]).state = .active) ∧
      (running.dmc.lines[(6 : LineIx)]).state = .active ∧ (running.dmc.lines[(6 : LineIx)]).slot ≠ 7 ∧
      (∀ j : TapIx, (full.taps[j]).state ≠ .unused) ∧ (spent.taps[(1 : TapIx)]).state = .unused ∧
      spent.ec.capacity < spent.ec.budgetUsed + 4 :=
  ⟨fun s h p => by rcases h with rfl | rfl | rfl <;> exact applies _ _ _ rfl rfl, by decide +kernel⟩

/-- The part with tap 0 given. -/
def withTap (t : Tap) : State := { running with taps := running.taps.set 0 t }

theorem witness_NewTargetsByRetuneState :
    let tap (r : Retune) : Tap := { echo with retune := r }
    let retune (r : Retune) : Retune := ((withTap (tap r)).taps[(0 : TapIx)]).retune
    (running.taps[(0 : TapIx)]).effectiveDestination = 25600 ∧ (running.taps[(0 : TapIx)]).retune = .idle ∧
      (running.taps[(0 : TapIx)]).retuneMode = .fade ∧ ((withTap { echo with retuneMode := .glide }).taps[(0 : TapIx)]).retuneMode =
        .glide ∧
      retune (.fading 512 3 16 (some 768)) = .fading 512 3 16 (some 768) ∧ (tap (.fading 512 3 16 (some 768))).effectiveDestination =
        768 ∧
      retune (.fading 512 3 16 none) = .fading 512 3 16 none ∧ (tap (.fading 512 3 16 none)).effectiveDestination = 512 ∧
      retune (.gliding 5) = .gliding 5 ∧ ({ tap (.gliding 5) with target := 512 } : Tap).effectiveDestination = 512 ∧
      (tap (.gliding 5)).position = 25600 := by decide +kernel

/-- The advance: a fade before and at its end, with and without a pending target, and a glide. -/
theorem witness_NewTargetsByRetuneState_advance :
    let tap (r : Retune) : Tap := { echo with retune := r }
    echo.retune = .idle ∧ (tap (.fading 512 14 16 (some 768))).retune = .fading 512 14 16 (some 768) ∧ 14 + 1 < 16 ∧
      (tap (.fading 512 15 16 none)).retune = .fading 512 15 16 none ∧ 16 ≤ 15 + 1 ∧
      (tap (.fading 512 15 16 (some 768))).retune = .fading 512 15 16 (some 768) ∧ (tap (.gliding 5)).retune = .gliding 5 := by
  decide

/-- Delay kind 2, modulator 16, retune mode 2, each beside a sound part before it. -/
theorem witness_TapSetWritesItsParts_refused :
    (∀ p : List Nat, Applies .tapSet (req p) running) ∧
      (req [0, 15, 2, 0, 0, 0, 0, 16, 0, 0, 0, 0, 2, 0, 16]).payload = [0, 15, 2, 0, 0, 0, 0, 16, 0, 0, 0, 0, 2, 0, 16] ∧
      (0 : TapIx).val = (0 : Byte).toNat ∧ (running.taps[(0 : TapIx)]).state = .live ∧ (15 : Byte).getLsbD 0 = true ∧
      1 < (2 : Byte).toNat ∧ ¬ 1 < (1 : Byte).toNat ∧ (15 : Byte).getLsbD 1 = true ∧ (16 : Byte) ≠ 255 ∧ 15 < (16 : Byte).toNat ∧
      ¬ 15 < (15 : Byte).toNat ∧ (15 : Byte).getLsbD 3 = true :=
  ⟨fun _ => applies _ _ _ rfl rfl, by decide +kernel⟩

theorem witness_TapSetWritesItsParts :
    Applies .tapSet (req [0, 15, 1, 16, 1, 0, 0, 255, 0, 0, 127, 255, 0, 0, 15]) running ∧
      (req [0, 15, 1, 16, 1, 0, 0, 255, 0, 0, 127, 255, 0, 0, 15]).payload =
        [0, 15, 1, 16, 1, 0, 0, byteOrNone ((none : Option ModIx).map Fin.val), 0, 0, 127, 255, byteOf RetuneMode.fade.code, 0, 15] ∧
      (0 : TapIx).val = (0 : Byte).toNat ∧ (running.taps[(0 : TapIx)]).state = .live ∧
      Applies .tapSet (req [255, 15, 1, 16, 1, 0, 0, 255, 0, 0, 127, 255, 0, 0, 15]) running ∧
      (running.taps[(255 : TapIx)]).state ≠ .live :=
  ⟨applies _ _ _ rfl rfl, by decide, rfl, by decide +kernel, applies _ _ _ rfl rfl, by decide +kernel⟩

theorem witness_TapFillReachesItsTaps :
    (∀ p : List Nat, Applies .tapFill (req p) running) ∧ (req [1, 250, 0, 3, 0, 0, 0, 0]).payload = [1, 250, 0, 3, 0, 0, 0, 0] ∧
      (1 : SlotIx).val = (1 : Byte).toNat ∧ (250 : TapIx).val = (250 : Byte).toNat ∧ (0 : TapIx).val = (0 : Byte).toNat ∧
      2 < (3 : Byte).toNat ∧ 7 < (8 : Byte).toNat :=
  ⟨fun _ => applies _ _ _ rfl rfl, by decide⟩

theorem witness_TapFreeReleases :
    let s : State := withTap { echo with state := .releasing }
    Applies .tapFree (req [0]) running ∧ (req [0]).payload = [byteOf (0 : TapIx)] ∧ (running.taps[(0 : TapIx)]).state = .live ∧
      Applies .tapFree (req [0]) s ∧ (s.taps[(0 : TapIx)]).state = .releasing ∧ Applies .tapFree (req [255]) running ∧
      (req [255]).payload = [byteOf (255 : TapIx)] ∧ (running.taps[(255 : TapIx)]).state = .unused :=
  ⟨applies _ _ _ rfl rfl, rfl, by decide +kernel, applies _ _ _ rfl rfl, by decide +kernel, applies _ _ _ rfl rfl, by decide,
    by decide +kernel⟩

/-! ### Modulators, tempo, slots, recall -/

/-- An advance to the last phase and one that wraps; the phase below 2^32. -/
theorem witness_ModulatorRequests_advance :
    4294967294 + 1 < 2 ^ 32 ∧ 2 ^ 32 ≤ 4294967295 + 1 ∧ (Modulator.resetValue 15).phase < 2 ^ 32 ∧
      -32766 ≤ (Modulator.resetValue 15).randomCurrent ∧ (Modulator.resetValue 15).randomPrevious ≤ 32766 := by decide

/-- Modulators 15 and 16, shapes 4 and 5, the greatest rate, a lock beside a rate. -/
theorem witness_ModulatorRequests :
    (∀ p : List Nat, Applies .modSet (req p) running ∧ Applies .modSync (req p) running) ∧
      (req [15, 15, 4, 0, 31, 255, 255, 0, 17, 1]).payload = [15, 15, byteOf Shape.randomSmooth.code, 0, 31, 255, 255, 0, 17,
        flagByte true] ∧
      15 < (16 : Byte).toNat ∧ (15 : ModIx).val = (15 : Byte).toNat ∧ (15 : Byte).getLsbD 0 = true ∧ 4 < (5 : Byte).toNat ∧
      (15 : Byte).getLsbD 3 = true ∧ (2 : Byte) ≠ 0 ∧ (2 : Byte) ≠ 1 ∧ (15 : Byte).getLsbD 1 = true ∧ (15 : Byte).getLsbD 2 = true ∧
      (1 : Byte) ≠ 0 ∧ (req [16]).payload = [16] :=
  ⟨fun _ => ⟨applies _ _ _ rfl rfl, applies _ _ _ rfl rfl⟩, by decide⟩

theorem witness_TempoChangesReachTapsAndLocks :
    Applies .tempoSet (req [0, 0, 0x25, 0x7F]) running ∧ (req [0, 0, 0x25, 0x7F]).payload = [0, 0, 0x25, 0x7F] ∧
      9599 ≠ synced.mu.tempo ∧ ((synced.mu.mods[(2 : ModIx)]).lock).isSome = true :=
  ⟨applies _ _ _ rfl rfl, rfl, by decide, by decide +kernel⟩

/-- Intervals of 4,799 and 4,800, a full list, and the frames on either side of the expiry. -/
theorem witness_BeatByTrackerState :
    let full : State := { tapped 172700 with mu := { (tapped 172700).mu with
      tracker := { (tapped 172700).mu.tracker with intervals := [22500, 22800, 22600, 22800] } } }
    Applies .beat (req []) running ∧ running.mu.tracker.state = .idle ∧ Applies .beat (req []) (tapped 172699) ∧
      (tapped 172699).mu.tracker.state ≠ .idle ∧ (tapped 172699).mu.tracker.lastMark = some 167900 ∧
      ((172699 : Word32) - 167900).toNat < running.ec.fs / 10 ∧ Applies .beat (req []) full ∧ full.mu.tracker.state ≠ .idle ∧
      full.mu.tracker.lastMark = some 167900 ∧ full.ec.fs / 10 ≤ (full.ec.counter - 167900).toNat ∧
      full.mu.tracker.intervals.length ≤ 4 ∧
      ((263900 : Word32) - (167900 + BitVec.ofNat 32 (2 * 48000))).toNat < 2 ^ 31 ∧
      2 ^ 31 ≤ ((263899 : Word32) - (167900 + BitVec.ofNat 32 (2 * 48000))).toNat :=
  ⟨applies _ _ _ rfl rfl, rfl, applies _ _ _ rfl rfl, by decide, rfl, by decide, applies _ _ _ rfl rfl, by decide, rfl, by decide⟩

theorem witness_SlotRequests :
    (∀ p : List Nat, Applies .slotSet (req p) running ∧ Applies .slotGet (req p) running) ∧
      (req [7, 15, 0x40, 1, 0, 1, 0]).payload = [7, 15, 0x40, 1, flagByte false, flagByte true, 0] ∧ 7 < (8 : Byte).toNat ∧
      (7 : SlotIx).val = (7 : Byte).toNat ∧ (15 : Byte).getLsbD 1 = true ∧ (15 : Byte).getLsbD 2 = true ∧ (2 : Byte) ≠ 0 ∧
      (2 : Byte) ≠ 1 ∧ (req [7, 1]).payload = [7, flagByte true] :=
  ⟨fun _ => ⟨applies _ _ _ rfl rfl, applies _ _ _ rfl rfl⟩, by decide⟩

/-- A stageable kind, one that is refused, a pool without a free entry and with one, a staged safe part. -/
theorem witness_StagedRequestsWaitAsEntries :
    let full : State := { running with sru := { running.sru with staging := List.replicate 256 (.tempoSet 30000) } }
    let last : State := { running with sru := { running.sru with staging := List.replicate 255 (.tempoSet 30000) } }
    Stages .tempoSet (stagedReq [0, 0, 117, 48]) full ∧ Stages .tempoSet (stagedReq [0, 0, 117, 48]) last ∧
      Kind.tempoSet.stageable = true ∧ full.link.rx = [] ∧ last.link.rx = [] ∧ full.sru.freeEntries = 0 ∧ last.sru.freeEntries ≠ 0 ∧
      Stages .tapSet (stagedReq [1, 4, 0, 0, 0, 0, 0, 0, 0, 0, 0, 0, 0, 0, 0]) running ∧ Kind.tapSet.stageable = true ∧
      Stages .slotSet (stagedReq [0, 4, 0, 0, 0, 1, 0]) running ∧ (stagedReq [0, 4, 0, 0, 0, 1, 0]).payload = [0, 4, 0, 0, 0, 1, 0] ∧
      (4 : Byte).getLsbD 2 = true ∧ (2 : Byte).getLsbD 2 = false :=
  ⟨stages _ _ _ rfl rfl, stages _ _ _ rfl rfl, rfl, rfl, rfl, by decide +kernel, by decide +kernel, stages _ _ _ rfl rfl, rfl,
    stages _ _ _ rfl rfl, rfl, rfl, rfl⟩

theorem witness_CommitsAndDiscards :
    let stopped : State := { scheduled with ec := (inState .stopped).ec }
    (∀ p : List Nat, Applies .commit (req p) scheduled ∧ Applies .commit (req p) stopped ∧ Applies .commit (req p) running ∧
      Applies .discard (req p) scheduled ∧ Applies .schedCancel (req p) scheduled) ∧
      (req [0, 0, 0, 0, 0]).payload = [0, 0, 0, 0, 0] ∧ (2 : Byte) ≠ 0 ∧ (2 : Byte) ≠ 1 ∧ scheduled.ec.engine = .running ∧
      scheduled.sru.staging ≠ [] ∧ running.sru.staging = [] ∧ stopped.ec.engine = .stopped ∧ 7 < (8 : Byte).toNat ∧
      (7 : Byte).toNat ≤ 7 ∧ (∀ a ∈ scheduled.sru.queue, a.handle.val ≠ (7 : Byte).toNat) ∧
      scheduled.sru.queue = [] ++ { handle := 0, frame := 1100, isDue := false, entries := [.tempoSet 20000] } :: [] ∧
      (0 : Handle).val = (0 : Byte).toNat :=
  ⟨fun _ => ⟨applies _ _ _ rfl rfl, applies _ _ _ rfl rfl, applies _ _ _ rfl rfl, applies _ _ _ rfl rfl, applies _ _ _ rfl rfl⟩,
    by decide⟩

/-- Seven actions with handle 7 free, and eight. -/
theorem witness_CommitAtSchedulesAnAction :
    let action (h : Handle) : Action := { handle := h, frame := 1100, isDue := false, entries := [.tempoSet 20000] }
    let seven : State := { scheduled with sru := { scheduled.sru with queue := [0, 1, 2, 3, 4, 5, 6].map action } }
    let eight : State := { scheduled with sru := { scheduled.sru with queue := [0, 1, 2, 3, 4, 5, 6, 7].map action } }
    Applies .commit (req [1, 0, 0, 4, 0x4C]) running ∧ running.sru.staging = [] ∧ Applies .commit (req [1, 0, 0, 4, 0x4C]) eight ∧
      eight.sru.staging ≠ [] ∧ 8 ≤ eight.sru.queue.length ∧ Applies .commit (req [1, 0, 0, 4, 0x4C]) seven ∧
      seven.sru.staging ≠ [] ∧ seven.sru.queue.length < 8 ∧ (∀ a ∈ seven.sru.queue, a.handle ≠ 7) ∧
      (∀ g : Handle, g < 7 → ∃ a ∈ seven.sru.queue, a.handle = g) ∧ (req [1, 0, 0, 4, 0x4C]).payload = [1, 0, 0, 4, 0x4C] :=
  ⟨applies _ _ _ rfl rfl, rfl, applies _ _ _ rfl rfl, by decide, by decide, applies _ _ _ rfl rfl, by decide, by decide, by decide,
    by decide, rfl⟩

theorem witness_EntriesAreHandledInOrder :
    let parts : TapParts := { spec := none, modulator := none, gain := some 5, retune := none }
    let safe : State := running.mapSlot 1 fun r => { r with safe := true }
    let action (f : Word32) : Action := { handle := 0, frame := f, isDue := true, entries := [] }
    (Entry.tapSet 0 parts 1).slot = some 1 ∧ (safe.sru.slots[(1 : SlotIx)]).safe = true ∧
      (running.sru.slots[(1 : SlotIx)]).safe = false ∧ (Entry.tapSet 1 parts 1).isStale running = true ∧
      (Entry.tapSet 0 parts 1).isStale running = false ∧ running.ec.counter = (action 1000).frame ∧
      running.ec.counter ≠ (action 999).frame ∧
      ([Entry.tapSet 1 parts 1].foldl handleEntry (running, { applied := 0, skipped := 0, stale := 0 })).2.stale ≠ 0 ∧
      ([Entry.tapSet 0 parts 1].foldl handleEntry (running, { applied := 0, skipped := 0, stale := 0 })).2.stale = 0 := by
  decide +kernel

/-! ### Reporting and the link -/

theorem witness_ReportingRequests :
    (∀ p : List Nat, Applies .condEnable (req p) running ∧ Applies .alertRelease (req p) running ∧
      Applies .alertRelease (req p) repeated ∧ Applies .probeSet (req p) running ∧ Applies .probeGet (req p) running ∧
      Applies .countersGet (req p) running) ∧
      running.cu.latch = false ∧ repeated.cu.latch = true ∧ 3 < (4 : Byte).toNat ∧ 63 < (64 : Byte).toNat ∧ 15 < (16 : Byte).toNat ∧
      [3, 15] = (Point.bus 15).bytes ∧ [2, 63] = (Point.line 63).bytes ∧ [1, 255] = (Point.tap 255).bytes ∧ (3 : Byte) ≠ 0 ∧
      (2 : Byte) ≠ 1 ∧ (req [3, 15, 0, 0x80, 0, 1]).payload = [3, 15, 0, 0x80, 0, 1] ∧ (req [127, 255]).payload = [127, 255] :=
  ⟨fun _ => ⟨applies _ _ _ rfl rfl, applies _ _ _ rfl rfl, applies _ _ _ rfl rfl, applies _ _ _ rfl rfl, applies _ _ _ rfl rfl,
    applies _ _ _ rfl rfl⟩, by decide⟩

/-- Lengths 1,027 and 1,028, 3 and 2; a frame that is whole and one byte short; its check right and wrong; an escape that waits. -/
theorem witness_ReceiverByCharacter :
    State.reset.link.receiver = .hunt ∧ (∀ b : List Byte, (collecting b).link.receiver = .collect b false false) ∧
      (0x41 : Byte) ≠ 0xF4 ∧ (0x41 : Byte) ≠ 0xF5 ∧ natOf [4, 3] = 1027 ∧ 1027 < natOf [4, 4] ∧ natOf [0, 3] = 3 ∧ natOf [0, 2] < 3 ∧
      2 + natOf [0, 3] + 2 < [0, 3, 1, 2, 0, 0, 6, (0 : Byte)].length ∧ [0, 3, 1, 2, 0, (0 : Byte)].length < 2 + natOf [0, 3] + 2 ∧
      2 + natOf [0, 3] + 2 ≤ [0, 3, 1, 2, 0, 0, (6 : Byte)].length ∧
      natOf [0, 6] = (([0, 3, 1, 2, 0] : List Byte).map BitVec.toNat).sum % 65536 ∧
      natOf [0, 7] ≠ (([0, 3, 1, 2, 0] : List Byte).map BitVec.toNat).sum % 65536 ∧
      ([0, 3, 1, 2, 0] : List Byte).drop 2 = 1 :: 2 :: 0 :: [] :=
  ⟨rfl, fun _ => rfl, by decide⟩

theorem witness_WireRoundTrip :
    let f : Frame := { kind := 0x33, tag := 7, disposition := 0, payload := [245] }
    let s : State := { running with link := { running.link with rx := List.replicate 3 f } }
    (Instr.tapFree (req [245])).wellFormed = true ∧ encodeFrame (.tapFree (req [245])) = some f ∧ s.link.receiver = .hunt ∧
      s.link.rx.length < 4 := by decide

/-! ### The frame -/

/-- Entry 31 of 32, and each of the outputs of R9. -/
theorem witness_FrameBoundaryBeginsTheFrame :
    let port (e : EngineState) (drive bypass : Bool) (m : MapEntry) : Port := { Port.resetValue with
      inUse := Vector.replicate 32 m, latch := { engine := e, drive := drive, bypass := bypass, haltAction := .mute } }
    let undriven (p : Port) : Prop :=
      p.latch.engine.portsOperate = false ∨ p.latch.drive = false ∨ (p.inUse[(31 : EntryIx)]).mode = .released
    let bypassed (p : Port) : Prop := p.latch.bypass = true ∨ p.latch.engine = .halted ∧ p.latch.haltAction = .bypass
    running.fe.computation = none ∧ InSample (-8388608) ∧ (31 : EntryIx).val < 32 ∧ undriven (port .running false false MapEntry.resetValue) ∧
      ¬ undriven (port .running true true MapEntry.resetValue) ∧ bypassed (port .running true true MapEntry.resetValue) ∧
      ∀ m : MapEntry, m = { mode := .ret, source := (15 : BusIx).val } ∨ m = { mode := .mute, source := 0 } ∨
        m = { mode := .pattern, source := 0 } ∨ m = { mode := .directFast, source := 31 } ∨
        m = { mode := .directAligned, source := 31 } ∨ m = { mode := .fixed, source := 5 } →
        ¬ undriven (port .running true false m) ∧ ¬ bypassed (port .running true false m) ∧
          ¬ undriven (port .halted true false m) ∧ ¬ bypassed (port .halted true false m) :=
  ⟨rfl, by unfold InSample; decide, by decide, Or.inr (.inl rfl), by decide +kernel, .inl rfl,
    fun m h => by rcases h with rfl | rfl | rfl | rfl | rfl | rfl <;> decide +kernel⟩

theorem witness_ComputationWritesItsResults :
    running.fe.computation = none ∧ busy.fe.computation = some computation ∧ busy.dmc.memory.wf ∧
      (computation.view.lines[(6 : LineIx)]).state = .active ∧ computation.written.lineLeft[(6 : LineIx)] = false ∧
      (computation.view.lines[(6 : LineIx)]).address 10 = some 10 ∧ (computation.view.taps[(0 : TapIx)]).state ≠ .unused ∧
      computation.written.tapLeft[(0 : TapIx)] = false ∧ (computation.view.taps[(1 : TapIx)]).state = .unused := by
  decide +kernel

theorem witness_TapsAreReadAndScaled :
    let v := computation.view
    let fading : Computation :=
      { computation with view := { v with taps := v.taps.set 0 { echo with retune := .fading 512 3 16 none } } }
    (v.taps[(0 : TapIx)]).state ≠ .unused ∧ (v.lines[(v.taps[(0 : TapIx)]).source]).state = .active ∧
      computation.written.lineLeft[(v.taps[(0 : TapIx)]).source] = false ∧ (v.taps[(0 : TapIx)]).retune = .idle ∧
      (v.taps[(1 : TapIx)]).state = .unused ∧ (fading.view.taps[(0 : TapIx)]).retune = .fading 512 3 16 none := by decide +kernel

theorem witness_PageClearsServeTheWaitList :
    let last : State := { waitingPool with dmc := { waitingPool.dmc with dirty := [] } }
    let initial : State := { inState .initializing with dmc := last.dmc }
    let head (P : Nat) : State := { waitingLine with dmc := { waitingLine.dmc with
      clean := [40, 41], lines := waitingLine.dmc.lines.set 6 { ring with state := .waiting, pageCount := P } } }
    waitingPool.dmc.scrubber = some 10 ∧ waitingPool.ec.engine ≠ .unconfigured ∧ waitingPool.dmc.dirty = 11 :: [12, 13] ∧
      last.dmc.dirty = [] ∧ last.ec.engine ≠ .initializing ∧ initial.dmc.scrubber = some 10 ∧ initial.dmc.dirty = [] ∧
      initial.ec.engine = .initializing ∧ initial.ec.rate = some .r48 ∧ waitingPool.dmc.waitList = [] ∧
      (head 3).dmc.waitList = 6 :: [] ∧ (head 3).dmc.clean.length < ((head 3).dmc.lines[(6 : LineIx)]).pageCount ∧
      ((head 2).dmc.lines[(6 : LineIx)]).pageCount ≤ (head 2).dmc.clean.length := by decide +kernel

/-- Slots 31 and 32, three and four exact or bad words, five and six wrong bits. -/
theorem witness_InputSlotsAndTheChecker :
    State.reset.port.latch.engine.portsOperate = false ∧ running.ec.timeSlots ≤ 32 ∧
      running.port.latch.engine.portsOperate = true ∧ running.ec.engine.portsOperate = true ∧ 31 < running.ec.timeSlots ∧
      running.port.checker.slot ≠ some 31 ∧
      (run (.checkSet (req [31])) running).port.checker.slot = some 31 ∧
      (run (.checkSet (req [31])) running).port.checker.justSet = true ∧
      (run (.checkSet (req [31])) running).port.checker.state = .seeking ∧
      (run (.checkSet (req [31])) running).port.checker.reference = none ∧
      bitsDiffering (patternWordOf 1) (patternWordOf 1 ^^^ 31) = 5 ∧ bitsDiffering (patternWordOf 1) (patternWordOf 1 ^^^ 63) = 6 ∧
      patternWordOf 1 ≠ patternWordOf 1 ^^^ 63 := by decide +kernel

theorem witness_RateAndClockEvents :
    let s : State := { running with ec := { running.ec with span := some 4096 } }
    s.ec.rate = some .r48 ∧ s.ec.span = some 4096 ∧ 64000 ≤ 64000 ∧ ¬ 64000 ≤ 63999 ∧ ¬ 64000 < 64000 ∧
      running96.ec.rate = some .r96 ∧ s.ec.engine = .running ∧ running.ec.span ≠ some 4096 ∧
      running.ec.engine.portsOperate = true ∧ State.reset.ec.engine.portsOperate = false ∧ running.ec.clockTimer = true ∧
      State.reset.ec.engine.computes = false ∧ rateHalted.ec.engine = .halted ∧ rateHalted.ec.reasons.rate = true := by decide

theorem witness_SequenceStep : (1 : SeqState) ≠ 0 ∧ (0x7FFF : SeqState) ≠ 0 ∧ 0 < 32766 ∧ 32766 < 32767 := by decide

theorem witness_FeedbackGain :
    let v (g : Int) : View :=
      { computation.view with
        taps := computation.view.taps.set 0 { echo with dest := .line 6, gain := g }
        slots := computation.view.slots.set 1 { Slot.resetValue with runaway := 2 } }
    ((v 12288).taps[(0 : TapIx)]).dest = .line 6 ∧ ((v 12288).taps[(0 : TapIx)]).gain = 12288 ∧
      ((v 12288).slots[((v 12288).taps[(0 : TapIx)]).slot]).runaway = 2 ∧ ((v (-12287)).taps[(0 : TapIx)]).gain = -12287 ∧
      ((v (-16000)).taps[(0 : TapIx)]).gain = -16000 := by decide +kernel

/-- The least and the greatest read position of a line of 8,192 samples; the delays 1 and L; a damaged and a sound sample. -/
theorem witness_InterpolatedRead :
    let m : Memory := [(9, { value := 700, damage := some .uncorrectable })]
    InSample (-8388608) ∧ InSample 8388607 ∧ 256 ≤ 256 ∧ 2096896 ≤ (ring.length - 1) * 256 ∧ ring.w < ring.length ∧
      1 ≤ ring.length ∧ (ring.w + ring.length - 1) % ring.length = 9 ∧ ring.pages[9 / 4096]? = some 0 ∧
      (m.read ((0 : Page).val * 4096 + 9 % 4096)).damage = some .uncorrectable ∧
      (ring.w + ring.length - ring.length) % ring.length = 10 ∧ ring.pages[10 / 4096]? = some 0 ∧
      (m.read ((0 : Page).val * 4096 + 10 % 4096)).damage ≠ some .uncorrectable := by
  simp only [InSample]; decide

end Sys2Proof.Tests
end

section
/-! SUPPORT. What one step can do, said once: a request is taken, judged by its owner and answered, or an event takes place; and the
induction over that. -/

namespace Sys2Proof.Machine

/-! ## A request and its owner -/

/-- The owner of a kind: the checks and effects of its own (R175, test 6). COMMIT NOW and COMMIT AT have one. -/
def ownerOf : Kind → Bool → List Byte → State → Verdict
  | .status => ownStatus
  | .init => ownInit
  | .start => ownStart
  | .stop => ownStop
  | .halt => ownHalt
  | .resume => ownResume
  | .reset => ownReset
  | .timeGet => ownTimeGet
  | .portDrive => ownPortDrive
  | .portBypass => ownPortBypass
  | .outmapSet => ownOutmapSet
  | .outmapFill => ownOutmapFill
  | .outmapGet => ownOutmapGet
  | .checkSet => ownCheckSet
  | .checkRead => ownCheckRead
  | .checkClear => ownCheckClear
  | .lineOpen => ownLineOpen
  | .lineSet => ownLineSet
  | .lineClose => ownLineClose
  | .lineReleaseTag => ownLineReleaseTag
  | .lineReleaseAll => ownLineReleaseAll
  | .lineGet => ownLineGet
  | .poolGet => ownPoolGet
  | .tapCreate => ownTapCreate
  | .tapSet => ownTapSet
  | .tapFill => ownTapFill
  | .tapFree => ownTapFree
  | .tapGet => ownTapGet
  | .modSet => ownModSet
  | .modSync => ownModSync
  | .modGet => ownModGet
  | .tempoSet => ownTempoSet
  | .beat => ownBeat
  | .tempoGet => ownTempoGet
  | .slotSet => ownSlotSet
  | .slotClear => ownSlotClear
  | .slotGet => ownSlotGet
  | .commit => ownCommit
  | .discard => ownDiscard
  | .schedCancel => ownSchedCancel
  | .schedGet => ownSchedGet
  | .condEnable => ownCondEnable
  | .condGet => ownCondGet
  | .alertRelease => ownAlertRelease
  | .probeSet => ownProbeSet
  | .probeGet => ownProbeGet
  | .countersGet => ownCountersGet

/-- A command is a request of a known kind, which its owner judges; a request of an unknown kind; or an event. -/
theorem exec_cases (c : Instr) (s : State) :
    (∃ k r, exec c s = .next (s.take k r (ownerOf k))) ∨ (∃ b r, c = .unknownKindRequest b r) ∨ kindAndRequest c = none :=
  match c with
  | .status _ | .init _ | .start _ | .stop _ | .halt _ | .resume _ | .reset _ | .timeGet _ | .portDrive _ | .portBypass _
  | .outmapSet _ | .outmapFill _ | .outmapGet _ | .checkSet _ | .checkRead _ | .checkClear _ | .lineOpen _ | .lineSet _
  | .lineClose _ | .lineReleaseTag _ | .lineReleaseAll _ | .lineGet _ | .poolGet _ | .tapCreate _ | .tapSet _ | .tapFill _
  | .tapFree _ | .tapGet _ | .modSet _ | .modSync _ | .modGet _ | .tempoSet _ | .beat _ | .tempoGet _ | .slotSet _
  | .slotClear _ | .slotGet _ | .commitNow _ | .commitAt _ | .discard _ | .schedCancel _ | .schedGet _ | .condEnable _
  | .condGet _ | .alertRelease _ | .probeSet _ | .probeGet _ | .countersGet _ => .inl ⟨_, _, rfl⟩
  | .unknownKindRequest b r => .inr (.inl ⟨b, r, rfl⟩)
  | .resetTake | .powerOnReset | .frameClose _ | .frameTransmitDone | .frameBoundary | .frameComputationComplete _
  | .pageClearComplete | .inputSlotReceived _ _ _ | .rateMeasurementComplete _ | .rateMeasurementLoss | .clockLost
  | .trackerTimeout | .characterReceived _ _ => .inr (.inr rfl)

/-- The state that a verdict leaves, if it is not a refusal, has a property. -/
def Verdict.Leaves (P : State → Prop) : Verdict → Prop
  | .refuse _ => True
  | .done t _ _ => P t

@[simp] theorem Verdict.leaves_refuse (P : State → Prop) (st : Status) : (Verdict.refuse st).Leaves P := trivial

@[simp] theorem Verdict.leaves_done (P : State → Prop) (t : State) (st : Status) (p : List Byte) :
    (Verdict.done t st p).Leaves P ↔ P t := Iff.rfl

/-! ## The tables -/

/-- The state without the link, the conditions, the choice counter and the waiting commands. -/
def State.tables (s : State) : Engine × Port × Dmc × Vector Tap 256 × ModUnit × FrameEngine × Sru :=
  (s.ec, s.port, s.dmc, s.taps, s.mu, s.fe, s.sru)

@[simp] theorem State.send_tables (s : State) (f : TxFrame) : (s.send f).tables = s.tables := rfl

@[simp] theorem State.alertTest_tables (s : State) : s.alertTest.tables = s.tables := by simp [State.tables]

@[simp] theorem State.raiseAt_tables (s : State) (n : Word32) (d : Detail) : (s.raiseAt n d).tables = s.tables := by
  simp [State.tables]

@[simp] theorem State.raise_tables (s : State) (d : Detail) : (s.raise d).tables = s.tables := by simp [State.tables]

@[simp] theorem State.receiveCharacter_tables (s : State) (b : Byte) (l : Bool) : (s.receiveCharacter b l).tables = s.tables := by
  simp [State.tables]

@[simp] theorem State.placeReply_tables (f : TxFrame) (s t : State) : (State.placeReply f s t).tables = t.tables := by
  unfold State.placeReply; dsimp only; split <;> rfl

/-- Taking a request out of the receive queue leaves the tables alone (R174). -/
theorem State.takeFrame_tables {f : Frame} {s t : State} (h : s.takeFrame f = some t) : t.tables = s.tables := by
  unfold State.takeFrame at h
  split at h
  · cases h
  · split at h
    · cases h; rfl
    · split at h
      · cases h; rfl
      · cases h

/-- A judged request is refused, or its owner decides (R175). -/
theorem judge_leaves {P : State → Prop} (k : Kind) (r : Request) (owner : Bool → List Byte → State → Verdict) (s : State)
    (h : (owner (r.disposition == 1) r.payload s).Leaves P) : (judge k r owner s).Leaves P := by
  unfold judge
  (repeat' split) <;> first | exact h | trivial

/-! ## The induction over steps -/

/-- A property of the tables that every owner and every event keeps. The effects of FRAME_BOUNDARY stand in their order. -/
structure KeptByTables (P : State → Prop) : Prop where
  frame       : ∀ {s t : State}, t.tables = s.tables → P s → P t
  owner       : ∀ (k : Kind) (staged : Bool) (p : List Byte) (s : State), P s → (ownerOf k staged p s).Leaves P
  reset       : ∀ s : State, P s → P s.resetBlocks
  completion  : ∀ (l : List Strike) (s : State), P s → P (s.completeComputation l)
  boundary    : ∀ s : State, P s → P { s with port := s.port.boundary s.ec, ec := s.ec.boundary }
  schedule    : ∀ s : State, P s → P s.testSchedule
  clockBack   : ∀ s : State, P s → P s.clockBack
  computation : ∀ s : State, P s → P s.beginComputation
  clear       : ∀ (s t : State), P s → execPageClearComplete s = .next t → P t
  input       : ∀ (n : Nat) (w : Word24) (fresh : Bool) (s t : State), P s → execInputSlotReceived n w fresh s = .next t → P t
  measured    : ∀ (n : Nat) (s t : State), P s → execRateMeasurementComplete n s = .next t → P t
  lost        : ∀ (s t : State), P s → execRateMeasurementLoss s = .next t ∨ execClockLost s = .next t → P t
  timeout     : ∀ (s t : State), P s → execTrackerTimeout s = .next t → P t

variable {P : State → Prop}

/-- A taken request keeps what its owner keeps. -/
theorem KeptByTables.take (hP : KeptByTables P) (k : Kind) (r : Request) {s : State} (h : P s) : P (s.take k r (ownerOf k)) := by
  unfold State.take
  split
  · exact h
  · rename_i s1 hs1
    have h1 : P s1 := hP.frame (State.takeFrame_tables hs1) h
    have h2 := judge_leaves k r (ownerOf k) s1 (hP.owner k _ _ s1 h1)
    unfold State.conclude
    split
    · exact hP.frame (State.send_tables _ _) h1
    · rename_i hv
      rw [hv] at h2
      exact hP.frame (State.placeReply_tables _ _ _) h2

/-- FRAME_BOUNDARY, effect by effect. -/
theorem KeptByTables.frameBoundary (hP : KeptByTables P) {s t : State} (h : P s) (ht : execFrameBoundary s = .next t) : P t := by
  obtain rfl := Host.Outcome.next.inj ht
  have h1 := hP.boundary _ (hP.completion [] s h)
  dsimp only
  split <;> split
  · exact hP.computation _ (hP.clockBack _ (hP.schedule _ h1))
  · exact hP.computation _ (hP.clockBack _ h1)
  · exact hP.clockBack _ (hP.schedule _ h1)
  · exact hP.clockBack _ h1

/-- A request of an unknown kind writes the link alone. -/
theorem execUnknownKindRequest_tables {b : Byte} {r : Request} {s t : State} (ht : execUnknownKindRequest b r s = .next t) :
    t.tables = s.tables := by
  obtain rfl := Host.Outcome.next.inj ht
  split
  · rfl
  · split
    · rfl
    · rename_i h; exact (State.send_tables _ _).trans (State.takeFrame_tables h)

/-- The end of a frame's transmission writes the link alone. -/
theorem execFrameTransmitDone_tables {s t : State} (ht : execFrameTransmitDone s = .next t) : t.tables = s.tables := by
  obtain rfl := Host.Outcome.next.inj ht
  (repeat' split) <;> rfl

/-- Every event keeps the property. -/
theorem KeptByTables.event (hP : KeptByTables P) {c : Instr} {s t : State} (hc : kindAndRequest c = none) (h : P s)
    (ht : exec c s = .next t) : P t := by
  cases c with
  | resetTake =>
    obtain rfl := Host.Outcome.next.inj ht
    split
    · exact hP.reset s h
    · exact h
  | powerOnReset => obtain rfl := Host.Outcome.next.inj ht; exact hP.reset s h
  | frameClose l => obtain rfl := Host.Outcome.next.inj ht; exact hP.frame (State.receiveCharacter_tables _ _ _) h
  | characterReceived b l => obtain rfl := Host.Outcome.next.inj ht; exact hP.frame (State.receiveCharacter_tables _ _ _) h
  | frameTransmitDone => exact hP.frame (execFrameTransmitDone_tables ht) h
  | frameBoundary => exact hP.frameBoundary h ht
  | frameComputationComplete l => obtain rfl := Host.Outcome.next.inj ht; exact hP.completion l s h
  | pageClearComplete => exact hP.clear s t h ht
  | inputSlotReceived n w fresh => exact hP.input n w fresh s t h ht
  | rateMeasurementComplete n => exact hP.measured n s t h ht
  | rateMeasurementLoss => exact hP.lost s t h (.inl ht)
  | clockLost => exact hP.lost s t h (.inr ht)
  | trackerTimeout => exact hP.timeout s t h ht
  | _ => cases hc

/-- Every command keeps the property. -/
theorem KeptByTables.exec (hP : KeptByTables P) {c : Instr} {s t : State} (h : P s) (ht : exec c s = .next t) : P t := by
  obtain ⟨k, r, he⟩ | ⟨b, r, rfl⟩ | hc := exec_cases c s
  · obtain rfl := Host.Outcome.next.inj (he.symm.trans ht)
    exact hP.take k r h
  · exact hP.frame (execUnknownKindRequest_tables ht) h
  · exact hP.event hc h ht

/-- Every step keeps the property. -/
theorem KeptByTables.step (hP : KeptByTables P) {s t : State} (h : P s) (ht : step s = .next t) : P t := by
  unfold Machine.step at ht
  split at ht
  · cases ht; exact h
  · rename_i rest _
    exact hP.exec (hP.frame (s := s) (t := { s with pending := rest }) rfl h) ht

end Sys2Proof.Machine
end

section
/-! SUPPORT. The sample range (R1, R9, R35, R101, R102): the operations that write no sample, those that write line records, and
the frame computation. -/

namespace Sys2Proof.Machine

/-! ## Numbers in the sample range -/

theorem inSample_clampSample (v : Int) : InSample (clampSample v) := clampInt_mem (by decide) v

theorem inSample_zero : InSample 0 := by unfold InSample; decide

theorem inSample_toInt (w : Word24) : InSample w.toInt := by
  have h1 := w.le_toInt
  have h2 := w.toInt_lt
  unfold InSample; omega

/-- Damping lies between its two arguments, so a sample stays a sample (R101). -/
theorem inSample_damp {v p : Int} {d : Nat} (hv : InSample v) (hp : InSample p) (hd : d ≤ 65535) : InSample (damp v p d) := by
  have hd' : (d : Int) ≤ 65535 := by exact_mod_cast hd
  have hd0 : (0 : Int) ≤ d := Int.natCast_nonneg d
  unfold InSample damp at *
  rcases le_total p v with h | h
  · have hlo : 0 ≤ (v - p) * d := mul_nonneg (by omega) hd0
    have hhi : (v - p) * d ≤ (v - p) * 65535 := mul_le_mul_of_nonneg_left hd' (by omega)
    generalize (v - p) * (d : Int) = x at hlo hhi
    omega
  · have hlo : (v - p) * d ≤ 0 := mul_nonpos_of_nonpos_of_nonneg (by omega) hd0
    have hhi : (v - p) * 65535 ≤ (v - p) * d := mul_le_mul_of_nonpos_left hd' (by omega)
    generalize (v - p) * (d : Int) = x at hlo hhi
    omega

/-- The 8 bit periods behind a sample carry 0 (R1). -/
theorem slotWord_setWidth (v : Int) : (slotWord v).setWidth 8 = 0 := by
  unfold slotWord
  exact (BitVec.setWidth_append (k := 8)).trans (by simp)

theorem allSamples_replicate_zero (n : Nat) : AllSamples (List.replicate n 0) := fun v hv => by
  rw [List.eq_of_mem_replicate hv]; exact inSample_zero

/-! ## What carries samples -/

/-- The parts of the port unit that the sample range is about. -/
def Port.sampled (p : Port) : List Int × List Int × List Int × Vector Int 16 × Vector Int 16 × Vector MapEntry 32 ×
    Vector MapEntry 32 × List (Option SlotWord) :=
  (p.receive, p.previous, p.before, p.held, p.transmit, p.edited, p.inUse, p.returnSlots)

/-- The parts of the state that the sample range is about. -/
def State.sampled (s : State) : Memory × Vector Line 64 × (List Int × List Int × List Int × Vector Int 16 × Vector Int 16 ×
    Vector MapEntry 32 × Vector MapEntry 32 × List (Option SlotWord)) × Vector Int 16 × Option View × List Entry :=
  (s.dmc.memory, s.dmc.lines, s.port.sampled, s.fe.busValues, s.fe.computation.map Computation.view, s.sru.entries)

/-- A state with the same parts keeps the range. -/
theorem State.SamplesInRange.of_sampled {s t : State} (h : s.SamplesInRange) (he : t.sampled = s.sampled) : t.SamplesInRange := by
  simp only [State.sampled, Port.sampled, Prod.mk.injEq] at he
  obtain ⟨hm, hl, ⟨hrec, hprev, hbef, hheld, htr, hed, huse, hret⟩, hb, hv, hs⟩ := he
  refine ⟨hm ▸ h.memory, hl ▸ h.lines, hrec ▸ h.receive, hprev ▸ h.previous, hbef ▸ h.before, hheld ▸ h.held, htr ▸ h.transmit,
    hed ▸ h.edited, huse ▸ h.inUse, hret ▸ h.returns, hb ▸ h.buses, hs ▸ h.entries, fun c hc => ?_⟩
  rw [hc, Option.map_some, eq_comm, Option.map_eq_some_iff] at hv
  obtain ⟨d, hd, hdv⟩ := hv
  exact hdv ▸ h.view d hd

/-! ## The operations that write none of them -/

theorem State.sampled_of_tables {s t : State} (h : t.tables = s.tables) : t.sampled = s.sampled := by
  simp only [State.tables, Prod.mk.injEq] at h
  obtain ⟨-, hp, hd, -, -, hf, hs⟩ := h
  simp only [State.sampled, hp, hd, hf, hs]

@[simp] theorem State.raiseAt_sampled (s : State) (n : Word32) (d : Detail) : (s.raiseAt n d).sampled = s.sampled :=
  State.sampled_of_tables (by simp)

@[simp] theorem State.raise_sampled (s : State) (d : Detail) : (s.raise d).sampled = s.sampled := State.sampled_of_tables (by simp)

@[simp] theorem State.post_sampled (s : State) (n : Word32) (d : Detail) : (s.post n d).sampled = s.sampled := rfl

@[simp] theorem State.alertTest_sampled (s : State) : s.alertTest.sampled = s.sampled := State.sampled_of_tables (by simp)

@[simp] theorem State.withMu_sampled (s : State) (u : ModUnit) : ({ s with mu := u } : State).sampled = s.sampled := rfl

@[simp] theorem State.withEc_sampled (s : State) (e : Engine) : ({ s with ec := e } : State).sampled = s.sampled := rfl

@[simp] theorem State.note_sampled (s : State) (f : Written → Written) : (s.note f).sampled = s.sampled := by
  simp [State.sampled, State.note, Option.map_map, Function.comp_def]

@[simp] theorem State.mapTap_sampled (s : State) (t : TapIx) (f : Tap → Tap) : (s.mapTap t f).sampled = s.sampled := rfl

@[simp] theorem State.mapMod_sampled (s : State) (m : ModIx) (f : Modulator → Modulator) : (s.mapMod m f).sampled = s.sampled := rfl

@[simp] theorem State.mapSlot_sampled (s : State) (i : SlotIx) (f : Slot → Slot) : (s.mapSlot i f).sampled = s.sampled := rfl

@[simp] theorem State.countSlot_sampled (s : State) (i : SlotIx) (f : SlotCounters → SlotCounters) :
    (s.countSlot i f).sampled = s.sampled := rfl

@[simp] theorem State.countDelayClamp_sampled (s : State) (i : SlotIx) (b : Bool) : (s.countDelayClamp i b).sampled = s.sampled := by
  unfold State.countDelayClamp; split <;> simp

@[simp] theorem State.charge_sampled (s : State) (n : Nat) : (s.charge n).sampled = s.sampled := rfl

@[simp] theorem State.refund_sampled (s : State) (n : Nat) : (s.refund n).sampled = s.sampled := rfl

@[simp] theorem State.setFade_sampled (s : State) (m g : Nat) : (s.setFade m g).sampled = s.sampled := by
  simp [State.setFade]

@[simp] theorem State.releaseTapsOf_sampled (s : State) (k : LineIx) : (s.releaseTapsOf k).sampled = s.sampled := rfl

@[simp] theorem State.startScrub_sampled (s : State) : s.startScrub.sampled = s.sampled := by
  unfold State.startScrub; (repeat' split) <;> rfl

@[simp] theorem State.handTarget_sampled (s : State) (t : TapIx) (n : Nat) : (s.handTarget t n).sampled = s.sampled := by
  unfold State.handTarget; dsimp only; split <;> simp

@[simp] theorem State.formTarget_sampled (s : State) (t : TapIx) : (s.formTarget t).sampled = s.sampled := by
  simp [State.formTarget]

@[simp] theorem State.followTempo_sampled (s : State) (t : TapIx) : (s.followTempo t).sampled = s.sampled := by
  unfold State.followTempo; split <;> simp

@[simp] theorem State.beatOccurs_sampled (s : State) : s.beatOccurs.sampled = s.sampled := by
  simp [State.beatOccurs]

@[simp] theorem State.markBeat_sampled (s : State) : s.markBeat.sampled = s.sampled := by
  simp [State.markBeat]

@[simp] theorem State.setTempo_sampled (s : State) (b : Nat) : (s.setTempo b).sampled = s.sampled := by
  have fold (l : List TapIx) (u : State) : (l.foldl State.followTempo u).sampled = u.sampled :=
    foldl_keeps State.sampled _ State.followTempo_sampled l u
  unfold State.setTempo; dsimp only; (repeat' split) <;> simp [fold]

@[simp] theorem State.applyTapSet_sampled (s : State) (t : TapIx) (p : TapParts) : (s.applyTapSet t p).sampled = s.sampled := by
  unfold State.applyTapSet; dsimp only; split <;> simp

@[simp] theorem State.fillTap_sampled (s : State) (f : FillField) (t : TapIx) : (s.fillTap f t).sampled = s.sampled := by
  cases f <;> simp [State.fillTap]

@[simp] theorem State.applyTapFill_sampled (s : State) (i : SlotIx) (a b : TapIx) (f : FillField) :
    (s.applyTapFill i a b f).sampled = s.sampled :=
  foldl_keeps State.sampled _ (fun u t => u.fillTap_sampled f t) _ _

@[simp] theorem State.haltCause_sampled (s : State) (n : Word32) (w : HaltReason) : (s.haltCause n w).sampled = s.sampled := by
  simp [State.sampled]

@[simp] theorem State.reportFault_sampled (s : State) (n : Word32) (f : LineIx × Nat) : (s.reportFault n f).sampled = s.sampled := by
  simp [State.sampled]

@[simp] theorem State.clipBus_sampled (c : Computation) (cs : List (Dest × Int)) (s : State) (b : BusIx) :
    (s.clipBus c cs b).sampled = s.sampled := by simp [State.sampled]

@[simp] theorem State.countClamps_sampled (c : Computation) (o : Vector TapOut 256) (s : State) (t : TapIx) :
    (s.countClamps c o t).sampled = s.sampled := by
  unfold State.countClamps; split <;> simp

@[simp] theorem State.reportSaturation_sampled (c : Computation) (i : SlotIx) (s : State) :
    (s.reportSaturation c i).sampled = s.sampled := by
  unfold State.reportSaturation; dsimp only; (repeat' split) <;> simp

@[simp] theorem State.saturateLine_sampled (c : Computation) (cs : List (Dest × Int)) (s : State) (k : LineIx) :
    (s.saturateLine c cs k).sampled = s.sampled := by
  unfold State.saturateLine; split <;> simp

@[simp] theorem State.advanceSlots_sampled (c : Computation) (s : State) : (s.advanceSlots c).sampled = s.sampled := rfl

@[simp] theorem State.advanceMods_sampled (c : Computation) (s : State) : (s.advanceMods c).sampled = s.sampled := rfl

@[simp] theorem State.advanceTap_sampled (c : Computation) (s : State) (t : TapIx) : (s.advanceTap c t).sampled = s.sampled := by
  unfold State.advanceTap; dsimp only; (repeat' split) <;> simp

@[simp] theorem State.advanceBeat_sampled (c : Computation) (s : State) : (s.advanceBeat c).sampled = s.sampled := by
  unfold State.advanceBeat; (repeat' split) <;> simp

@[simp] theorem State.advanceFade_sampled (c : Computation) (s : State) : (s.advanceFade c).sampled = s.sampled := by
  simp [State.sampled]

@[simp] theorem State.offerProbe_sampled (c : Computation) (o : Vector TapOut 256) (cs : List (Dest × Int)) (s : State) :
    (s.offerProbe c o cs).sampled = s.sampled := by simp [State.sampled]

end Sys2Proof.Machine
end

section
namespace Sys2Proof.Machine

/-! ## Line records -/

theorem Line.freeValue_inRange : Line.freeValue.inRange := ⟨inSample_zero, Nat.zero_le _⟩

theorem Line.activate_inRange (pages : List Page) {l : Line} (h : l.inRange) : (l.activate pages).inRange := ⟨inSample_zero, h.2⟩

theorem Line.write_inRange {p : LineParts} (hp : ∀ d, p.damping = some d → d ≤ 65535) {l : Line} (h : l.inRange) :
    (l.write p).inRange := by
  refine ⟨h.1, ?_⟩
  unfold Line.write
  cases hd : p.damping with
  | none => exact h.2
  | some d => exact hp d hd

/-- A property of every record of a table stays one when one record is changed within it. -/
theorem forall_mem_updateAt {α : Type} {n : Nat} {p : α → Prop} {v : Vector α n} (h : ∀ x ∈ v.toList, p x) (i : Fin n) {f : α → α}
    (hf : ∀ x, p x → p (f x)) : ∀ x ∈ (updateAt v i f).toList, p x := by
  rw [forall_mem_toList] at h ⊢
  intro j
  rw [updateAt_get]
  split
  · exact hf _ (h j)
  · exact h j

namespace State.SamplesInRange

variable {s : State}

theorem mapLine (h : s.SamplesInRange) (k : LineIx) {f : Line → Line} (hf : ∀ l, l.inRange → (f l).inRange) :
    (s.mapLine k f).SamplesInRange :=
  { h with lines := forall_mem_updateAt h.lines k hf }

/-- Record changes that write neither the damping nor its memory, folded over a list of lines. -/
theorem mapLines (h : s.SamplesInRange) (l : List LineIx) {f : Line → Line} (hf : ∀ l, l.inRange → (f l).inRange) :
    (l.foldl (fun u k => u.mapLine k f) s).SamplesInRange :=
  List.foldlRecOn l _ h fun _ hu k _ => hu.mapLine k hf

theorem activateLine (h : s.SamplesInRange) (k : LineIx) : (s.activateLine k).SamplesInRange :=
  (h.mapLine k fun _ => Line.activate_inRange _).of_sampled rfl

theorem serveUpTo (n : Nat) (h : s.SamplesInRange) : (serveUpTo n s).SamplesInRange := by
  induction n generalizing s with
  | zero => exact h
  | succ n ih =>
    unfold Machine.serveUpTo
    split
    · exact h
    · rename_i rest _
      split
      · have h1 : SamplesInRange { s with dmc := { s.dmc with waitList := rest } } := h.of_sampled rfl
        exact ih ((h1.activateLine _).of_sampled (raise_sampled _ _))
      · exact h

theorem serveWaitList (h : s.SamplesInRange) : s.serveWaitList.SamplesInRange := h.serveUpTo _

theorem freeLine (h : s.SamplesInRange) (k : LineIx) : (s.freeLine k).SamplesInRange :=
  (h.mapLine k fun _ _ => Line.freeValue_inRange).of_sampled (by simp [State.freeLine])

theorem completeClose (h : s.SamplesInRange) (k : LineIx) : (s.completeClose k).SamplesInRange := by
  unfold State.completeClose
  split
  · have h1 : SamplesInRange { s with dmc := { s.dmc with dirty := s.dmc.dirty ++ s.dmc.lines[k].pages } } := h.of_sampled rfl
    exact h1.freeLine k
  · exact h

theorem completeCloses (h : s.SamplesInRange) : s.completeCloses.SamplesInRange :=
  of_sampled (List.foldlRecOn _ _ h fun _ hu k _ => hu.completeClose k) (startScrub_sampled _)

theorem removeTap (h : s.SamplesInRange) (t : TapIx) : (s.removeTap t).SamplesInRange :=
  (h.mapLines (s.taps[t]).lines (f := fun l => { l with refs := l.refs - 1 }) fun _ hl => hl).of_sampled
    (by simp only [State.removeTap, note_sampled, refund_sampled, mapTap_sampled])

theorem removeTapsOf (h : s.SamplesInRange) (k : LineIx) : (s.removeTapsOf k).SamplesInRange :=
  List.foldlRecOn _ _ h fun u hu t _ => by
    unfold State.removeTapOf
    split
    · exact hu.removeTap t
    · exact hu

theorem dropWaiting (h : s.SamplesInRange) (k : LineIx) : (s.dropWaiting k).SamplesInRange := by
  have h1 : SamplesInRange { s with dmc := { s.dmc with waitList := s.dmc.waitList.filter (· ≠ k) } } := h.of_sampled rfl
  exact (h1.removeTapsOf k).freeLine k

theorem beginClose (h : s.SamplesInRange) (k : LineIx) : (s.beginClose k).SamplesInRange :=
  mapLine (h.of_sampled (releaseTapsOf_sampled s k)) k fun _ hl => hl

theorem closeWaiting (h : s.SamplesInRange) (k : LineIx) : (s.closeWaiting k).SamplesInRange :=
  (h.dropWaiting k).completeCloses.serveWaitList

theorem closeActive (h : s.SamplesInRange) (k : LineIx) : (s.closeActive k).SamplesInRange := (h.beginClose k).completeCloses

theorem groupClose (h : s.SamplesInRange) (p : Line → Bool) : (s.groupClose p).SamplesInRange := by
  have hw (l : List LineIx) : SamplesInRange (l.foldl (fun u k => u.dropWaiting k) s) :=
    List.foldlRecOn _ _ h fun _ hu k _ => hu.dropWaiting k
  have ha (l m : List LineIx) : SamplesInRange (m.foldl (fun u k => u.beginClose k) (l.foldl (fun u k => u.dropWaiting k) s)) :=
    List.foldlRecOn _ _ (hw l) fun _ hu k _ => hu.beginClose k
  exact (ha _ _).completeCloses.serveWaitList

theorem enterTap (h : s.SamplesInRange) (t : TapIx) (x : Tap) : (s.enterTap t x).SamplesInRange :=
  (mapLines (h.of_sampled (mapTap_sampled s t _)) x.lines (f := fun l => { l with refs := l.refs + 1 }) fun _ hl => hl).of_sampled
    (charge_sampled _ _)

end State.SamplesInRange

/-! ## The output slot map -/

theorem MapEntry.resetValue_inRange : MapEntry.resetValue.inRange := nofun

/-- A source that has been checked and stored is in range when it is a fixed sample (R7). -/
theorem mapEntryFor_inRange {S : Nat} {m : OutMode} {v : Int} {x : MapEntry × Bool} (h : mapEntryFor S m v = some x) :
    x.1.inRange := by
  unfold mapEntryFor at h
  split at h
  case h_4 => cases h; exact fun _ => inSample_clampSample v
  all_goals
    first
    | cases h; exact nofun
    | split at h <;> cases h; exact nofun

/-- A stepped source is an index, so a fixed sample is written as it is (R13). -/
theorem steppedEntry_inRange (S : Nat) (st : Bool) {e : MapEntry} (n : Nat) (h : e.inRange) : (steppedEntry S st e n).inRange := by
  unfold steppedEntry
  split
  · split <;> rename_i hm
    · intro hf; rw [hm] at hf; cases hf
    · intro hf; rw [hm] at hf; cases hf
    · intro hf; rw [hm] at hf; cases hf
    · exact h
  · exact h

namespace State.SamplesInRange

variable {s : State}

theorem writeMapEntry (h : s.SamplesInRange) (i : EntryIx) {e : MapEntry} (he : e.inRange) : (s.writeMapEntry i e).SamplesInRange :=
  { h with edited := forall_mem_updateAt (f := fun _ => e) h.edited i fun _ _ => he }

theorem fillMap (h : s.SamplesInRange) (i j : EntryIx) (st : Bool) {e : MapEntry} (he : e.inRange) :
    (s.fillMap i j st e).SamplesInRange :=
  List.foldlRecOn _ _ h fun _ hu x _ => hu.writeMapEntry x.1 (steppedEntry_inRange _ st x.2 he)

/-! ## Entries and lists -/

theorem withSru (h : s.SamplesInRange) {u : Sru} (hu : ∀ e ∈ u.entries, e ∈ s.sru.entries) :
    SamplesInRange { s with sru := u } :=
  { h with entries := fun e he => h.entries e (hu e he) }

theorem applyEntry (h : s.SamplesInRange) {e : Entry} (he : e.samplesInRange) : (e.apply s).SamplesInRange := by
  cases e with
  | lineSet k p i => exact h.mapLine k fun _ => Line.write_inRange he
  | tapSet t p i => exact h.of_sampled (applyTapSet_sampled s t p)
  | tapFill i a b f => exact h.of_sampled (applyTapFill_sampled s i a b f)
  | slotSet i p => exact h.of_sampled (mapSlot_sampled s i _)
  | modSet m p => exact h.of_sampled (mapMod_sampled s m _)
  | tempoSet b => exact h.of_sampled (setTempo_sampled s b)
  | outmapSet i v => exact h.writeMapEntry i he
  | outmapFill i j st v => exact h.fillMap i j st he

theorem handleEntry {x : State × Tallied} (h : x.1.SamplesInRange) {e : Entry} (he : e.samplesInRange) :
    (handleEntry x e).1.SamplesInRange := by
  have counted (f : SlotCounters → SlotCounters) : SamplesInRange (e.slot.elim x.1 fun i => x.1.countSlot i f) := by
    cases e.slot with
    | none => exact h
    | some i => exact h.of_sampled (countSlot_sampled _ i _)
  unfold Machine.handleEntry
  split
  · exact counted _
  · split
    · exact counted _
    · exact h.applyEntry he

theorem applyList (h : s.SamplesInRange) {l : List Entry} (hl : ∀ e ∈ l, e.samplesInRange) : (applyList l s).1.SamplesInRange := by
  have fold (n : Tallied) : SamplesInRange (l.foldl Machine.handleEntry (s, n)).1 :=
    List.foldlRecOn (motive := fun x : State × Tallied => x.1.SamplesInRange) l _ h fun _ hx e he => handleEntry hx (hl e he)
  unfold Machine.applyList
  dsimp only
  split
  · exact fold _
  · exact (fold _).of_sampled (raise_sampled _ _)

theorem applyAction (h : s.SamplesInRange) {a : Action} (ha : ∀ e ∈ a.entries, e.samplesInRange) :
    (s.applyAction a).SamplesInRange := by
  unfold State.applyAction
  dsimp only
  refine applyList ?_ ha
  split
  · exact h
  · exact h.of_sampled ((raise_sampled _ _).trans rfl)

theorem applyDueWork (h : s.SamplesInRange) : s.applyDueWork.SamplesInRange := by
  have hq (a : Action) (ha : a ∈ s.sru.queue) (e : Entry) (he : e ∈ a.entries) : e.samplesInRange :=
    h.entries e (by simp only [Sru.entries, List.mem_append, List.mem_flatMap]; exact .inr ⟨a, ha, he⟩)
  have h1 : SamplesInRange { s with sru := { s.sru with queue := s.sru.queue.filter fun a => !a.isDue, dueNow := [] } } :=
    h.withSru fun e he => by
      simp only [Sru.entries, List.mem_append, List.mem_flatMap, List.mem_filter] at he ⊢
      aesop
  refine applyList (List.foldlRecOn _ _ h1 fun _ hu a ha => hu.applyAction (hq a (List.mem_filter.mp ha).1)) fun e he => ?_
  exact h.entries e (by simp only [Sru.entries, List.mem_append]; exact .inl (.inr he))

end State.SamplesInRange

end Sys2Proof.Machine
end

section
namespace Sys2Proof.Machine

/-! ## Delay memory -/

/-- Every stored sample is a sample. -/
def Memory.InRange (m : Memory) : Prop := ∀ q ∈ m, InSample q.2.value

theorem Memory.InRange.read {m : Memory} (h : m.InRange) (a : Nat) : InSample (m.read a).value := by
  induction m with
  | nil => exact inSample_zero
  | cons q m ih =>
    obtain ⟨b, y⟩ := q
    rw [Memory.read_cons]
    split
    · exact h (b, y) (by simp)
    · exact ih fun p hp => h p (by simp [hp])

theorem Memory.InRange.write {m : Memory} (h : m.InRange) (a : Nat) {x : Stored} (hx : InSample x.value) :
    (m.write a x).InRange := by
  intro q hq
  rcases Memory.mem_write hq with ⟨rfl, -⟩ | hq
  · exact hx
  · exact h q hq

theorem Memory.InRange.filter {m : Memory} (h : m.InRange) (keep : Nat × Stored → Bool) :
    Memory.InRange (m.filter keep) := fun q hq => h q (List.mem_filter.mp hq).1

theorem Memory.InRange.strike {m : Memory} (h : m.InRange) (k : Strike) : (m.strike k).InRange := by
  unfold Memory.strike
  split
  · exact h.write _ (h.read _)
  · exact h

theorem State.abandonedMemory_inRange {s : State} (h : s.dmc.memory.InRange) : s.abandonedMemory.InRange := by
  unfold State.abandonedMemory
  split
  · exact h
  · exact h.filter _

/-! ## The frame computation -/

/-- What stage 5 stores is a sample (R101). -/
theorem Computation.stored_inSample {c : Computation} (hc : ∀ l ∈ c.view.lines.toList, l.inRange) {cs : List (Dest × Int)}
    {k : LineIx} {y : Int} {b : Bool} (h : c.stored cs k = some (y, b)) : InSample y := by
  obtain ⟨hmem, hdamp⟩ := (forall_mem_toList _ _).mp hc k
  unfold Computation.stored at h
  dsimp only at h
  split at h
  · obtain ⟨rfl, -⟩ := Prod.mk.inj (Option.some.inj h)
    exact inSample_damp (inSample_clampSample _) hmem hdamp
  · cases h

/-- Every bus value is a sample (R102). -/
theorem Computation.busValues_allSamples (c : Computation) (cs : List (Dest × Int)) : AllSamples (c.busValues cs).toList :=
  (forall_mem_toList _ _).mpr fun b => by
    unfold Computation.busValues; rw [mapIx_get]; exact inSample_clampSample _

namespace State.SamplesInRange

variable {s : State} {c : Computation}

theorem storeLine (h : s.SamplesInRange) (hc : ∀ l ∈ c.view.lines.toList, l.inRange) (cs : List (Dest × Int)) (k : LineIx) :
    (s.storeLine c cs k).SamplesInRange := by
  unfold State.storeLine
  dsimp only
  split
  · exact h
  · rename_i y b hy
    have hy := Computation.stored_inSample hc hy
    have h1 := h.mapLine k (f := fun x => { x with
      w := (c.view.lines[k].w + 1) % c.view.lines[k].length, dampMem := y
      sendGain := approach 64 c.view.lines[k].sendGain c.view.lines[k].sendTarget }) fun l hl => ⟨hy, hl.2⟩
    refine { h1 with memory := ?_ }
    cases (c.view.lines[k]).address (c.view.lines[k]).w with
    | none => exact h.memory
    | some a => exact Memory.InRange.write h.memory a hy

theorem deliverBuses (h : s.SamplesInRange) (cs : List (Dest × Int)) : (s.deliverBuses c cs).SamplesInRange := by
  have h1 : SamplesInRange ((List.finRange 16).foldl (State.clipBus c cs) s) :=
    List.foldlRecOn _ _ h fun u hu b _ => hu.of_sampled (clipBus_sampled c cs u b)
  exact { h1 with held := c.busValues_allSamples cs, buses := c.busValues_allSamples cs }

theorem completeRelease (h : s.SamplesInRange) (t : TapIx) : (s.completeRelease c t).SamplesInRange := by
  unfold State.completeRelease
  split
  · exact h.removeTap t
  · exact h

/-- The completion, stage by stage in the order of its definition (R104). -/
theorem finish (h : s.SamplesInRange) (hc : ∀ l ∈ c.view.lines.toList, l.inRange) : (s.finish c).SamplesInRange := by
  have h0 : SamplesInRange { s with fe := { s.fe with computation := none } } := { h with view := nofun }
  have faults (l : List (LineIx × Nat)) : SamplesInRange (l.foldl (State.reportFault c.stamp) _) :=
    List.foldlRecOn _ _ h0 fun u hu f _ => hu.of_sampled (reportFault_sampled u _ f)
  have stores (l : List (LineIx × Nat)) (cs : List (Dest × Int)) :
      SamplesInRange ((List.finRange 64).foldl (State.storeLine c cs) (l.foldl (State.reportFault c.stamp) _)) :=
    List.foldlRecOn _ _ (faults l) fun u hu k _ => hu.storeLine hc cs k
  have counts (o : Vector TapOut 256) {u : State} (hu : u.SamplesInRange) :
      SamplesInRange ((List.finRange 256).foldl (State.countClamps c o) u) :=
    List.foldlRecOn _ _ hu fun v hv t _ => hv.of_sampled (countClamps_sampled c o v t)
  have saturations (cs : List (Dest × Int)) {u : State} (hu : u.SamplesInRange) :
      SamplesInRange ((List.finRange 64).foldl (State.saturateLine c cs) u) :=
    List.foldlRecOn _ _ hu fun v hv k _ => hv.of_sampled (saturateLine_sampled c cs v k)
  have taps {u : State} (hu : u.SamplesInRange) : SamplesInRange ((List.finRange 256).foldl (State.advanceTap c) u) :=
    List.foldlRecOn _ _ hu fun v hv t _ => hv.of_sampled (advanceTap_sampled c v t)
  have blocks (o : Vector TapOut 256) (cs : List (Dest × Int)) {u : State} (hu : u.SamplesInRange) :
      SamplesInRange ((((u.advanceMods c).advanceBeat c).advanceFade c).offerProbe c o cs) :=
    hu.of_sampled (by simp)
  have releases {u : State} (hu : u.SamplesInRange) : SamplesInRange ((List.finRange 256).foldl (State.completeRelease c) u) :=
    List.foldlRecOn _ _ hu fun v hv t _ => hv.completeRelease t
  have s5 := saturations (c.contributions (c.tapOuts s.dmc.memory)) (counts (c.tapOuts s.dmc.memory)
    ((stores ((c.tapOuts s.dmc.memory).toList.flatMap TapOut.faults) (c.contributions (c.tapOuts s.dmc.memory))).deliverBuses
      (c := c) (c.contributions (c.tapOuts s.dmc.memory))))
  have s7 := taps (s5.of_sampled (advanceSlots_sampled c _))
  exact (releases (blocks _ _ s7)).completeCloses.of_sampled (alertTest_sampled _)

theorem completeComputation (h : s.SamplesInRange) (l : List Strike) : (s.completeComputation l).SamplesInRange := by
  have hm : Memory.InRange (l.foldl Memory.strike s.dmc.memory) :=
    List.foldlRecOn (motive := Memory.InRange) _ _ h.memory fun _ hm k _ => hm.strike k
  have h1 : SamplesInRange { s with dmc := { s.dmc with memory := l.foldl Memory.strike s.dmc.memory } } := { h with memory := hm }
  unfold State.completeComputation
  dsimp only
  split
  · exact h1
  · rename_i c hc; exact h1.finish (h.view c hc)

/-! ## The frame boundary -/

end State.SamplesInRange

/-- A driven output slot carries 0 behind its sample (R1). -/
theorem Port.formReturn_setWidth {S : Nat} {p : Port} {v : Option SlotWord} (hv : v ∈ (p.formReturn S).returnSlots) (x : SlotWord)
    (hx : v = some x) : x.setWidth 8 = 0 := by
  simp only [Port.formReturn, List.mem_map] at hv
  obtain ⟨y, -, rfl⟩ := hv
  obtain ⟨z, -, rfl⟩ := Option.map_eq_some_iff.mp hx
  exact slotWord_setWidth z

/-- What a record has is so for every record of a table that holds it alone. -/
theorem forall_mem_toList_replicate {α : Type} {p : α → Prop} (n : Nat) {x : α} (hx : p x) :
    ∀ y ∈ (Vector.replicate n x).toList, p y := fun y hy => by
  rw [Vector.toList_replicate] at hy
  rw [List.eq_of_mem_replicate hy]; exact hx

@[simp] theorem State.memoryClean_sampled (s : State) : s.memoryClean.sampled = s.sampled := by
  unfold State.memoryClean
  split
  · rw [State.raise_sampled, State.withEc_sampled]
  · rfl

namespace State.SamplesInRange

variable {s : State}

theorem shiftHistory (h : s.SamplesInRange) (S : Nat) : SamplesInRange { s with port := s.port.shiftHistory S } := by
  unfold Port.shiftHistory
  split
  · exact { h with before := h.previous, previous := h.receive, receive := allSamples_replicate_zero S }
  · exact h

theorem boundary (h : s.SamplesInRange) : SamplesInRange { s with port := s.port.boundary s.ec, ec := s.ec.boundary } := by
  have h1 := h.shiftHistory s.ec.timeSlots
  unfold Port.boundary
  dsimp only
  split
  · refine { h1 with held := ?_, transmit := h1.held, inUse := h1.edited, returns := fun v => Port.formReturn_setWidth }
    show AllSamples (Vector.toList (if _ then _ else _))
    split
    · exact h1.held
    · exact allSamples_replicate_zero 16
  · exact { h1 with returns := fun v => Port.formReturn_setWidth }

theorem testSchedule (h : s.SamplesInRange) : s.testSchedule.SamplesInRange :=
  h.withSru fun e he => by simpa [Sru.entries, List.mem_flatMap] using he

theorem clockBack (h : s.SamplesInRange) : s.clockBack.SamplesInRange := by
  unfold State.clockBack
  split
  · exact h.of_sampled (by simp)
  · exact h

theorem beginComputation (h : s.SamplesInRange) : s.beginComputation.SamplesInRange := by
  have h1 := h.applyDueWork
  exact { h1 with view := fun c hc => by cases hc; exact h1.lines }

/-! ## Reset, INIT and the other events -/

theorem resetBlocks (h : s.SamplesInRange) : s.resetBlocks.SamplesInRange where
  memory := State.abandonedMemory_inRange h.memory
  lines := forall_mem_toList_replicate 64 Line.freeValue_inRange
  receive := nofun
  previous := nofun
  before := nofun
  held := allSamples_replicate_zero 16
  transmit := allSamples_replicate_zero 16
  edited := forall_mem_toList_replicate 32 MapEntry.resetValue_inRange
  inUse := forall_mem_toList_replicate 32 MapEntry.resetValue_inRange
  returns := nofun
  buses := allSamples_replicate_zero 16
  entries := nofun
  view := nofun

theorem initBlocks (h : s.SamplesInRange) (rate : Rate) (action : HaltAction) : (s.initBlocks rate action).SamplesInRange := by
  unfold State.initBlocks
  refine of_sampled ?_ (startScrub_sampled _)
  exact {
    memory := State.abandonedMemory_inRange h.memory
    lines := forall_mem_toList_replicate 64 Line.freeValue_inRange
    receive := allSamples_replicate_zero _
    previous := allSamples_replicate_zero _
    before := allSamples_replicate_zero _
    held := allSamples_replicate_zero 16
    transmit := allSamples_replicate_zero 16
    edited := forall_mem_toList_replicate 32 MapEntry.resetValue_inRange
    inUse := forall_mem_toList_replicate 32 MapEntry.resetValue_inRange
    returns := fun _ => Port.formReturn_setWidth
    buses := allSamples_replicate_zero 16
    entries := nofun
    view := nofun }

theorem pageClear {t : State} (h : s.SamplesInRange) (ht : execPageClearComplete s = .next t) : t.SamplesInRange := by
  obtain rfl := Host.Outcome.next.inj ht
  split
  · exact h
  · rename_i p _
    have h1 : SamplesInRange { s with dmc := { s.dmc with
        memory := s.dmc.memory.clearPage p, clean := s.dmc.clean ++ [p], scrubber := none } } :=
      { h with memory := Memory.InRange.filter h.memory _ }
    exact (h1.serveWaitList.of_sampled (startScrub_sampled _)).of_sampled (memoryClean_sampled _)

end State.SamplesInRange

@[simp] theorem State.checkWord_sampled (s : State) (n : Nat) (w : Word24) (fresh : Bool) :
    (s.checkWord n w fresh).sampled = s.sampled := by
  unfold State.checkWord
  dsimp only
  split
  · rfl
  · split
    · rfl
    · split
      · rw [State.raise_sampled]; rfl
      · rfl

theorem State.SamplesInRange.inputSlot {s t : State} {n : Nat} {w : Word24} {fresh : Bool} (h : s.SamplesInRange)
    (ht : execInputSlotReceived n w fresh s = .next t) : t.SamplesInRange := by
  obtain rfl := Host.Outcome.next.inj ht
  split
  · have hr : AllSamples (s.port.receive.set n w.toInt) := fun v hv => by
      rcases List.mem_or_eq_of_mem_set hv with hv | rfl
      · exact h.receive v hv
      · exact inSample_toInt w
    have h1 : State.SamplesInRange { s with port := { s.port with receive := s.port.receive.set n w.toInt } } :=
      { h with receive := hr }
    exact h1.of_sampled (checkWord_sampled _ _ _ _)
  · exact h

end Sys2Proof.Machine
end

section
namespace Sys2Proof.Machine

/-! ## The owners -/

@[simp] theorem State.withCu_sampled (s : State) (u : CondUnit) : ({ s with cu := u } : State).sampled = s.sampled := rfl

@[simp] theorem State.withDrive_sampled (s : State) (b : Bool) :
    ({ s with port := { s.port with drive := b } } : State).sampled = s.sampled := rfl

@[simp] theorem State.withBypass_sampled (s : State) (b : Bool) :
    ({ s with port := { s.port with bypass := b } } : State).sampled = s.sampled := rfl

@[simp] theorem State.withChecker_sampled (s : State) (c : Checker) :
    ({ s with port := { s.port with checker := c } } : State).sampled = s.sampled := rfl

@[simp] theorem State.withRoundRobin_sampled (s : State) (k : LineIx) :
    ({ s with dmc := { s.dmc with roundRobin := k } } : State).sampled = s.sampled := rfl

@[simp] theorem State.beginWindows_sampled (s : State) : s.beginWindows.sampled = s.sampled := by
  unfold State.beginWindows; rw [State.note_sampled]; rfl

@[simp] theorem State.enterRunning_sampled (s : State) : s.enterRunning.sampled = s.sampled := by simp [State.enterRunning]

@[simp] theorem State.armTracker_sampled (s : State) : s.armTracker.sampled = s.sampled := by simp [State.armTracker]

@[simp] theorem State.acceptMark_sampled (s : State) (i : Nat) : (s.acceptMark i).sampled = s.sampled := by simp [State.acceptMark]

/-- A verdict that leaves what carries samples as it was keeps their range. -/
theorem Verdict.Leaves.inRange {v : Verdict} {s : State} (hv : v.Leaves fun t => t.sampled = s.sampled) (h : s.SamplesInRange) :
    v.Leaves State.SamplesInRange := by
  cases v with
  | refuse st => trivial
  | done t st p => exact h.of_sampled hv

section
variable (b : Bool) (p : List Byte) (s : State)

theorem ownStart_sampled : (ownStart b p s).Leaves fun t => t.sampled = s.sampled := by
  unfold ownStart; split <;> simp

theorem ownStop_sampled : (ownStop b p s).Leaves fun t => t.sampled = s.sampled := by
  unfold ownStop; split <;> simp [State.enterStopped]

theorem ownHalt_sampled : (ownHalt b p s).Leaves fun t => t.sampled = s.sampled := by
  unfold ownHalt; split <;> simp

theorem ownResume_sampled : (ownResume b p s).Leaves fun t => t.sampled = s.sampled := by
  unfold ownResume; (repeat' split) <;> simp

theorem ownPortDrive_sampled : (ownPortDrive b p s).Leaves fun t => t.sampled = s.sampled := by
  unfold ownPortDrive; (repeat' split) <;> simp

theorem ownPortBypass_sampled : (ownPortBypass b p s).Leaves fun t => t.sampled = s.sampled := by
  unfold ownPortBypass; (repeat' split) <;> simp

theorem ownCheckSet_sampled : (ownCheckSet b p s).Leaves fun t => t.sampled = s.sampled := by
  unfold ownCheckSet; (repeat' split) <;> simp

theorem ownCheckRead_sampled : (ownCheckRead b p s).Leaves fun t => t.sampled = s.sampled := by simp [ownCheckRead]

theorem ownCheckClear_sampled : (ownCheckClear b p s).Leaves fun t => t.sampled = s.sampled := by simp [ownCheckClear]

theorem ownLineGet_sampled : (ownLineGet b p s).Leaves fun t => t.sampled = s.sampled := by
  unfold ownLineGet; (repeat' split) <;> simp

theorem ownTapFree_sampled : (ownTapFree b p s).Leaves fun t => t.sampled = s.sampled := by
  unfold ownTapFree; (repeat' split) <;> simp

theorem ownTapGet_sampled : (ownTapGet b p s).Leaves fun t => t.sampled = s.sampled := by
  unfold ownTapGet; (repeat' split) <;> simp

theorem ownModSync_sampled : (ownModSync b p s).Leaves fun t => t.sampled = s.sampled := by
  unfold ownModSync; (repeat' split) <;> simp

theorem ownModGet_sampled : (ownModGet b p s).Leaves fun t => t.sampled = s.sampled := by
  unfold ownModGet; (repeat' split) <;> simp

theorem ownBeat_sampled : (ownBeat b p s).Leaves fun t => t.sampled = s.sampled := by
  unfold ownBeat; (repeat' split) <;> simp

theorem ownSlotGet_sampled : (ownSlotGet b p s).Leaves fun t => t.sampled = s.sampled := by
  unfold ownSlotGet; (repeat' split) <;> simp

theorem ownAlertRelease_sampled : (ownAlertRelease b p s).Leaves fun t => t.sampled = s.sampled := by
  unfold ownAlertRelease; split <;> simp

theorem ownCondEnable_sampled : (ownCondEnable b p s).Leaves fun t => t.sampled = s.sampled := by
  unfold ownCondEnable; split <;> simp

theorem ownProbeSet_sampled : (ownProbeSet b p s).Leaves fun t => t.sampled = s.sampled := by
  unfold ownProbeSet; (repeat' split) <;> simp

theorem ownProbeGet_sampled : (ownProbeGet b p s).Leaves fun t => t.sampled = s.sampled := by simp [ownProbeGet]

theorem ownCountersGet_sampled : (ownCountersGet b p s).Leaves fun t => t.sampled = s.sampled := by
  unfold ownCountersGet; (repeat' split) <;> simp

end

/-- A line just opened has no damping memory and a clamped damping (R42, R46). -/
theorem openedLine_inRange (i : SlotIx) (tag : Byte) (keep : Bool) (length : Nat) (source : Option Nat) (gain : Int) (d : Nat) :
    (openedLine i tag keep length source gain (clampNat 0 65535 d)).inRange :=
  ⟨inSample_zero, (clampNat_mem (Nat.zero_le 65535) d).2⟩

/-- The actions of the queue that an action was placed in (R156). -/
theorem mem_placeAction (c : Word32) (a x : Action) (q : List Action) : x ∈ placeAction c a q ↔ x = a ∨ x ∈ q := by
  have split := List.takeWhile_append_dropWhile (p := fun y : Action => decide (y.lead c ≤ a.lead c)) (l := q)
  conv_rhs => rw [← split]
  simp only [placeAction, List.mem_append, List.mem_cons]
  tauto

namespace State.SamplesInRange

variable {s : State}

/-- A staged entry that carries nothing out of range joins the list (R154). -/
theorem stageEntry (h : s.SamplesInRange) {e : Entry} (he : e.samplesInRange) (clamped : Bool) :
    (stageEntry e clamped s).Leaves State.SamplesInRange := by
  unfold Machine.stageEntry
  split
  · trivial
  · refine { h with entries := fun x hx => ?_ }
    simp only [Sru.entries, List.mem_append, List.mem_singleton] at hx
    rcases hx with ((hx | rfl) | hx) | hx
    · exact h.entries x (by simp [Sru.entries, hx])
    · exact he
    · exact h.entries x (by simp [Sru.entries, hx])
    · exact h.entries x (List.mem_append_right _ hx)

theorem ownInit (h : s.SamplesInRange) (b : Bool) (p : List Byte) : (ownInit b p s).Leaves State.SamplesInRange := by
  unfold Machine.ownInit
  (repeat' split) <;> try exact Verdict.leaves_refuse _ _
  exact h.initBlocks _ _

theorem ownOutmapSet (h : s.SamplesInRange) (b : Bool) (p : List Byte) : (ownOutmapSet b p s).Leaves State.SamplesInRange := by
  unfold Machine.ownOutmapSet
  (repeat' split) <;> try exact Verdict.leaves_refuse _ _
  · rename_i he _; exact h.stageEntry (e := .outmapSet _ _) (mapEntryFor_inRange he) _
  · rename_i he _; exact h.writeMapEntry _ (mapEntryFor_inRange he)

theorem ownOutmapFill (h : s.SamplesInRange) (b : Bool) (p : List Byte) : (ownOutmapFill b p s).Leaves State.SamplesInRange := by
  unfold Machine.ownOutmapFill
  (repeat' split) <;> try exact Verdict.leaves_refuse _ _
  · rename_i he _; exact h.stageEntry (e := .outmapFill _ _ _ _) (mapEntryFor_inRange he) _
  · rename_i he _; exact h.fillMap _ _ _ (mapEntryFor_inRange he)

theorem admitLine (h : s.SamplesInRange) (k : LineIx) {l : Line} (hl : l.inRange) (clamped : Bool) :
    (admitLine k l clamped s).Leaves State.SamplesInRange := by
  have h1 := (h.mapLine k fun _ _ => hl).of_sampled (charge_sampled _ 2)
  unfold Machine.admitLine
  dsimp only
  split
  · have h2 : SamplesInRange { (s.mapLine k fun _ => l).charge 2 with
        dmc := { ((s.mapLine k fun _ => l).charge 2).dmc with roundRobin := k + 1 } } := h1.of_sampled rfl
    exact h2.activateLine k
  · exact h1.of_sampled (raise_sampled _ _)

theorem ownLineOpen (h : s.SamplesInRange) (b : Bool) (p : List Byte) : (ownLineOpen b p s).Leaves State.SamplesInRange := by
  unfold Machine.ownLineOpen
  (repeat' split) <;> try exact Verdict.leaves_refuse _ _
  dsimp only
  split
  · exact Verdict.leaves_refuse _ _
  · exact h.admitLine _ (openedLine_inRange _ _ _ _ _ _ _) _

theorem ownLineSet (h : s.SamplesInRange) (b : Bool) (p : List Byte) : (ownLineSet b p s).Leaves State.SamplesInRange := by
  unfold Machine.ownLineSet
  split <;> try exact Verdict.leaves_refuse _ _
  split <;> try exact Verdict.leaves_refuse _ _
  split <;> try exact Verdict.leaves_refuse _ _
  split <;> try exact Verdict.leaves_refuse _ _
  have hd (c : Bool) (n : Nat) : ∀ d, (if c then some (clampNat 0 65535 n) else none) = some d → d ≤ 65535 := fun d hd => by
    split at hd
    · cases hd; exact (clampNat_mem (by decide) _).2
    · cases hd
  dsimp only
  split
  · refine h.stageEntry (e := .lineSet _ _ _) ?_ _
    exact hd _ _
  · exact h.mapLine _ fun _ => Line.write_inRange (hd _ _)

theorem ownLineClose (h : s.SamplesInRange) (b : Bool) (p : List Byte) : (ownLineClose b p s).Leaves State.SamplesInRange := by
  unfold Machine.ownLineClose
  (repeat' split) <;> try exact Verdict.leaves_refuse _ _
  · exact h.closeWaiting _
  · exact h.closeActive _
  · exact h

theorem ownLineReleaseTag (h : s.SamplesInRange) (b : Bool) (p : List Byte) :
    (ownLineReleaseTag b p s).Leaves State.SamplesInRange := by
  unfold Machine.ownLineReleaseTag
  split
  · exact h.groupClose _
  · exact Verdict.leaves_refuse _ _

theorem ownLineReleaseAll (h : s.SamplesInRange) (b : Bool) (p : List Byte) :
    (ownLineReleaseAll b p s).Leaves State.SamplesInRange := by
  unfold Machine.ownLineReleaseAll
  exact (h.groupClose _).of_sampled (withRoundRobin_sampled _ _)

theorem ownSlotClear (h : s.SamplesInRange) (b : Bool) (p : List Byte) : (ownSlotClear b p s).Leaves State.SamplesInRange := by
  unfold Machine.ownSlotClear
  (repeat' split) <;> try exact Verdict.leaves_refuse _ _
  exact h.groupClose _

theorem ownTapCreate (h : s.SamplesInRange) (b : Bool) (p : List Byte) : (ownTapCreate b p s).Leaves State.SamplesInRange := by
  unfold Machine.ownTapCreate
  (repeat' split) <;> try exact Verdict.leaves_refuse _ _
  exact (h.enterTap _ _).of_sampled (countDelayClamp_sampled _ _ _)

theorem ownTapSet (h : s.SamplesInRange) (b : Bool) (p : List Byte) : (ownTapSet b p s).Leaves State.SamplesInRange := by
  unfold Machine.ownTapSet
  (repeat' split) <;> try exact Verdict.leaves_refuse _ _
  · exact h.stageEntry (e := .tapSet _ _ _) True.intro _
  · exact h.of_sampled (applyTapSet_sampled _ _ _)

theorem ownTapFill (h : s.SamplesInRange) (b : Bool) (p : List Byte) : (ownTapFill b p s).Leaves State.SamplesInRange := by
  unfold Machine.ownTapFill
  (repeat' split) <;> try exact Verdict.leaves_refuse _ _
  · exact h.stageEntry (e := .tapFill _ _ _ _) True.intro _
  · exact h.of_sampled (applyTapFill_sampled _ _ _ _ _)

theorem ownModSet (h : s.SamplesInRange) (b : Bool) (p : List Byte) : (ownModSet b p s).Leaves State.SamplesInRange := by
  unfold Machine.ownModSet
  iterate 5 (split <;> try exact Verdict.leaves_refuse _ _)
  cases b
  · exact h.of_sampled (mapMod_sampled _ _ _)
  · exact h.stageEntry (e := .modSet _ _) True.intro _

theorem ownTempoSet (h : s.SamplesInRange) (b : Bool) (p : List Byte) : (ownTempoSet b p s).Leaves State.SamplesInRange := by
  unfold Machine.ownTempoSet
  (repeat' split) <;> try exact Verdict.leaves_refuse _ _
  · exact h.stageEntry (e := .tempoSet _) True.intro _
  · exact h.of_sampled (setTempo_sampled _ _)

theorem ownSlotSet (h : s.SamplesInRange) (b : Bool) (p : List Byte) : (ownSlotSet b p s).Leaves State.SamplesInRange := by
  unfold Machine.ownSlotSet
  iterate 5 (split <;> try exact Verdict.leaves_refuse _ _)
  cases b
  · exact h.of_sampled (mapSlot_sampled _ _ _)
  · exact h.stageEntry (e := .slotSet _ _) True.intro _

theorem staging_inRange (h : s.SamplesInRange) : ∀ e ∈ s.sru.staging, e.samplesInRange :=
  fun e he => h.entries e (by simp [Sru.entries, he])

theorem dueNow_inRange (h : s.SamplesInRange) : ∀ e ∈ s.sru.dueNow, e.samplesInRange :=
  fun e he => h.entries e (by simp [Sru.entries, he])

theorem commitNow (h : s.SamplesInRange) : (commitNow s).Leaves State.SamplesInRange := by
  unfold Machine.commitNow
  split
  · split
    · exact h
    · exact h.withSru (u := { s.sru with staging := [], dueNow := s.sru.dueNow ++ s.sru.staging }) fun e he => by
        simp only [Sru.entries, List.mem_append, List.nil_append] at he ⊢
        tauto
  · have h1 : SamplesInRange { s with sru := { s.sru with staging := [], dueNow := [] } } := h.withSru fun e he => by
      simp only [Sru.entries, List.nil_append] at he
      exact List.mem_append_right _ he
    exact (h1.applyList h.dueNow_inRange).applyList h.staging_inRange

theorem commitAt (h : s.SamplesInRange) (f : Word32) : (commitAt f s).Leaves State.SamplesInRange := by
  unfold Machine.commitAt
  (repeat' split) <;> try exact Verdict.leaves_refuse _ _
  refine h.withSru fun e he => ?_
  simp only [Sru.entries, List.mem_append, List.mem_flatMap, List.nil_append, mem_placeAction] at he ⊢
  obtain he | ⟨a, rfl | ha, he⟩ := he
  · exact .inl (.inr he)
  · exact .inl (.inl he)
  · exact .inr ⟨a, ha, he⟩

theorem ownCommit (h : s.SamplesInRange) (b : Bool) (p : List Byte) : (ownCommit b p s).Leaves State.SamplesInRange := by
  unfold Machine.ownCommit
  (repeat' split) <;> try exact Verdict.leaves_refuse _ _
  · exact h.commitNow
  · exact h.commitAt _

theorem ownDiscard (h : s.SamplesInRange) (b : Bool) (p : List Byte) : (ownDiscard b p s).Leaves State.SamplesInRange :=
  h.withSru (u := { s.sru with staging := [] }) fun e he => by
    simp only [Sru.entries, List.mem_append, List.nil_append] at he ⊢
    tauto

theorem ownSchedCancel (h : s.SamplesInRange) (b : Bool) (p : List Byte) :
    (ownSchedCancel b p s).Leaves State.SamplesInRange := by
  unfold Machine.ownSchedCancel
  (repeat' split) <;> try exact Verdict.leaves_refuse _ _
  refine h.withSru fun e he => ?_
  simp only [Sru.entries, List.mem_append, List.mem_flatMap, List.mem_filter] at he ⊢
  obtain he | ⟨a, ⟨ha, -⟩, he⟩ := he
  · exact .inl he
  · exact .inr ⟨a, ha, he⟩

/-- Every owner keeps the sample range. -/
theorem owner (h : s.SamplesInRange) (k : Kind) (b : Bool) (p : List Byte) : (ownerOf k b p s).Leaves State.SamplesInRange := by
  cases k with
  | status | reset | timeGet | outmapGet | poolGet | tempoGet | schedGet | condGet => exact h
  | init => exact h.ownInit b p
  | start => exact (ownStart_sampled b p s).inRange h
  | stop => exact (ownStop_sampled b p s).inRange h
  | halt => exact (ownHalt_sampled b p s).inRange h
  | resume => exact (ownResume_sampled b p s).inRange h
  | portDrive => exact (ownPortDrive_sampled b p s).inRange h
  | portBypass => exact (ownPortBypass_sampled b p s).inRange h
  | outmapSet => exact h.ownOutmapSet b p
  | outmapFill => exact h.ownOutmapFill b p
  | checkSet => exact (ownCheckSet_sampled b p s).inRange h
  | checkRead => exact (ownCheckRead_sampled b p s).inRange h
  | checkClear => exact (ownCheckClear_sampled b p s).inRange h
  | lineOpen => exact h.ownLineOpen b p
  | lineSet => exact h.ownLineSet b p
  | lineClose => exact h.ownLineClose b p
  | lineReleaseTag => exact h.ownLineReleaseTag b p
  | lineReleaseAll => exact h.ownLineReleaseAll b p
  | lineGet => exact (ownLineGet_sampled b p s).inRange h
  | tapCreate => exact h.ownTapCreate b p
  | tapSet => exact h.ownTapSet b p
  | tapFill => exact h.ownTapFill b p
  | tapFree => exact (ownTapFree_sampled b p s).inRange h
  | tapGet => exact (ownTapGet_sampled b p s).inRange h
  | modSet => exact h.ownModSet b p
  | modSync => exact (ownModSync_sampled b p s).inRange h
  | modGet => exact (ownModGet_sampled b p s).inRange h
  | tempoSet => exact h.ownTempoSet b p
  | beat => exact (ownBeat_sampled b p s).inRange h
  | slotSet => exact h.ownSlotSet b p
  | slotClear => exact h.ownSlotClear b p
  | slotGet => exact (ownSlotGet_sampled b p s).inRange h
  | commit => exact h.ownCommit b p
  | discard => exact h.ownDiscard b p
  | schedCancel => exact h.ownSchedCancel b p
  | condEnable => exact (ownCondEnable_sampled b p s).inRange h
  | alertRelease => exact (ownAlertRelease_sampled b p s).inRange h
  | probeSet => exact (ownProbeSet_sampled b p s).inRange h
  | probeGet => exact (ownProbeGet_sampled b p s).inRange h
  | countersGet => exact (ownCountersGet_sampled b p s).inRange h

/-- Halts, the clock and the tracker write nothing that carries samples (R140, R169, R170). -/
theorem timed {t : State} (h : s.SamplesInRange) (ht : (∃ n, execRateMeasurementComplete n s = .next t) ∨
    execRateMeasurementLoss s = .next t ∨ execClockLost s = .next t ∨ execTrackerTimeout s = .next t) : t.SamplesInRange := by
  refine h.of_sampled ?_
  obtain ⟨n, ht⟩ | ht | ht | ht := ht <;> obtain rfl := Host.Outcome.next.inj ht <;> (repeat' split) <;> simp

end State.SamplesInRange

/-- The sample range is kept by every owner and every event. -/
theorem State.SamplesInRange.kept : KeptByTables State.SamplesInRange where
  frame ht h := h.of_sampled (State.sampled_of_tables ht)
  owner k b p _ h := h.owner k b p
  reset _ h := h.resetBlocks
  completion l _ h := h.completeComputation l
  boundary _ h := h.boundary
  schedule _ h := h.testSchedule
  clockBack _ h := h.clockBack
  computation _ h := h.beginComputation
  clear _ _ h ht := h.pageClear ht
  input _ _ _ _ _ h ht := h.inputSlot ht
  measured _ _ _ h ht := h.timed (.inl ⟨_, ht⟩)
  lost _ _ h ht := h.timed (.inr (ht.imp_right .inl))
  timeout _ _ h ht := h.timed (.inr (.inr (.inr ht)))

/-- Settles O6: each owner and each event keeps the range of the parts that carry samples, by the part it writes. -/
theorem samplesStayInRange : Obligations.SamplesStayInRange := fun _ _ => State.SamplesInRange.kept.step

end Sys2Proof.Machine
end

section
/-! SUPPORT. The sequence step (R15): its bits, its iterates, its full period, and the word of a frame (R16). -/

namespace Sys2Proof.Machine

/-! ## One step -/

theorem seqStep_getLsbD_zero (r : SeqState) : (seqStep r).getLsbD 0 = seqBit r := by
  unfold seqStep; split <;> simp [*]

theorem seqStep_getLsbD_succ (r : SeqState) {k : Nat} (h : k < 14) : (seqStep r).getLsbD (k + 1) = r.getLsbD k := by
  unfold seqStep
  split <;> simp [BitVec.getLsbD_one] <;> omega

theorem seqStep_zero : seqStep 0 = 0 := by decide

/-- A step loses nothing: the oldest bit comes back from the bit produced. -/
theorem seqStep_injective : Function.Injective seqStep := fun a b h => by
  have low (k : Nat) (hk : k < 14) : a.getLsbD k = b.getLsbD k := by
    rw [← seqStep_getLsbD_succ a hk, ← seqStep_getLsbD_succ b hk, h]
  have produced : seqBit a = seqBit b := by rw [← seqStep_getLsbD_zero, ← seqStep_getLsbD_zero, h]
  have top : a.getLsbD 14 = b.getLsbD 14 := by
    unfold seqBit at produced
    rwa [low 13 (by decide), Bool.xor_right_inj] at produced
  refine BitVec.eq_of_getLsbD_eq fun k hk => ?_
  rcases Nat.lt_succ_iff_lt_or_eq.mp hk with hk | rfl
  · exact low k hk
  · exact top

/-- A step is linear: it keeps exclusive-or. -/
theorem seqStep_xor (a b : SeqState) : seqStep (a ^^^ b) = seqStep a ^^^ seqStep b := by
  refine BitVec.eq_of_getLsbD_eq fun k hk => ?_
  rw [BitVec.getLsbD_xor]
  cases k with
  | zero =>
    simp only [seqStep_getLsbD_zero, seqBit, BitVec.getLsbD_xor]
    cases a.getLsbD 13 <;> cases a.getLsbD 14 <;> simp
  | succ k =>
    have hk : k < 14 := by omega
    rw [seqStep_getLsbD_succ _ hk, seqStep_getLsbD_succ _ hk, seqStep_getLsbD_succ _ hk, BitVec.getLsbD_xor]

/-! ## Iterates -/

theorem repeat_seqStep (n : Nat) (r : SeqState) : Nat.repeat seqStep n r = seqStep^[n] r := by
  induction n with
  | zero => rfl
  | succ n ih => rw [Function.iterate_succ_apply', ← ih]; rfl

theorem seqRun_fst (n : Nat) (r : SeqState) (w : Nat) : (seqRun n r w).1 = seqStep^[n] r := by
  induction n generalizing r w with
  | zero => rfl
  | succ n ih => rw [Function.iterate_succ_apply, ← ih]; rfl

theorem patternState_eq (r : SeqState) : patternState r = seqStep^[24] r := seqRun_fst 24 r 0

theorem cycleRandom_eq (r : SeqState) : cycleRandom r = seqStep^[15] r := seqRun_fst 15 r 0

theorem iterate_seqStep_ne_zero (n : Nat) {r : SeqState} (h : r ≠ 0) : seqStep^[n] r ≠ 0 := fun hn =>
  h (seqStep_injective.iterate n (hn.trans (Function.iterate_fixed seqStep_zero n).symm))

theorem patternState_ne_zero {r : SeqState} (h : r ≠ 0) : patternState r ≠ 0 := patternState_eq r ▸ iterate_seqStep_ne_zero 24 h

theorem cycleRandom_ne_zero {r : SeqState} (h : r ≠ 0) : cycleRandom r ≠ 0 := cycleRandom_eq r ▸ iterate_seqStep_ne_zero 15 h

/-! ## Many steps at once

The states are the combinations of the first iterates of 1, and a step is linear, so that the state after `m` steps of 1 gives the
state after `m` steps of any other. -/

/-- What bit `i` of a state contributes after the steps that took 1 to `r`: with `r` 1 it is the bit itself. -/
def seqTerm (i : Nat) (r : SeqState) : SeqState := if i < 14 then seqStep^[i] r else seqStep^[i] r ^^^ r

/-- The terms of the bits of `q`, added up. -/
def seqCombine (q r : SeqState) : SeqState :=
  (List.range 15).foldl (fun acc i => if q.getLsbD i then acc ^^^ seqTerm i r else acc) 0

theorem seqTerm_seqStep (i : Nat) (r : SeqState) : seqTerm i (seqStep r) = seqStep (seqTerm i r) := by
  unfold seqTerm
  split
  · rw [← Function.iterate_succ_apply, Function.iterate_succ_apply']
  · rw [← Function.iterate_succ_apply, Function.iterate_succ_apply', seqStep_xor]

theorem seqCombine_seqStep (q r : SeqState) : seqCombine q (seqStep r) = seqStep (seqCombine q r) := by
  have fold (l : List Nat) (acc : SeqState) :
      l.foldl (fun acc i => if q.getLsbD i then acc ^^^ seqTerm i (seqStep r) else acc) (seqStep acc) =
        seqStep (l.foldl (fun acc i => if q.getLsbD i then acc ^^^ seqTerm i r else acc) acc) := by
    induction l generalizing acc with
    | nil => rfl
    | cons i l ih =>
      rw [List.foldl_cons, List.foldl_cons, ← ih]
      split
      · rw [seqTerm_seqStep, seqStep_xor]
      · rfl
  have h := fold (List.range 15) 0
  rwa [seqStep_zero] at h

theorem seqTerm_one : ∀ i < 15, seqTerm i 1 = BitVec.twoPow 15 i := by decide +kernel

theorem seqCombine_one (q : SeqState) : seqCombine q 1 = q := by
  have fold (n : Nat) (hn : n ≤ 15) (j : Nat) :
      ((List.range n).foldl (fun acc i => if q.getLsbD i then acc ^^^ seqTerm i 1 else acc) 0).getLsbD j =
        (decide (j < n) && q.getLsbD j) := by
    induction n with
    | zero => simp
    | succ n ih =>
      rw [List.range_succ, List.foldl_append, List.foldl_cons, List.foldl_nil, seqTerm_one n (by omega)]
      split <;> rename_i hq
      · rw [BitVec.getLsbD_xor, ih (by omega), BitVec.getLsbD_twoPow]
        by_cases hj : n = j
        · subst hj; simp [hq]; omega
        · have : j < n + 1 ↔ j < n := by omega
          simp [hj, this]
      · rw [ih (by omega)]
        by_cases hj : n = j
        · subst hj; simp [hq]
        · have : j < n + 1 ↔ j < n := by omega
          simp [this]
  exact BitVec.eq_of_getLsbD_eq fun j hj => by
    rw [seqCombine, fold 15 (by omega)]; simp [hj]

/-- The state after `m` steps of 1 gives that of every state. -/
theorem iterate_seqStep (m : Nat) (q : SeqState) : seqStep^[m] q = seqCombine q (seqStep^[m] 1) := by
  induction m with
  | zero => exact (seqCombine_one q).symm
  | succ m ih => rw [Function.iterate_succ_apply', Function.iterate_succ_apply', seqCombine_seqStep, ih]

/-- The state that 1 reaches after the number of steps that the bits spell, high bit first: doubling by `seqCombine`. -/
def seqPower (bits : List Bool) : SeqState :=
  bits.foldl (fun r b => if b then seqStep (seqCombine r r) else seqCombine r r) 1

theorem iterate_one_eq_seqPower (n : Nat) (bits : List Bool) (hn : bits.foldl (fun n b => 2 * n + b.toNat) 0 = n) :
    seqStep^[n] 1 = seqPower bits := by
  have fold (l : List Bool) (m : Nat) : l.foldl (fun r b => if b then seqStep (seqCombine r r) else seqCombine r r) (seqStep^[m] 1) =
      seqStep^[l.foldl (fun n b => 2 * n + b.toNat) m] 1 := by
    induction l generalizing m with
    | nil => rfl
    | cons b l ih =>
      have double : seqCombine (seqStep^[m] 1) (seqStep^[m] 1) = seqStep^[2 * m] 1 := by
        rw [← iterate_seqStep, ← Function.iterate_add_apply, Nat.two_mul]
      rw [List.foldl_cons, List.foldl_cons, ← ih, double]
      cases b
      · rfl
      · rw [Bool.toNat_true, Function.iterate_succ_apply']; rfl
  exact hn ▸ (fold bits 0).symm

/-! ## The full period (R15) -/

theorem seqStep_period (r : SeqState) : seqStep^[32767] r = r := by
  have one : seqPower (List.replicate 15 true) = 1 := by decide +kernel
  rw [iterate_seqStep, iterate_one_eq_seqPower 32767 (List.replicate 15 true) rfl, one, seqCombine_one]

/-- No proper divisor of 32,767 = 7 × 31 × 151 brings 1 back. -/
theorem minimalPeriod_one : Function.minimalPeriod seqStep 1 = 32767 := by
  have by7 : seqStep^[4681] 1 ≠ 1 := by
    rw [iterate_one_eq_seqPower 4681 [true, false, false, true, false, false, true, false, false, true, false, false, true] rfl]
    decide +kernel
  have by31 : seqStep^[1057] 1 ≠ 1 := by
    rw [iterate_one_eq_seqPower 1057 [true, false, false, false, false, true, false, false, false, false, true] rfl]
    decide +kernel
  have by151 : seqStep^[217] 1 ≠ 1 := by
    rw [iterate_one_eq_seqPower 217 [true, true, false, true, true, false, false, true] rfl]
    decide +kernel
  obtain ⟨e, he⟩ := Function.IsPeriodicPt.minimalPeriod_dvd (show Function.IsPeriodicPt seqStep 32767 1 from seqStep_period 1)
  by_contra hne
  obtain ⟨p, hp, m, rfl⟩ := Nat.exists_prime_and_dvd (n := e) (by rintro rfl; exact hne (by omega))
  have returns (n : Nat) (hn : n = Function.minimalPeriod seqStep 1 * m) : seqStep^[n] 1 = 1 := by
    rw [hn]; exact (Function.isPeriodicPt_minimalPeriod seqStep 1).mul_const m
  have hpd : p ∣ 7 * (31 * 151) := ⟨Function.minimalPeriod seqStep 1 * m, by rw [show 7 * (31 * 151) = 32767 from rfl, he]; ring⟩
  rw [hp.dvd_mul, hp.dvd_mul, Nat.prime_dvd_prime_iff_eq hp (by norm_num), Nat.prime_dvd_prime_iff_eq hp (by norm_num),
    Nat.prime_dvd_prime_iff_eq hp (by norm_num)] at hpd
  rcases hpd with rfl | rfl | rfl
  · exact by7 (returns _ (by nlinarith))
  · exact by31 (returns _ (by nlinarith))
  · exact by151 (returns _ (by nlinarith))

/-- A state whose least period is 32,767 goes through all non-zero states. -/
theorem exists_iterate_of_minimalPeriod {r q : SeqState} (hr : r ≠ 0) (hp : Function.minimalPeriod seqStep r = 32767) (hq : q ≠ 0) :
    ∃ n < 32767, seqStep^[n] r = q := by
  have ne_zero {x : SeqState} (hx : x ≠ 0) : 1 ≤ x.toNat := Nat.one_le_iff_ne_zero.mpr fun h => hx (BitVec.eq_of_toNat_eq h)
  have sub : (Finset.range 32767).image (fun n => (seqStep^[n] r).toNat) ⊆ Finset.Ico 1 32768 := fun x hx => by
    obtain ⟨n, -, rfl⟩ := Finset.mem_image.mp hx
    exact Finset.mem_Ico.mpr ⟨ne_zero (iterate_seqStep_ne_zero n hr), (seqStep^[n] r).isLt⟩
  have inj : Set.InjOn (fun n => (seqStep^[n] r).toNat) (Finset.range 32767) := fun m hm n hn h =>
    Function.iterate_injOn_Iio_minimalPeriod (by simpa [hp] using hm) (by simpa [hp] using hn) (BitVec.eq_of_toNat_eq h)
  have all := Finset.eq_of_subset_of_card_le sub (by rw [Finset.card_image_of_injOn inj]; simp)
  obtain ⟨n, hn, h⟩ := Finset.mem_image.mp (all ▸ Finset.mem_Ico.mpr ⟨ne_zero hq, q.isLt⟩)
  exact ⟨n, Finset.mem_range.mp hn, BitVec.eq_of_toNat_eq h⟩

theorem minimalPeriod_seqStep {r : SeqState} (hr : r ≠ 0) : Function.minimalPeriod seqStep r = 32767 := by
  obtain ⟨n, -, rfl⟩ := exists_iterate_of_minimalPeriod (by decide) minimalPeriod_one hr
  rw [Function.minimalPeriod_apply_iterate (Function.mk_mem_periodicPts (by decide) (seqStep_period 1)), minimalPeriod_one]

/-! ## The word of a frame (R16) -/

/-- The bits that a run appends are those its steps produce, the first the most significant. -/
theorem seqRun_testBit (n : Nat) (r : SeqState) (w j : Nat) :
    (seqRun n r w).2.testBit j = if j < n then seqBit (seqStep^[n - 1 - j] r) else w.testBit (j - n) := by
  induction n generalizing r w with
  | zero => rfl
  | succ n ih =>
    rw [show seqRun (n + 1) r w = seqRun n (seqStep r) (2 * w + (seqBit r).toNat) from rfl, ih]
    rcases Nat.lt_trichotomy j n with h | rfl | h
    · rw [if_pos h, if_pos (by omega), ← Function.iterate_succ_apply, show (n - 1 - j).succ = n + 1 - 1 - j by omega]
    · rw [if_neg (by omega), if_pos (by omega), Nat.sub_self, show j + 1 - 1 - j = 0 by omega]
      cases h : seqBit r <;> simp [h]
    · rw [if_neg (by omega), if_neg (by omega), show j - n = j - (n + 1) + 1 by omega, Nat.testBit_succ]
      congr 1
      cases seqBit r
      · simp
      · simp; omega

/-- Bit 23 − n of a pattern word, counted from its last, is the bit that step n + 1 produced. -/
theorem patternWordOf_getLsbD (r : SeqState) {n : Nat} (hn : n < 24) :
    (patternWordOf r).getLsbD (23 - n) = (seqStep^[n + 1] r).getLsbD 0 := by
  rw [patternWordOf, BitVec.getLsbD_ofNat, seqRun_testBit, if_pos (by omega), Function.iterate_succ_apply', seqStep_getLsbD_zero,
    show 24 - 1 - (23 - n) = n by omega]
  simp; omega

/-- The bits of a state are the last bits produced. -/
theorem iterate_seqStep_getLsbD (n j : Nat) (hj : j < 15) (r : SeqState) :
    (seqStep^[n + j] r).getLsbD j = (seqStep^[n] r).getLsbD 0 := by
  induction j with
  | zero => rfl
  | succ j ih => rw [← Nat.add_assoc, Function.iterate_succ_apply', seqStep_getLsbD_succ _ (by omega), ih (by omega)]

/-- The last 15 bits of a frame's word are the state at its end (R16). -/
theorem patternWordOf_setWidth (r : SeqState) : (patternWordOf r).setWidth 15 = patternState r := by
  refine BitVec.eq_of_getLsbD_eq fun j hj => ?_
  have h := patternWordOf_getLsbD r (n := 23 - j) (by omega)
  rw [show 23 - (23 - j) = j by omega] at h
  rw [BitVec.getLsbD_setWidth, h, patternState_eq, ← iterate_seqStep_getLsbD _ j hj, show 23 - j + 1 + j = 24 by omega]
  simp [hj]

/-- Settles O58: a step by its bits, the full period from the order of 1 and linearity, and the word from the bits produced. -/
theorem sequenceStep : Obligations.SequenceStep := by
  unfold Obligations.SequenceStep
  refine ⟨fun r => ⟨seqStep_getLsbD_zero r, fun k => seqStep_getLsbD_succ r⟩, fun r hr q hq => ?_, fun r hr => ⟨?_, ?_⟩, seqStep_zero,
    fun r => ⟨?_, patternWordOf_setWidth r, fun n hn => ?_⟩⟩
  · obtain ⟨n, hn, h⟩ := exists_iterate_of_minimalPeriod hr (minimalPeriod_seqStep hr) hq
    exact ⟨n, hn, (repeat_seqStep n r).trans h⟩
  · rw [repeat_seqStep, seqStep_period]
  · intro m n hmn hn h
    rw [repeat_seqStep, repeat_seqStep, Function.iterate_eq_iterate_iff_of_lt_minimalPeriod] at h
    · omega
    · rw [minimalPeriod_seqStep hr]; omega
    · rw [minimalPeriod_seqStep hr]; omega
  · rw [repeat_seqStep, patternState_eq]
  · rw [repeat_seqStep, patternWordOf_getLsbD r hn]

end Sys2Proof.Machine
end

section
/-! SUPPORT. The sequence states: the generator's, the checker's reference and the modulators' (R16, R17, R129), and that no step
makes one of them zero. -/

namespace Sys2Proof.Machine

/-- The sequence states of the part. -/
def State.sequences (s : State) : SeqState × Option SeqState × (ModIx → SeqState) :=
  (s.port.generator, s.port.checker.reference, fun i => s.mu.mods[i].random)

/-- No sequence state is zero. -/
def State.SequencesNonZero (s : State) : Prop :=
  s.port.generator ≠ 0 ∧ s.port.checker.reference ≠ some 0 ∧ ∀ i : ModIx, s.mu.mods[i].random ≠ 0

theorem State.SequencesNonZero.of_sequences {s t : State} (h : s.SequencesNonZero) (he : t.sequences = s.sequences) :
    t.SequencesNonZero := by
  simp only [State.sequences, Prod.mk.injEq] at he
  obtain ⟨hg, hr, hm⟩ := he
  exact ⟨hg ▸ h.1, hr ▸ h.2.1, fun i => congrFun hm i ▸ h.2.2 i⟩

/-! ## The operations that write no sequence state -/

/-- A change of the modulators that keeps each one's random state. -/
theorem State.withMu_sequences (s : State) (u : ModUnit) (h : ∀ i : ModIx, u.mods[i].random = s.mu.mods[i].random) :
    ({ s with mu := u } : State).sequences = s.sequences := by
  simp only [State.sequences, Prod.mk.injEq, true_and]
  exact funext h

theorem State.withBeatPhase_sequences (s : State) (n : Nat) :
    ({ s with mu := { s.mu with beatPhase := n } } : State).sequences = s.sequences := rfl

@[simp] theorem State.note_sequences (s : State) (f : Written → Written) : (s.note f).sequences = s.sequences := rfl

theorem State.mapMod_sequences (s : State) (m : ModIx) {f : Modulator → Modulator} (hf : ∀ x, (f x).random = x.random) :
    (s.mapMod m f).sequences = s.sequences :=
  s.withMu_sequences _ fun i => by rw [updateAt_get]; split <;> simp [hf]

theorem Modulator.write_random (b : Nat) (p : ModParts) (m : Modulator) : (m.write b p).random = m.random := by
  unfold Modulator.write
  cases p.rate <;> cases h : p.lock <;> (try rename_i l; cases l) <;> rfl

@[simp] theorem State.applyModSet_sequences (s : State) (i : ModIx) (p : ModParts) : (s.applyModSet i p).sequences = s.sequences :=
  s.mapMod_sequences i (Modulator.write_random _ p)

@[simp] theorem State.beatOccurs_sequences (s : State) : s.beatOccurs.sequences = s.sequences := by
  unfold State.beatOccurs
  rw [State.note_sequences]
  exact s.withMu_sequences _ fun i => by rw [mapIx_get]; split <;> rfl

@[simp] theorem State.markBeat_sequences (s : State) : s.markBeat.sequences = s.sequences := by
  unfold State.markBeat; rw [State.beatOccurs_sequences, State.note_sequences]; rfl

@[simp] theorem State.setTempo_sequences (s : State) (b : Nat) : (s.setTempo b).sequences = s.sequences := by
  have retempo (u : ModUnit) (hu : u.mods = mapIx (fun _ (m : Modulator) => match m.lock with
      | some l => { m with increment := lockIncrement b l }
      | none => m) s.mu.mods) : State.sequences { s with mu := u } = s.sequences :=
    s.withMu_sequences u fun i => by rw [hu, mapIx_get]; split <;> rfl
  have follow (l : List TapIx) (u : State) : (l.foldl State.followTempo u).sequences = u.sequences :=
    foldl_keeps State.sequences _ (fun u t => by simp [State.sequences]) l u
  unfold State.setTempo
  dsimp only
  (repeat' split)
  · rfl
  · rw [State.note_sequences, State.withBeatPhase_sequences, follow]; exact retempo _ rfl
  · rw [follow]; exact retempo _ rfl

@[simp] theorem State.armTracker_sequences (s : State) : s.armTracker.sequences = s.sequences := by
  unfold State.armTracker; rw [State.markBeat_sequences]; rfl

@[simp] theorem State.acceptMark_sequences (s : State) (i : Nat) : (s.acceptMark i).sequences = s.sequences := by
  unfold State.acceptMark; dsimp only; rw [State.markBeat_sequences, State.setTempo_sequences]; rfl

@[simp] theorem State.writeMapEntry_sequences (s : State) (i : EntryIx) (e : MapEntry) :
    (s.writeMapEntry i e).sequences = s.sequences := rfl

@[simp] theorem State.fillMap_sequences (s : State) (i j : EntryIx) (st : Bool) (e : MapEntry) :
    (s.fillMap i j st e).sequences = s.sequences := by
  unfold State.fillMap
  exact foldl_keeps (α := EntryIx × Nat) State.sequences _ (fun u x => u.writeMapEntry_sequences x.1 _) _ _

@[simp] theorem State.applyTapSet_sequences (s : State) (t : TapIx) (p : TapParts) : (s.applyTapSet t p).sequences = s.sequences := by
  simp [State.sequences]

@[simp] theorem State.applyTapFill_sequences (s : State) (i : SlotIx) (a b : TapIx) (f : FillField) :
    (s.applyTapFill i a b f).sequences = s.sequences := by simp [State.sequences]

@[simp] theorem State.withSru_sequences (s : State) (u : Sru) : ({ s with sru := u } : State).sequences = s.sequences := rfl

@[simp] theorem Entry.apply_sequences (s : State) (e : Entry) : (e.apply s).sequences = s.sequences := by
  cases e with
  | lineSet | slotSet => rfl
  | tapSet t p i => exact s.applyTapSet_sequences t p
  | tapFill i a b f => exact s.applyTapFill_sequences i a b f
  | modSet m p => exact s.applyModSet_sequences m p
  | tempoSet b => exact s.setTempo_sequences b
  | outmapSet i v => rfl
  | outmapFill i j st v => exact s.fillMap_sequences i j st v

@[simp] theorem handleEntry_sequences (x : State × Tallied) (e : Entry) : (handleEntry x e).1.sequences = x.1.sequences := by
  unfold handleEntry
  (repeat' split)
  · cases e.slot <;> rfl
  · cases e.slot <;> rfl
  · exact Entry.apply_sequences _ e

@[simp] theorem State.raise_sequences (s : State) (d : Detail) : (s.raise d).sequences = s.sequences := by simp [State.sequences]

@[simp] theorem applyList_sequences (l : List Entry) (s : State) : (applyList l s).1.sequences = s.sequences := by
  have fold (n : Tallied) : (l.foldl handleEntry (s, n)).1.sequences = s.sequences :=
    foldl_keeps (fun x : State × Tallied => x.1.sequences) _ handleEntry_sequences l (s, n)
  unfold applyList
  dsimp only
  split <;> simp [fold]

@[simp] theorem State.applyAction_sequences (s : State) (a : Action) : (s.applyAction a).sequences = s.sequences := by
  unfold State.applyAction
  dsimp only
  rw [applyList_sequences]
  split
  · rfl
  · rw [State.raise_sequences]; rfl

@[simp] theorem State.applyDueWork_sequences (s : State) : s.applyDueWork.sequences = s.sequences := by
  unfold State.applyDueWork
  dsimp only
  rw [applyList_sequences, foldl_keeps State.sequences _ State.applyAction_sequences]
  rfl

/-! ## The owners -/

/-- Only INIT and CHECK_SET write a sequence state. -/
theorem ownerOf_sequences (k : Kind) (hk : k ≠ .init ∧ k ≠ .checkSet) (b : Bool) (p : List Byte) (s : State) :
    (ownerOf k b p s).Leaves fun t => t.sequences = s.sequences := by
  have entered (e : Entry) (c : Bool) : (stageEntry e c s).Leaves fun t => t.sequences = s.sequences := by
    unfold stageEntry; split <;> simp [State.sequences]
  cases k with
  | init => exact absurd rfl hk.1
  | checkSet => exact absurd rfl hk.2
  | status | reset | timeGet | outmapGet | poolGet | tempoGet | schedGet | condGet | discard | checkRead | checkClear | probeGet =>
    rfl
  | start => show (ownStart b p s).Leaves _; unfold ownStart; split <;> simp [State.sequences]
  | stop => show (ownStop b p s).Leaves _; unfold ownStop; split <;> simp [State.sequences]
  | halt => show (ownHalt b p s).Leaves _; unfold ownHalt; split <;> simp [State.sequences]
  | resume => show (ownResume b p s).Leaves _; unfold ownResume; (repeat' split) <;> simp [State.sequences]
  | portDrive => show (ownPortDrive b p s).Leaves _; unfold ownPortDrive; (repeat' split) <;> simp [State.sequences]
  | portBypass => show (ownPortBypass b p s).Leaves _; unfold ownPortBypass; (repeat' split) <;> simp [State.sequences]
  | outmapSet => show (ownOutmapSet b p s).Leaves _; unfold ownOutmapSet; (repeat' split) <;> simp [entered]
  | outmapFill => show (ownOutmapFill b p s).Leaves _; unfold ownOutmapFill; (repeat' split) <;> simp [entered]
  | lineOpen =>
    show (ownLineOpen b p s).Leaves _
    unfold ownLineOpen
    (repeat' split) <;> try exact Verdict.leaves_refuse _ _
    dsimp only
    split
    · exact Verdict.leaves_refuse _ _
    · unfold admitLine; split <;> simp [State.sequences]
  | lineSet =>
    show (ownLineSet b p s).Leaves _
    unfold ownLineSet
    iterate 4 (split <;> try exact Verdict.leaves_refuse _ _)
    cases b
    · rfl
    · exact entered _ _
  | lineClose => show (ownLineClose b p s).Leaves _; unfold ownLineClose; (repeat' split) <;> simp [State.sequences]
  | lineReleaseTag => show (ownLineReleaseTag b p s).Leaves _; unfold ownLineReleaseTag; split <;> simp [State.sequences]
  | lineReleaseAll => simp [ownerOf, ownLineReleaseAll, State.sequences]
  | lineGet => show (ownLineGet b p s).Leaves _; unfold ownLineGet; (repeat' split) <;> simp
  | tapCreate => show (ownTapCreate b p s).Leaves _; unfold ownTapCreate; (repeat' split) <;> simp [State.sequences]
  | tapSet => show (ownTapSet b p s).Leaves _; unfold ownTapSet; (repeat' split) <;> simp [entered]
  | tapFill => show (ownTapFill b p s).Leaves _; unfold ownTapFill; (repeat' split) <;> simp [entered]
  | tapFree => show (ownTapFree b p s).Leaves _; unfold ownTapFree; (repeat' split) <;> simp [State.sequences]
  | tapGet => show (ownTapGet b p s).Leaves _; unfold ownTapGet; (repeat' split) <;> simp
  | modSet =>
    show (ownModSet b p s).Leaves _
    unfold ownModSet
    iterate 5 (split <;> try exact Verdict.leaves_refuse _ _)
    cases b
    · exact State.applyModSet_sequences _ _ _
    · exact entered _ _
  | modSync =>
    show (ownModSync b p s).Leaves _
    unfold ownModSync
    (repeat' split) <;> try exact Verdict.leaves_refuse _ _
    exact s.mapMod_sequences _ fun _ => rfl
  | modGet => show (ownModGet b p s).Leaves _; unfold ownModGet; (repeat' split) <;> simp
  | tempoSet => show (ownTempoSet b p s).Leaves _; unfold ownTempoSet; (repeat' split) <;> simp [entered]
  | beat => show (ownBeat b p s).Leaves _; unfold ownBeat; (repeat' split) <;> simp
  | slotSet =>
    show (ownSlotSet b p s).Leaves _
    unfold ownSlotSet
    iterate 5 (split <;> try exact Verdict.leaves_refuse _ _)
    cases b
    · rfl
    · exact entered _ _
  | slotClear => show (ownSlotClear b p s).Leaves _; unfold ownSlotClear; (repeat' split) <;> simp [State.sequences]
  | slotGet => show (ownSlotGet b p s).Leaves _; unfold ownSlotGet; (repeat' split) <;> simp [State.sequences]
  | commit => show (ownCommit b p s).Leaves _; unfold ownCommit commitNow commitAt; (repeat' split) <;> simp
  | schedCancel => show (ownSchedCancel b p s).Leaves _; unfold ownSchedCancel; (repeat' split) <;> simp [State.sequences]
  | condEnable => show (ownCondEnable b p s).Leaves _; unfold ownCondEnable; split <;> simp [State.sequences]
  | alertRelease => show (ownAlertRelease b p s).Leaves _; unfold ownAlertRelease; split <;> simp [State.sequences]
  | probeSet => show (ownProbeSet b p s).Leaves _; unfold ownProbeSet; (repeat' split) <;> simp [State.sequences]
  | countersGet => show (ownCountersGet b p s).Leaves _; unfold ownCountersGet; (repeat' split) <;> simp [State.sequences]

/-! ## What writes them -/

@[simp] theorem State.startScrub_sequences (s : State) : s.startScrub.sequences = s.sequences := by simp [State.sequences]

/-- What the checker loads is not zero (R17). -/
theorem loadReference_ne_zero (w : Word24) : loadReference w ≠ some 0 := by
  unfold loadReference
  split
  · exact nofun
  · rename_i h; exact fun he => h (Option.some.inj he)

/-- An examined word leaves a reference that is not zero (R19, R20). -/
theorem Checker.examine_reference (w : Word24) {c : Checker} (h : c.reference ≠ some 0) : (c.examine w).1.reference ≠ some 0 := by
  have stepped {r : SeqState} (hr : c.reference = some r) : some (patternState r) ≠ some 0 := fun he =>
    patternState_ne_zero (fun h0 => h (h0 ▸ hr)) (Option.some.inj he)
  unfold Checker.examine
  split
  · exact h
  · exact loadReference_ne_zero w
  · rename_i r _ hr
    (repeat' split)
    · exact stepped hr
    · exact stepped hr
    · exact loadReference_ne_zero w
  · exact h
  · rename_i r _ hr
    dsimp only
    (repeat' split)
    · exact stepped hr
    · exact loadReference_ne_zero w
    · exact stepped hr

theorem Modulator.advance_random (i p : Nat) {m : Modulator} (h : m.random ≠ 0) : (m.advance i p).random ≠ 0 := by
  unfold Modulator.advance
  split
  · exact h
  · exact cycleRandom_ne_zero h

theorem State.advanceMods_get (c : Computation) (s : State) (i : ModIx) :
    (s.advanceMods c).mu.mods[i] = if c.written.modPhase[i] then s.mu.mods[i]
      else s.mu.mods[i].advance c.view.mods[i].increment c.view.mods[i].phase :=
  mapIx_get _ _ i

theorem seqOne_ne_zero : (1 : SeqState) ≠ 0 := by decide

theorem modsReset_random (i : ModIx) : modsReset[i].random ≠ 0 := by
  revert i; decide

namespace State.SequencesNonZero

variable {s : State}

theorem checkWord (h : s.SequencesNonZero) (n : Nat) (w : Word24) (fresh : Bool) : (s.checkWord n w fresh).SequencesNonZero := by
  unfold State.checkWord
  dsimp only
  split
  · exact h
  · split
    · exact h
    · have h1 : SequencesNonZero { s with port := { s.port with
          checker := (({ s.port.checker with justSet := false } : Checker).examine w).1 } } :=
        ⟨h.1, Checker.examine_reference w h.2.1, h.2.2⟩
      split
      · exact h1.of_sequences (raise_sequences _ _)
      · exact h1

theorem advanceMods (h : s.SequencesNonZero) (c : Computation) : (s.advanceMods c).SequencesNonZero := by
  refine ⟨h.1, h.2.1, fun i => ?_⟩
  rw [State.advanceMods_get]
  split
  · exact h.2.2 i
  · exact Modulator.advance_random _ _ (h.2.2 i)

theorem advanceBeat (h : s.SequencesNonZero) (c : Computation) : (s.advanceBeat c).SequencesNonZero := by
  unfold State.advanceBeat
  (repeat' split)
  · exact h
  · exact of_sequences (s := s) h (by rw [beatOccurs_sequences, withBeatPhase_sequences])
  · exact h

/-- The completion, stage by stage: of the sequence states it writes the modulators' alone (R104, R128). -/
theorem finish (h : s.SequencesNonZero) (c : Computation) : (s.finish c).SequencesNonZero := by
  have faults (l : List (LineIx × Nat)) {u : State} (hu : u.SequencesNonZero) :
      SequencesNonZero (l.foldl (State.reportFault c.stamp) u) :=
    hu.of_sequences (foldl_keeps State.sequences _ (fun u f => by simp [State.sequences]) l u)
  have stores (cs : List (Dest × Int)) (l : List LineIx) {u : State} (hu : u.SequencesNonZero) :
      SequencesNonZero (l.foldl (State.storeLine c cs) u) :=
    hu.of_sequences (foldl_keeps State.sequences _ (fun u k => by simp [State.sequences]) l u)
  have buses (cs : List (Dest × Int)) {u : State} (hu : u.SequencesNonZero) : SequencesNonZero (u.deliverBuses c cs) :=
    of_sequences (hu.of_sequences (foldl_keeps State.sequences (State.clipBus c cs) (fun u b => by simp [State.sequences])
      (List.finRange 16) u)) rfl
  have counts (o : Vector TapOut 256) (l : List TapIx) {u : State} (hu : u.SequencesNonZero) :
      SequencesNonZero (l.foldl (State.countClamps c o) u) :=
    hu.of_sequences (foldl_keeps State.sequences _ (fun u t => by simp [State.sequences]) l u)
  have saturations (cs : List (Dest × Int)) (l : List LineIx) {u : State} (hu : u.SequencesNonZero) :
      SequencesNonZero (l.foldl (State.saturateLine c cs) u) :=
    hu.of_sequences (foldl_keeps State.sequences _ (fun u k => by simp [State.sequences]) l u)
  have taps (l : List TapIx) {u : State} (hu : u.SequencesNonZero) : SequencesNonZero (l.foldl (State.advanceTap c) u) :=
    hu.of_sequences (foldl_keeps State.sequences _ (fun u t => by simp [State.sequences]) l u)
  have probe (o : Vector TapOut 256) (cs : List (Dest × Int)) {u : State} (hu : u.SequencesNonZero) :
      SequencesNonZero ((u.advanceFade c).offerProbe c o cs) := hu.of_sequences (by simp [State.sequences])
  have releases (l : List TapIx) {u : State} (hu : u.SequencesNonZero) : SequencesNonZero (l.foldl (State.completeRelease c) u) :=
    hu.of_sequences (foldl_keeps State.sequences _ (fun u t => by simp [State.sequences]) l u)
  have closes {u : State} (hu : u.SequencesNonZero) : SequencesNonZero u.completeCloses.alertTest :=
    hu.of_sequences (by simp [State.sequences])
  have slots {u : State} (hu : u.SequencesNonZero) : SequencesNonZero (u.advanceSlots c) := hu
  have start : SequencesNonZero { s with fe := { s.fe with computation := none } } := h
  exact closes (releases _ (probe _ _ (advanceBeat (advanceMods (taps _ (slots (saturations _ _ (counts _ _ (buses _
    (stores _ _ (faults _ start))))))) c) c)))

theorem completeComputation (h : s.SequencesNonZero) (l : List Strike) : (s.completeComputation l).SequencesNonZero := by
  have h1 : SequencesNonZero { s with dmc := { s.dmc with memory := l.foldl Memory.strike s.dmc.memory } } := h
  unfold State.completeComputation
  dsimp only
  split
  · exact h1
  · exact h1.finish _

theorem boundary (h : s.SequencesNonZero) : SequencesNonZero { s with port := s.port.boundary s.ec, ec := s.ec.boundary } := by
  have hs : (s.port.shiftHistory s.ec.timeSlots).generator = s.port.generator ∧
      (s.port.shiftHistory s.ec.timeSlots).checker = s.port.checker := by
    unfold Port.shiftHistory; split <;> exact ⟨rfl, rfl⟩
  refine ⟨?_, ?_, h.2.2⟩ <;> unfold Port.boundary <;> dsimp only
  · split
    · exact patternState_ne_zero (hs.1 ▸ h.1)
    · exact hs.1 ▸ h.1
  · split <;> exact hs.2 ▸ h.2.1

theorem clear {t : State} (h : s.SequencesNonZero) (ht : execPageClearComplete s = .next t) : t.SequencesNonZero := by
  obtain rfl := Host.Outcome.next.inj ht
  split
  · exact h
  · exact h.of_sequences (by simp [State.sequences])

theorem input {t : State} {n : Nat} {w : Word24} {fresh : Bool} (h : s.SequencesNonZero)
    (ht : execInputSlotReceived n w fresh s = .next t) : t.SequencesNonZero := by
  obtain rfl := Host.Outcome.next.inj ht
  split
  · have h1 : SequencesNonZero { s with port := { s.port with receive := s.port.receive.set n w.toInt } } := h
    exact h1.checkWord n w fresh
  · exact h

theorem timed {t : State} (h : s.SequencesNonZero) (ht : (∃ n, execRateMeasurementComplete n s = .next t) ∨
    execRateMeasurementLoss s = .next t ∨ execClockLost s = .next t ∨ execTrackerTimeout s = .next t) : t.SequencesNonZero := by
  refine h.of_sequences ?_
  obtain ⟨n, ht⟩ | ht | ht | ht := ht <;> obtain rfl := Host.Outcome.next.inj ht <;> (repeat' split) <;> simp [State.sequences]

theorem owner (h : s.SequencesNonZero) (k : Kind) (b : Bool) (p : List Byte) : (ownerOf k b p s).Leaves SequencesNonZero := by
  by_cases hk : k ≠ .init ∧ k ≠ .checkSet
  · have hv := ownerOf_sequences k hk b p s
    cases hv' : ownerOf k b p s with
    | refuse st => trivial
    | done t st q => rw [hv'] at hv; exact h.of_sequences hv
  · obtain rfl | rfl : k = .init ∨ k = .checkSet := by tauto
    · show (ownInit b p s).Leaves _
      unfold ownInit
      (repeat' split) <;> try exact Verdict.leaves_refuse _ _
      unfold State.initBlocks
      refine of_sequences ?_ (startScrub_sequences _)
      exact ⟨seqOne_ne_zero, (Option.some_ne_none _).symm, modsReset_random⟩
    · show (ownCheckSet b p s).Leaves _
      unfold ownCheckSet
      (repeat' split) <;> try exact Verdict.leaves_refuse _ _
      · exact ⟨h.1, nofun, h.2.2⟩
      · exact ⟨h.1, nofun, h.2.2⟩

end State.SequencesNonZero

/-- Every owner and every event keeps the sequence states non-zero. -/
theorem State.SequencesNonZero.kept : KeptByTables State.SequencesNonZero where
  frame ht h := by
    simp only [State.tables, Prod.mk.injEq] at ht
    obtain ⟨-, hp, -, -, hm, -, -⟩ := ht
    exact h.of_sequences (by simp only [State.sequences, hp, hm])
  owner k b p _ h := h.owner k b p
  reset _ _ := ⟨seqOne_ne_zero, (Option.some_ne_none _).symm, modsReset_random⟩
  completion l _ h := h.completeComputation l
  boundary _ h := h.boundary
  schedule _ h := h
  clockBack s h := h.of_sequences (by simp [State.sequences])
  computation s h := h.of_sequences s.applyDueWork_sequences
  clear _ _ h ht := h.clear ht
  input _ _ _ _ _ h ht := h.input ht
  measured _ _ _ h ht := h.timed (.inl ⟨_, ht⟩)
  lost _ _ h ht := h.timed (.inr (ht.imp_right .inl))
  timeout _ _ h ht := h.timed (.inr (.inr (.inr ht)))

/-- Settles O15: a run of the sequence step is injective and fixes zero, so what is advanced by it stays non-zero. -/
theorem sequencesStayNonZero : Obligations.SequencesStayNonZero := fun _ _ => State.SequencesNonZero.kept.step

end Sys2Proof.Machine
end

section
/-! SUPPORT. Requests of the port unit and the queries: what each owner answers (R7, R10 to R14, R18, R21), and the range of a fill. -/

namespace Sys2Proof.Machine

/-! ## A taken request, answered -/

section
variable {k : Kind} {r : Request} {s t : State} {owner : Bool → List Byte → State → Verdict} {st : Status} {q : List Byte}

/-- A taken request that its owner refuses changes the link alone (R175). -/
theorem State.take_refused (h : Applies k r s) (hl : r.payload.length = k.payloadLength)
    (ho : owner false r.payload s.accepted = .refuse st) : s.take k r owner = s.accepted.replied k r st [] := by
  rw [State.take_of_applies owner h hl, ho]; rfl

/-- A taken request whose owner writes nothing of the link is answered behind what waits (R175, R176). -/
theorem State.take_done (h : Applies k r s) (hl : r.payload.length = k.payloadLength)
    (ho : owner false r.payload s.accepted = .done t st q) (ht : t.link = s.accepted.link) :
    s.take k r owner = t.replied k r st q := by
  rw [State.take_of_applies owner h hl, ho]; exact State.conclude_of_quiet _ _ _ _ _ _ (by rw [ht])

end

/-! ## The queries -/

/-- Settles O20: each query's owner answers at once, with the payload its rules list. -/
theorem queriesReportAndKeep : Obligations.QueriesReportAndKeep := by
  intro r s hp
  refine ⟨fun h => ?_, fun h => ?_, fun h => ?_, fun h => ?_, fun h => ?_, fun h => ?_, fun h => ?_⟩ <;>
    refine congrArg Host.Outcome.next (State.take_done h (by rw [hp]; rfl) ?_ rfl)
  · rfl
  · rfl
  · rfl
  · show Verdict.done _ _ (poolPayload s.dmc) = _
    unfold poolPayload
    cases s.dmc.scrubber <;> rfl
  · show Verdict.done _ _ (tempoPayload s.mu) = _
    unfold tempoPayload
    cases s.mu.tracker.lastMark <;> simp [flagByte]
  · rfl
  · rfl

/-! ## The port flags (R10, R11) -/

@[simp] theorem flagOf_flagByte (b : Bool) : flagOf (flagByte b) = some b := by cases b <;> rfl

theorem flagOf_none {v : Byte} (h0 : v ≠ 0) (h1 : v ≠ 1) : flagOf v = none := by rw [flagOf, if_neg h0, if_neg h1]

/-- Settles O26: the flag byte is decoded, and either stored or refused. -/
theorem portFlagsAreSet : Obligations.PortFlagsAreSet := by
  refine ⟨fun r s b hp => ⟨fun h => ?_, fun h => ?_⟩, fun r s v hp h0 h1 => ⟨fun h => ?_, fun h => ?_⟩⟩
  · exact congrArg Host.Outcome.next (State.take_done h (by rw [hp]; rfl) (by rw [hp, ownPortDrive, flagOf_flagByte]; rfl) rfl)
  · exact congrArg Host.Outcome.next (State.take_done h (by rw [hp]; rfl) (by rw [hp, ownPortBypass, flagOf_flagByte]; rfl) rfl)
  · exact congrArg Host.Outcome.next (State.take_refused h (by rw [hp]; rfl) (by rw [hp, ownPortDrive, flagOf_none h0 h1]))
  · exact congrArg Host.Outcome.next (State.take_refused h (by rw [hp]; rfl) (by rw [hp, ownPortBypass, flagOf_none h0 h1]))

/-! ## The checker requests (R18, R21) -/

/-- Settles O29: the three owners write the checker record as R18 and R21 say. -/
theorem checkerRequests : Obligations.CheckerRequests := by
  refine fun r s => ⟨fun v h hp => ⟨?_, fun hv => ?_, fun h255 hv => ?_⟩, fun h hp => ?_, fun h hp => ?_⟩
  · rintro rfl
    exact congrArg Host.Outcome.next (State.take_done h (by rw [hp]; rfl) (by rw [hp]; rfl) rfl)
  · have h255 : v ≠ 255 := by
      rintro rfl
      have hS : s.ec.timeSlots ≤ 32 := by
        unfold Engine.timeSlots
        rcases s.ec.rate with _ | _ | _ <;> decide
      exact absurd hv (by simp; omega)
    refine congrArg Host.Outcome.next (State.take_done h (by rw [hp]; rfl) (st := .ok) (q := []) ?_ rfl)
    rw [hp, ownCheckSet, if_neg h255, State.accepted_ec, if_pos hv]
    rfl
  · refine congrArg Host.Outcome.next (State.take_refused h (by rw [hp]; rfl) ?_)
    rw [hp, ownCheckSet, if_neg h255, State.accepted_ec, if_neg hv]
  · refine congrArg Host.Outcome.next (State.take_done h (by rw [hp]; rfl) ?_ rfl)
    cases hs : s.port.checker.slot <;> simp [ownCheckRead, hs, byteOrNone]
  · exact congrArg Host.Outcome.next (State.take_done h (by rw [hp]; rfl) rfl rfl)

/-! ## One entry of the output slot map (R7, R12) -/

theorem OutMode.ofCode_none {n : Nat} (h : 6 < n) : OutMode.ofCode n = none :=
  match n, h with
  | _ + 7, _ => rfl

theorem OutMode.ofCode_code (m : OutMode) : OutMode.ofCode (byteOf m.code).toNat = some m := by cases m <;> rfl

section
variable {e m s3 s2 s1 s0 : Byte} {s : State} {i : EntryIx}

/-- OUTMAP_SET with a good entry and a good mode: the source decides. -/
theorem ownOutmapSet_of_mode (hi : i.val = e.toNat) {mode : OutMode} (hm : OutMode.ofCode m.toNat = some mode) :
    ownOutmapSet false [e, m, s3, s2, s1, s0] s =
      match mapEntryFor s.ec.timeSlots mode (signedOf [s3, s2, s1, s0]) with
      | none => .refuse .badIndex
      | some (x, clamped) => .done (s.writeMapEntry i x) (okStatus clamped) [] := by
  have hx : index 32 e.toNat = some i := by rw [← hi, index_some i.isLt]
  simp only [ownOutmapSet, hx, hm]
  rfl

end

/-- A fixed source in the sample range is stored as it is. -/
theorem clampSample_of_inSample {v : Int} (h : InSample v) : clampSample v = v := clampInt_of_mem h.1 h.2

/-- Settles O27: the entry, the mode and the source are decoded in this order. -/
theorem outmapSetWritesOneEntry : Obligations.OutmapSetWritesOneEntry := by
  intro r s e m s3 s2 s1 s0 h hp
  have hl : r.payload.length = Kind.outmapSet.payloadLength := by rw [hp]; rfl
  refine ⟨fun he => ?_, fun i hi => ?_⟩
  · refine congrArg Host.Outcome.next (State.take_refused h hl ?_)
    rw [hp, ownOutmapSet, index_none (by omega)]
  have hx : index 32 e.toNat = some i := by rw [← hi, index_some i.isLt]
  have refused {mode : OutMode} (hm : OutMode.ofCode m.toNat = some mode)
      (hv : mapEntryFor s.ec.timeSlots mode (signedOf [s3, s2, s1, s0]) = none) :
      exec (.outmapSet r) s = .next (s.accepted.replied .outmapSet r .badIndex []) :=
    congrArg Host.Outcome.next (State.take_refused h hl (by rw [hp, ownOutmapSet_of_mode hi hm, State.accepted_ec, hv]))
  have wrote {mode : OutMode} (hm : OutMode.ofCode m.toNat = some mode) {x : MapEntry} {clamped : Bool}
      (hv : mapEntryFor s.ec.timeSlots mode (signedOf [s3, s2, s1, s0]) = some (x, clamped)) :
      exec (.outmapSet r) s = .next (({ s.accepted with port := { s.port with edited := s.port.edited.set i x } } : State).replied
        .outmapSet r (okStatus clamped) []) :=
    congrArg Host.Outcome.next (State.take_done h hl (by rw [hp, ownOutmapSet_of_mode hi hm, State.accepted_ec, hv]; rfl) rfl)
  refine ⟨fun hm => ?_, ?_, ?_, ?_, ?_, ?_, ?_, ?_⟩
  · refine congrArg Host.Outcome.next (State.take_refused h hl ?_)
    simp only [hp, ownOutmapSet, hx, OutMode.ofCode_none hm]
  · rintro rfl
    exact ⟨fun hv => wrote (mode := .ret) rfl (if_pos hv), fun hv => refused (mode := .ret) rfl (if_neg hv)⟩
  · rintro rfl
    exact ⟨fun hv => wrote (mode := .directFast) rfl (if_pos hv), fun hv => refused (mode := .directFast) rfl (if_neg hv)⟩
  · rintro rfl
    exact ⟨fun hv => wrote (mode := .directAligned) rfl (if_pos hv), fun hv => refused (mode := .directAligned) rfl (if_neg hv)⟩
  · rintro rfl
    have fixed {v : Int} (hv : clampSample (signedOf [s3, s2, s1, s0]) = v) :=
      wrote (mode := .fixed) rfl (x := { mode := .fixed, source := v }) (clamped := decide (v ≠ signedOf [s3, s2, s1, s0]))
        (by rw [← hv]; rfl)
    refine ⟨fun hv => ?_, fun hv => ?_, fun hv => ?_⟩
    · simpa [okStatus] using fixed (clampSample_of_inSample hv)
    · have := fixed (v := -8388608) (by unfold clampSample clampInt; omega)
      rwa [decide_eq_true (by omega)] at this
    · have := fixed (v := 8388607) (by unfold clampSample clampInt; omega)
      rwa [decide_eq_true (by omega)] at this
  · rintro rfl; exact wrote (mode := .mute) rfl rfl
  · rintro rfl; exact wrote (mode := .released) rfl rfl
  · rintro rfl; exact wrote (mode := .pattern) rfl rfl

end Sys2Proof.Machine
end

section
namespace Sys2Proof.Machine

/-! ## A range of entries (R13, R80) -/

/-- The record `m` places behind `first` in a table of `n`, wrapping at its end. -/
def rangeAt {n : Nat} (first : Fin n) (m : Nat) : Fin n := ⟨(first.val + m) % n, Nat.mod_lt _ first.pos⟩

/-- How many places `last` stands behind `first`, wrapping at the end of the table. -/
def rangeSpan {n : Nat} (first last : Fin n) : Nat := (last.val + n - first.val) % n

/-- The records of a table from number `a` up to below `c`. -/
theorem finRange_filter_val {n a c : Nat} (ha : a ≤ c) (hc : c ≤ n) {p : Fin n → Prop} [DecidablePred p]
    (hp : ∀ i, p i ↔ a ≤ i.val ∧ i.val < c) :
    ((List.finRange n).filter fun i => decide (p i)).map Fin.val = (List.range (c - a)).map (a + ·) := by
  have parts : List.range n = (List.range a ++ (List.range (c - a)).map (a + ·)) ++ (List.range (n - c)).map (c + ·) := by
    have below : List.range c = List.range a ++ (List.range (c - a)).map (a + ·) := by
      rw [← List.range_add, Nat.add_sub_cancel' ha]
    rw [← below, ← List.range_add, Nat.add_sub_cancel' hc]
  have vals : (List.finRange n).filter (fun i => decide (p i)) =
      (List.finRange n).filter ((fun k : Nat => decide (a ≤ k ∧ k < c)) ∘ Fin.val) :=
    List.filter_congr fun i _ => by simp [hp]
  rw [vals, ← List.filter_map, List.map_coe_finRange_eq_range, parts, List.filter_append, List.filter_append,
    List.filter_eq_nil_iff.mpr, List.filter_eq_self.mpr, List.filter_eq_nil_iff.mpr]
  · simp
  · simp
  · simp; omega
  · simp; omega

/-- A range is its span's places counted from its first record. -/
theorem wrapRange_eq_map {n : Nat} (first last : Fin n) :
    wrapRange first last = (List.range (rangeSpan first last + 1)).map (rangeAt first) := by
  have hf := first.isLt
  have hl := last.isLt
  refine List.map_injective_iff.mpr Fin.val_injective ?_
  rw [List.map_map, show Fin.val ∘ rangeAt first = fun m => (first.val + m) % n from rfl]
  unfold wrapRange rangeSpan
  split <;> rename_i h <;> rw [Fin.le_def] at h
  · rw [finRange_filter_val (a := first) (c := last + 1) (by omega) (by omega) fun i => by rw [Fin.le_def, Fin.le_def]; omega,
      show last.val + n - first.val = last.val - first.val + n by omega, Nat.add_mod_right, Nat.mod_eq_of_lt (by omega),
      show last.val + 1 - first.val = last.val - first.val + 1 by omega]
    refine List.map_congr_left fun m hm => ?_
    rw [List.mem_range] at hm
    exact (Nat.mod_eq_of_lt (by omega)).symm
  · rw [List.map_append, finRange_filter_val (a := first) (c := n) (by omega) (by omega) fun i => by rw [Fin.le_def]; omega,
      finRange_filter_val (a := 0) (c := last + 1) (by omega) (by omega) fun i => by rw [Fin.le_def]; omega,
      Nat.mod_eq_of_lt (by omega), show last.val + n - first.val + 1 = n - first.val + (last.val + 1) by omega, List.range_add,
      List.map_append, List.map_map]
    congr 1
    · refine List.map_congr_left fun m hm => ?_
      rw [List.mem_range] at hm
      exact (Nat.mod_eq_of_lt (by omega)).symm
    · refine List.map_congr_left fun m hm => ?_
      rw [List.mem_range] at hm
      show 0 + m = (first.val + (n - first.val + m)) % n
      rw [show first.val + (n - first.val + m) = m + n by omega, Nat.add_mod_right, Nat.mod_eq_of_lt (by omega), Nat.zero_add]

/-- Writing the places of a range in their order: a record within the range takes the value of its place. -/
theorem foldl_set_range {α : Type} {n : Nat} (first : Fin n) (g : Nat → α) (v : Vector α n) (m : Nat) (hm : m ≤ n) (x : Fin n) :
    ((List.range m).foldl (fun v i => v.set (rangeAt first i) (g i)) v)[x] =
      if (x.val + n - first.val) % n < m then g ((x.val + n - first.val) % n) else v[x] := by
  have hx := x.isLt
  have hf := first.isLt
  have place (k : Nat) (hk : k < n) : (first.val + k) % n = x.val ↔ (x.val + n - first.val) % n = k := by
    rcases Nat.lt_or_ge (first.val + k) n with h | h <;> rcases Nat.lt_or_ge x.val first.val with h' | h'
    · rw [Nat.mod_eq_of_lt h, Nat.mod_eq_of_lt (by omega)]; omega
    · rw [Nat.mod_eq_of_lt h, Nat.mod_eq_sub_mod (by omega), Nat.mod_eq_of_lt (by omega)]; omega
    · rw [Nat.mod_eq_sub_mod h, Nat.mod_eq_of_lt (by omega), Nat.mod_eq_of_lt (by omega)]; omega
    · rw [Nat.mod_eq_sub_mod h, Nat.mod_eq_of_lt (by omega), Nat.mod_eq_sub_mod (by omega), Nat.mod_eq_of_lt (by omega)]; omega
  induction m with
  | zero => simp
  | succ m ih =>
    rw [List.range_succ, List.foldl_append, List.foldl_cons, List.foldl_nil, Fin.getElem_fin, Vector.getElem_set]
    split
    · rename_i h
      rw [(place m (by omega)).mp h, if_pos (by omega)]
    · rename_i h
      have hne : (x.val + n - first.val) % n ≠ m := fun he => h ((place m (by omega)).mpr he)
      rw [← Fin.getElem_fin, ih (by omega)]
      simp only [show (x.val + n - first.val) % n < m + 1 ↔ (x.val + n - first.val) % n < m by omega]

/-- The edited map with a range filled, place by place (R13). -/
def fillEntries (S : Nat) (i j : EntryIx) (st : Bool) (e : MapEntry) (v : Vector MapEntry 32) : Vector MapEntry 32 :=
  (List.range (rangeSpan i j + 1)).foldl (fun v n => v.set (rangeAt i n) (steppedEntry S st e n)) v

/-- An OUTMAP_FILL writes the edited map alone. -/
theorem State.fillMap_eq (i j : EntryIx) (st : Bool) (e : MapEntry) (s : State) :
    s.fillMap i j st e = { s with port := { s.port with edited := fillEntries s.ec.timeSlots i j st e s.port.edited } } := by
  have fold (l : List Nat) (v : Vector MapEntry 32) :
      (l.map fun n => (rangeAt i n, n)).foldl (fun (u : State) x => u.writeMapEntry x.1 (steppedEntry u.ec.timeSlots st e x.2))
          { s with port := { s.port with edited := v } } =
        { s with port := { s.port with
          edited := l.foldl (fun v n => v.set (rangeAt i n) (steppedEntry s.ec.timeSlots st e n)) v } } := by
    induction l generalizing v with
    | nil => rfl
    | cons n l ih => exact ih _
  have zipped (m : Nat) : ((List.range m).map (rangeAt i)).zipIdx = (List.range m).map fun n => (rangeAt i n, n) := by
    refine List.ext_getElem (by simp) fun k hk _ => ?_
    simp
  unfold State.fillMap
  rw [wrapRange_eq_map, zipped]
  exact fold _ s.port.edited

/-- A filled range reads, place by place, the stepped source, and every other entry as before. -/
theorem fillEntries_get (S : Nat) (i j : EntryIx) (st : Bool) (e : MapEntry) (v : Vector MapEntry 32) (x : EntryIx) :
    (fillEntries S i j st e v)[x] =
      if (x.val + 32 - i.val) % 32 ≤ rangeSpan i j then steppedEntry S st e ((x.val + 32 - i.val) % 32) else v[x] := by
  have h : rangeSpan i j < 32 := Nat.mod_lt _ (by decide)
  unfold fillEntries
  rw [foldl_set_range i _ v _ (by omega) x]
  simp only [Nat.lt_succ_iff]

section
variable {first last mode step s3 s2 s1 s0 : Byte} {s : State} {i j : EntryIx}

/-- OUTMAP_FILL with a good range, mode and step: the source decides. -/
theorem ownOutmapFill_of_range (hi : i.val = first.toNat) (hj : j.val = last.toNat) {m : OutMode}
    (hm : OutMode.ofCode mode.toNat = some m) {st : Bool} (hs : flagOf step = some st) :
    ownOutmapFill false [first, last, mode, step, s3, s2, s1, s0] s =
      match mapEntryFor s.ec.timeSlots m (signedOf [s3, s2, s1, s0]) with
      | none => .refuse .badIndex
      | some (x, clamped) => .done (s.fillMap i j st x) (okStatus clamped) [byteOf (rangeSpan i j + 1)] := by
  have hx : index 32 first.toNat = some i := by rw [← hi, index_some i.isLt]
  have hy : index 32 last.toNat = some j := by rw [← hj, index_some j.isLt]
  have hlen : (wrapRange i j).length = rangeSpan i j + 1 := by rw [wrapRange_eq_map, List.length_map, List.length_range]
  simp only [ownOutmapFill, hx, hy, hm, hs, hlen]
  rfl

end

/-- The entry that a good source is stored as (R7). -/
def storedEntry (m : OutMode) (v : Int) : MapEntry where
  mode := m
  source := match m with
    | .ret | .directFast | .directAligned => v
    | .fixed => clampSample v
    | .mute | .released | .pattern => 0

/-- The entry that a source gives, when it is good for its mode (R7). -/
theorem mapEntryFor_of_good {S : Nat} {m : OutMode} {v : Int} (hr : m = .ret → 0 ≤ v ∧ v ≤ 15)
    (hd : m = .directFast ∨ m = .directAligned → 0 ≤ v ∧ v < S) :
    mapEntryFor S m v = some (storedEntry m v, decide (m = .fixed ∧ clampSample v ≠ v)) := by
  cases m with
  | ret => exact if_pos (hr rfl)
  | directFast => exact if_pos (hd (.inl rfl))
  | directAligned => exact if_pos (hd (.inr rfl))
  | fixed => simp [mapEntryFor, storedEntry]
  | mute | released | pattern => rfl

/-- The clamp of a sample changes it exactly when it lies outside the sample range. -/
theorem clampSample_ne_iff (v : Int) : clampSample v ≠ v ↔ v < -8388608 ∨ 8388607 < v := by
  unfold clampSample clampInt; omega

theorem flagOf_eq_none {v : Byte} (h : 1 < v.toNat) : flagOf v = none :=
  flagOf_none (by rintro rfl; exact absurd h (by decide)) (by rintro rfl; exact absurd h (by decide))

theorem flagOf_of_le_one {v : Byte} (h : v.toNat ≤ 1) : ∃ b, flagOf v = some b := by
  rcases Nat.le_one_iff_eq_zero_or_eq_one.mp h with h | h
  · exact ⟨false, by rw [BitVec.eq_of_toNat_eq (y := 0) h]; rfl⟩
  · exact ⟨true, by rw [BitVec.eq_of_toNat_eq (y := 1) h]; rfl⟩

theorem OutMode.ofCode_of_le {n : Nat} (h : n ≤ 6) : ∃ m, OutMode.ofCode n = some m := by
  interval_cases n <;> exact ⟨_, rfl⟩

/-- Settles O28: the checks in their order, then the fill as a write of each place of the range. -/
theorem outmapFillWritesItsRange : Obligations.OutmapFillWritesItsRange := by
  refine ⟨fun r s first last mode step s3 s2 s1 s0 h hp => ?_, fun r s first last mode step s3 s2 s1 s0 i j m st h hp hi hj hm hs => ?_⟩
  · have hl : r.payload.length = Kind.outmapFill.payloadLength := by rw [hp]; rfl
    refine ⟨fun hb => congrArg Host.Outcome.next (State.take_refused h hl ?_), fun hf hla => ?_⟩
    · rw [hp, ownOutmapFill]
      rcases hb with hb | hb
      · simp only [index_none (show ¬ first.toNat < 32 by omega)]
      · simp only [index_none (show ¬ last.toNat < 32 by omega)]
        split <;> simp_all
    have hx : index 32 first.toNat = some ⟨first.toNat, by omega⟩ := index_some (by omega)
    have hy : index 32 last.toNat = some ⟨last.toNat, by omega⟩ := index_some (by omega)
    refine ⟨fun hm => ?_, fun hm hs => ?_, fun hs => ?_⟩
    · refine congrArg Host.Outcome.next (State.take_refused h hl ?_)
      simp only [hp, ownOutmapFill, hx, hy, OutMode.ofCode_none hm]
    · obtain ⟨m, hm⟩ := OutMode.ofCode_of_le hm
      refine congrArg Host.Outcome.next (State.take_refused h hl ?_)
      simp only [hp, ownOutmapFill, hx, hy, hm, flagOf_eq_none hs]
    · obtain ⟨st, hs⟩ := flagOf_of_le_one hs
      have refused {m : OutMode} (hm : OutMode.ofCode mode.toNat = some m)
          (hv : mapEntryFor s.ec.timeSlots m (signedOf [s3, s2, s1, s0]) = none) :
          exec (.outmapFill r) s = .next (s.accepted.replied .outmapFill r .badIndex []) :=
        congrArg Host.Outcome.next (State.take_refused h hl
          (by rw [hp, ownOutmapFill_of_range (i := ⟨first.toNat, by omega⟩) (j := ⟨last.toNat, by omega⟩) rfl rfl hm hs,
            State.accepted_ec, hv]))
      refine ⟨?_, ?_⟩
      · rintro rfl hv; exact refused (m := .ret) rfl (if_neg hv)
      · rintro (rfl | rfl) hv
        · exact refused (m := .directFast) rfl (if_neg hv)
        · exact refused (m := .directAligned) rfl (if_neg hv)
  · subst hm hs
    have hl : r.payload.length = Kind.outmapFill.payloadLength := by rw [hp]; rfl
    intro src hr hd span source
    refine ⟨fillEntries s.ec.timeSlots i j st (storedEntry m src) s.port.edited,
      congrArg Host.Outcome.next (State.take_done h hl ?_ rfl), fun x => ?_⟩
    · rw [hp, ownOutmapFill_of_range hi hj (OutMode.ofCode_code m) (flagOf_flagByte st), State.accepted_ec,
        mapEntryFor_of_good hr hd]
      simp only [State.fillMap_eq, okStatus, decide_eq_true_eq, clampSample_ne_iff]
      rfl
    · rw [fillEntries_get]
      split
      · rw [if_pos (by assumption)]
        cases m <;> cases st <;> rfl
      · rw [if_neg (by assumption)]

end Sys2Proof.Machine
end

section
/-! SUPPORT. INIT (R164): the blocks it leaves, field by field. -/

namespace Sys2Proof.Machine

theorem rateOf_eq_none {v : Byte} (h : 1 < v.toNat) : rateOf v = none := by
  rw [rateOf, if_neg (by rintro rfl; exact absurd h (by decide)), if_neg (by rintro rfl; exact absurd h (by decide))]

theorem haltActionOf_eq_none {v : Byte} (h : 1 < v.toNat) : haltActionOf v = none := by
  rw [haltActionOf, if_neg (by rintro rfl; exact absurd h (by decide)), if_neg (by rintro rfl; exact absurd h (by decide))]

theorem rateOf_code (x : Rate) : rateOf (byteOf x.code) = some x := by cases x <;> rfl

theorem haltActionOf_code (x : HaltAction) : haltActionOf (byteOf x.code) = some x := by cases x <;> rfl

/-- The pages in ascending order begin with page 0. -/
theorem allPages_eq_cons : allPages = 0 :: allPages.drop 1 := by
  unfold allPages
  rw [List.finRange_succ]
  rfl

/-- INIT leaves page 0 in the scrubber and every other page dirty (R33). -/
theorem State.initBlocks_eq (rate : Rate) (action : HaltAction) (s : State) :
    s.initBlocks rate action =
      let zeros := List.replicate rate.timeSlots (0 : Int)
      let port : Port :=
        { Port.resetValue with
          receive := zeros, previous := zeros, before := zeros
          drive := s.port.drive, bypass := s.port.bypass, latch := s.port.latch }
      { s with
        ec := { Engine.resetValue with engine := .initializing, rate := some rate, haltAction := action }
        port := port.formReturn rate.timeSlots
        dmc := { Dmc.resetValue s.abandonedMemory with scrubber := some 0, dirty := allPages.drop 1 }
        taps := Vector.replicate 256 Tap.freeValue
        mu := ModUnit.resetValue (rate.fs / 2)
        fe := FrameEngine.resetValue
        sru := Sru.resetValue
        cu := { s.cu with probe := Probe.resetValue, counters := Counters.zero }
        choices := s.choices + s.dmc.scrubber.toList.length } := by
  unfold State.initBlocks State.startScrub
  simp only [Dmc.resetValue]
  split
  · rename_i p rest _ hd
    rw [allPages_eq_cons] at hd
    obtain ⟨rfl, rfl⟩ := List.cons.inj hd
    rfl
  · rename_i h
    exact absurd allPages_eq_cons (h _ _ rfl)

/-- Modulator `i` starts with its own random state (R144). -/
theorem modsReset_get (i : ModIx) : modsReset[i] = Modulator.resetValue i := by
  simp [modsReset]

/-- Settles O22: INIT's bytes are decoded, and the blocks it leaves are read off. -/
theorem initSetsEveryBlock : Obligations.InitSetsEveryBlock := by
  refine ⟨fun r s rate action h hp hb => congrArg Host.Outcome.next (State.take_refused h (by rw [hp]; rfl) ?_),
    fun r s rate action h hp => ?_⟩
  · rw [hp, ownInit]
    rcases hb with hb | hb
    · rw [rateOf_eq_none hb]
    · rw [haltActionOf_eq_none hb]
      cases rateOf rate <;> rfl
  · refine ⟨((s.accepted.initBlocks rate action).replied .init r .ok []),
      congrArg Host.Outcome.next (State.take_done h (by rw [hp]; rfl) ?_ ?_), ?_⟩
    · rw [hp, ownInit, rateOf_code, haltActionOf_code]
    · rw [State.initBlocks_eq]
    · rw [State.initBlocks_eq]
      refine ⟨rfl, fun k => Vector.getElem_replicate .., rfl, rfl, rfl, rfl, by rw [State.replied_dmc], fun k => Vector.getElem_replicate .., rfl, rfl, rfl,
        modsReset_get, fun k => Vector.getElem_replicate .., rfl, fun k => Vector.getElem_replicate .., rfl, rfl, rfl, rfl, rfl, rfl,
        rfl, fun k => ⟨Vector.getElem_replicate .., Vector.getElem_replicate ..⟩,
        fun k => ⟨Vector.getElem_replicate .., Vector.getElem_replicate ..⟩, rfl, rfl, rfl, rfl, rfl, rfl, rfl⟩

end Sys2Proof.Machine
end

section
/-! SUPPORT. Received samples and the pattern checker (R3, R17 to R20). -/

namespace Sys2Proof.Machine

/-! ## The checker on one word, case by case -/

section
variable {c : Checker} {w : Word24} {x : SeqState}

theorem Checker.examine_off (h : c.state = .off) : c.examine w = (c, false) := by simp [Checker.examine, h]

theorem Checker.examine_loads (h : c.state = .seeking) (hr : c.reference = none) :
    c.examine w = ({ c with reference := loadReference w }, false) := by simp [Checker.examine, h, hr]

theorem Checker.examine_reloads (h : c.state = .seeking) (hr : c.reference = some x) (hw : patternWordOf x ≠ w) :
    c.examine w = ({ c with reference := loadReference w, consecutive := 0 }, false) := by simp [Checker.examine, h, hr, hw]

theorem Checker.examine_counts (h : c.state = .seeking) (hr : c.reference = some x) (hw : patternWordOf x = w)
    (hc : c.consecutive ≠ 3) :
    c.examine w = ({ c with reference := some (patternState x), consecutive := c.consecutive + 1 }, false) := by
  simp [Checker.examine, h, hr, hw, hc]

theorem Checker.examine_locks (h : c.state = .seeking) (hr : c.reference = some x) (hw : patternWordOf x = w)
    (hc : c.consecutive = 3) :
    c.examine w = ({ c with reference := some (patternState x), state := .locked, consecutive := 0 }, true) := by
  simp [Checker.examine, h, hr, hw, hc]

/-- A word examined while locked, its wrong bits counted. -/
theorem Checker.examine_locked (h : c.state = .locked) (hr : c.reference = some x) :
    c.examine w =
      let d := bitsDiffering (patternWordOf x) w
      let counted := { c with running := c.running + BitVec.ofNat 16 d, reference := some (patternState x) }
      if d < 6 then ({ counted with consecutive := 0 }, false)
      else if c.consecutive + 1 = 4 then
        ({ counted with state := .seeking, consecutive := 0, reference := loadReference w }, true)
      else ({ counted with consecutive := c.consecutive + 1 }, false) := by
  simp [Checker.examine, h, hr]

end

/-! ## The word of the checked slot -/

section
variable {s : State} {n : Nat} {w : Word24} {fresh : Bool} {c : Checker}

/-- A word of another slot is not examined. -/
theorem State.checkWord_of_ne (h : s.port.checker.slot ≠ some n) : s.checkWord n w fresh = s := if_pos h

/-- A word that began before its CHECK_SET is not examined (R18). -/
theorem State.checkWord_of_stale (h : s.port.checker.slot = some n) (hs : s.port.checker.justSet = true) (hf : fresh = false) :
    s.checkWord n w fresh = { s with port := { s.port with checker := { s.port.checker with justSet := false } } } := by
  simp [State.checkWord, h, hs, hf]

/-- A word of the checked slot is examined, and a change of lock raises CHECK_LOCK. -/
theorem State.checkWord_of_examined (h : s.port.checker.slot = some n) (hf : s.port.checker.justSet = false ∨ fresh = true)
    {b : Bool} (hx : Checker.examine w { s.port.checker with justSet := false } = (c, b)) :
    s.checkWord n w fresh =
      if b then ({ s with port := { s.port with checker := c } } : State).raise (.checkLock n c.state)
      else { s with port := { s.port with checker := c } } := by
  have hj : ¬ (s.port.checker.justSet && !fresh) = true := by rcases hf with hf | hf <;> simp [hf]
  rw [State.checkWord, if_neg (not_not.mpr h), if_neg hj]
  simp only [hx]

/-- A sample that is received (R2, R3). -/
theorem execInputSlotReceived_of_operates (hl : s.port.latch.engine.portsOperate = true) (he : s.ec.engine.portsOperate = true)
    (hn : n < s.ec.timeSlots) :
    exec (.inputSlotReceived n w fresh) s =
      .next (({ s with port := { s.port with receive := s.port.receive.set n w.toInt } } : State).checkWord n w fresh) :=
  congrArg Host.Outcome.next (if_pos (by simp [hl, he, hn]))

/-- A sample that is discarded (R2, R22). -/
theorem execInputSlotReceived_of_idle
    (h : s.port.latch.engine.portsOperate = false ∨ s.ec.engine.portsOperate = false ∨ s.ec.timeSlots ≤ n) :
    exec (.inputSlotReceived n w fresh) s = .next s :=
  congrArg Host.Outcome.next (if_neg (by rcases h with h | h | h <;> simp [h]))

end

/-- Settles O56: the sample is received, and the checker's cases are taken one by one. -/
theorem inputSlotsAndTheChecker : Obligations.InputSlotsAndTheChecker := by
  refine fun s n w fresh => ⟨execInputSlotReceived_of_idle, fun hl he hn => ?_⟩
  intro c received answers checked load
  have received_then {u : State} (h : received.checkWord n w fresh = u) : answers u :=
    (execInputSlotReceived_of_operates hl he hn).trans (congrArg _ h)
  refine ⟨fun h => received_then (State.checkWord_of_ne h), fun h hs hf => received_then (State.checkWord_of_stale h hs hf),
    fun h hf => ?_⟩
  have quiet {d : Checker} (hx : c.examine w = (d, false)) : answers (checked d) :=
    received_then ((State.checkWord_of_examined (s := received) h hf hx).trans (if_neg Bool.false_ne_true))
  have change {d : Checker} (hx : c.examine w = (d, true)) : answers ((checked d).raise (.checkLock n d.state)) :=
    received_then ((State.checkWord_of_examined (s := received) h hf hx).trans (if_pos rfl))
  refine ⟨fun hc => quiet (Checker.examine_off hc), fun hc hr => quiet (Checker.examine_loads hc hr), fun x hx =>
    ⟨fun hc => ⟨fun hw => quiet (Checker.examine_reloads hc hx hw), fun hw h3 => quiet (Checker.examine_counts hc hx hw h3),
      fun hw h3 => change (Checker.examine_locks hc hx hw h3)⟩, fun hc => ?_⟩⟩
  have locked := Checker.examine_locked (w := w) hc hx
  intro d counted
  refine ⟨fun hd => quiet (locked.trans (if_pos ?_)), fun hd h3 => quiet (locked.trans ((if_neg ?_).trans (if_neg ?_))),
    fun hd h3 => change (locked.trans ((if_neg ?_).trans (if_pos ?_)))⟩
  · exact Nat.lt_succ_of_le hd
  · exact Nat.not_lt.mpr hd
  · exact fun h4 => h3 (Nat.succ.inj h4)
  · exact Nat.not_lt.mpr hd
  · exact congrArg (· + 1) h3

end Sys2Proof.Machine
end

section
/-! SUPPORT. The state after a reset meets the invariants (R22, R32, R65, R88, R89, R144, R161, R171, R187). -/

namespace Sys2Proof.Machine

/-! ## A free record of each table -/

/-- A free line holds no page and has no length (R39). -/
theorem Line.freeValue_housed : Line.freeValue.Housed where
  none _ := rfl
  full h := by rcases h with h | h <;> exact absurd h (by decide)
  count h := absurd rfl h
  length h := absurd rfl h

/-- An unused tap rests at its target (R66). -/
theorem Tap.freeValue_retuneAgrees : Tap.freeValue.RetuneAgrees where
  target := rfl
  idle _ := rfl
  fading _ _ _ _ h := nomatch h
  gliding _ h := nomatch h
  length := ⟨by decide, by decide⟩

theorem Slot.resetValue_inRange (W : Nat) : Slot.resetValue.InRange W where
  target := by decide
  level := by decide
  limit := by decide
  runaway := by decide
  window := by decide
  left := Nat.zero_le W

theorem Condition.resetValue_ordered (i : Fin 15) : Condition.resetValue.Ordered i where
  reported h := nomatch h
  again h := nomatch h
  present h := nomatch h
  first _ h := nomatch h
  latest _ h := nomatch h

/-! ## The blocks after a reset -/

theorem State.reset_line (k : LineIx) : State.reset.dmc.lines[k] = Line.freeValue := Vector.getElem_replicate _

theorem State.reset_tap (k : TapIx) : State.reset.taps[k] = Tap.freeValue := Vector.getElem_replicate _

theorem State.reset_condition (i : Fin 15) : State.reset.cu.conditions[i] = Condition.resetValue := Vector.getElem_replicate _

theorem State.reset_samplesInRange : State.reset.SamplesInRange where
  memory := nofun
  lines := forall_mem_toList_replicate 64 Line.freeValue_inRange
  receive := nofun
  previous := nofun
  before := nofun
  held := allSamples_replicate_zero 16
  transmit := allSamples_replicate_zero 16
  edited := forall_mem_toList_replicate 32 MapEntry.resetValue_inRange
  inUse := forall_mem_toList_replicate 32 MapEntry.resetValue_inRange
  returns := nofun
  buses := allSamples_replicate_zero 16
  entries := nofun
  view := nofun

theorem State.reset_linkBounded : State.reset.link.Bounded where
  requests := Nat.zero_le 4
  rejects := Nat.zero_le 4
  frames := nofun
  receiver := trivial

theorem State.reset_conditionsConsistent : State.reset.cu.Consistent where
  ordered i := by rw [State.reset_condition]; exact Condition.resetValue_ordered i
  clear _ i := by rw [State.reset_condition]; exact ⟨rfl, rfl⟩
  set h := nomatch h

/-- Free lines hold no page. -/
theorem flatMap_pages_replicate_free (n : Nat) : (List.replicate n Line.freeValue).flatMap Line.pages = [] := by
  rw [List.flatMap_eq_nil_iff]
  exact fun l hl => by rw [List.eq_of_mem_replicate hl]; rfl

/-- Every page starts dirty (R32). -/
theorem State.reset_partitioned : State.reset.dmc.Partitioned where
  places := by
    simp only [Dmc.allPlaces, State.reset, Dmc.resetValue, Vector.toList_replicate, flatMap_pages_replicate_free,
      Option.toList_none, List.nil_append, List.append_nil, List.Perm.refl]
  lines k := by rw [State.reset_line]; exact Line.freeValue_housed
  waits := List.nodup_nil
  waiting k := by rw [State.reset_line]; exact ⟨nofun, nofun⟩
  promises := by
    have h : State.reset.dmc.promised = 0 := by
      show (((Vector.replicate 64 Line.freeValue).toList.filter fun l => l.state = .waiting).map fun l => l.pageCount).sum = 0
      rw [Vector.toList_replicate, List.filter_replicate_of_neg (by decide)]
      rfl
    exact h ▸ Nat.zero_le _

/-- No record holds a budget unit. -/
theorem State.reset_unitsHeld : State.reset.unitsHeld = 0 := by
  show 2 * ((Vector.replicate 64 Line.freeValue).toList.filter Line.isNotFree).length +
    4 * ((Vector.replicate 256 Tap.freeValue).toList.filter Tap.takesPart).length = 0
  rw [Vector.toList_replicate, Vector.toList_replicate, List.filter_replicate_of_neg (by decide),
    List.filter_replicate_of_neg (by decide)]
  rfl

theorem State.reset_ledgerExact : State.reset.LedgerExact where
  used := State.reset_unitsHeld.symm
  fits := Nat.zero_le _
  view _ h := nomatch h

theorem State.reset_retunesAgree : State.reset.RetunesAgree where
  taps k := by rw [State.reset_tap]; exact Tap.freeValue_retuneAgrees
  entries := nofun

/-- The tempo of half a second lies in the range of the rate (R135, R144). -/
theorem State.reset_tempoInRange : State.reset.TempoInRange where
  tempo := ⟨by decide, by decide⟩
  count := Nat.zero_le 4
  intervals := nofun
  beatPhase := by decide
  entries := nofun

theorem State.reset_slotsInRange : State.reset.SlotsInRange where
  slots := forall_mem_toList_replicate 8 (Slot.resetValue_inRange _)
  view _ h := nomatch h
  entries := nofun

theorem State.reset_referencesExact : State.reset.ReferencesExact where
  counts k := by
    rw [State.reset_line, List.filter_eq_nil_iff.mpr fun t _ => by rw [State.reset_tap]; exact Bool.false_ne_true]
    rfl
  lines t _ h := by rw [State.reset_tap] at h; exact absurd rfl h

theorem State.reset_tapsInRange : State.reset.TapsInRange where
  taps t h := by rw [State.reset_tap] at h; exact absurd rfl h
  view _ h := nomatch h

theorem State.reset_recallBounded : State.reset.sru.Bounded where
  entries := Nat.zero_le 256
  actions := Nat.zero_le 8
  handles := List.nodup_nil

/-- Settles O16: block by block, each table filled with one free value. -/
theorem resetMeetsTheInvariants : Obligations.ResetMeetsTheInvariants :=
  ⟨State.reset_memory_wf, State.reset_samplesInRange, State.reset_linkBounded, State.reset_conditionsConsistent,
    State.reset_partitioned, State.reset_ledgerExact, State.reset_retunesAgree, State.reset_tempoInRange, State.reset_slotsInRange,
    State.reset_referencesExact, State.reset_tapsInRange, State.reset_recallBounded, seqOne_ne_zero, (Option.some_ne_none _).symm,
    modsReset_random⟩

end Sys2Proof.Machine
end

section
/-! SUPPORT. The frame boundary (R2 to R6, R9, R16, R90, R91, R157, R162, R169, R170). -/

namespace Sys2Proof.Machine

/-! ## The output of a slot (R8, R9) -/

/-- The sample that a slot carries stands in its first 24 bit periods (R1). -/
theorem slotWord_extract {x : Int} (h : InSample x) : ((slotWord x).extractLsb' 8 24).toInt = x := by
  obtain ⟨hlo, hhi⟩ := h
  unfold slotWord
  rw [BitVec.extractLsb'_append_eq_left, BitVec.toInt_ofInt]
  exact Int.bmod_eq_of_le (by norm_num; omega) (by norm_num; omega)

/-- The slot below S carries its output (R1). -/
theorem Port.formReturn_slot (p : Port) {S : Nat} (n : EntryIx) (h : n.val < S) :
    (p.formReturn S).returnSlots[n.val]? = some ((p.output n p.inUse[n]).map slotWord) := by
  have hn := n.isLt
  simp [Port.formReturn, h]

section
variable {p : Port} {e : MapEntry} {n : Nat}

/-- Tests 1 to 3 of R9: the slot is not driven. -/
theorem Port.output_of_undriven (h : p.latch.engine.portsOperate = false ∨ p.latch.drive = false ∨ e.mode = .released) :
    p.output n e = none := by
  unfold Port.output
  rcases h with h | h | h
  · rw [if_pos (by simp [h])]
  · rw [if_pos (c := (!p.latch.drive) = true) (by simp [h]), ite_self]
  · rw [if_pos h, ite_self, ite_self]

/-- A driven slot goes on to test 4 of R9. -/
theorem Port.output_of_driven (h : ¬ (p.latch.engine.portsOperate = false ∨ p.latch.drive = false ∨ e.mode = .released)) :
    p.output n e =
      if p.latch.bypass || (p.latch.engine == .halted && p.latch.haltAction == .bypass) then some (p.previous.getD n 0)
      else if p.latch.engine == .halted && p.latch.haltAction == .mute && e.mode == .ret then some 0
      else if p.latch.engine == .stopped && e.mode == .ret then some 0
      else p.modeOutput e := by
  simp only [not_or, Bool.not_eq_false] at h
  obtain ⟨ho, hd, hm⟩ := h
  rw [Port.output, if_neg (by simp [ho]), if_neg (by simp [hd]), if_neg hm]

/-- A return entry of a halted or stopped engine is silent (R9, tests 5 and 6). -/
theorem Port.output_of_silent (h : ¬ (p.latch.engine.portsOperate = false ∨ p.latch.drive = false ∨ e.mode = .released))
    (hb : ¬ (p.latch.bypass = true ∨ p.latch.engine = .halted ∧ p.latch.haltAction = .bypass)) (hm : e.mode = .ret)
    (hs : p.latch.engine = .halted ∨ p.latch.engine = .stopped) : p.output n e = some 0 := by
  rw [Port.output_of_driven h, if_neg (by simpa using hb)]
  rcases hs with hs | hs
  · have ha : p.latch.haltAction = .mute := by
      cases ha : p.latch.haltAction
      · rfl
      · exact absurd (.inr ⟨hs, ha⟩) hb
    rw [if_pos (by simp [hs, ha, hm])]
  · rw [if_pos (c := (p.latch.engine == .stopped && e.mode == .ret) = true) (by simp [hs, hm]), ite_self]

/-- Any other driven slot carries what its mode says (R8; R9, test 7). -/
theorem Port.output_of_mode (h : ¬ (p.latch.engine.portsOperate = false ∨ p.latch.drive = false ∨ e.mode = .released))
    (hb : ¬ (p.latch.bypass = true ∨ p.latch.engine = .halted ∧ p.latch.haltAction = .bypass))
    (hm : e.mode = .ret → p.latch.engine ≠ .halted ∧ p.latch.engine ≠ .stopped) : p.output n e = p.modeOutput e := by
  rw [Port.output_of_driven h, if_neg (by simpa using hb), if_neg (by simpa using fun hh _ hr => (hm hr).1 hh),
    if_neg (by simpa using fun hh hr => (hm hr).2 hh)]

end

/-- A return entry names a bus of the return set (R8). -/
theorem Port.modeOutput_ret {p : Port} {e : MapEntry} (b : BusIx) (hm : e.mode = .ret) (hs : e.source = b.val) :
    p.modeOutput e = some p.transmit[b] := by
  simp [Port.modeOutput, hm, hs, index_some b.isLt]

/-! ## No computation in progress -/

/-- No computation is in progress. -/
def State.Idle (s : State) : Prop := s.fe.computation = none

/-- Without a computation in progress there is nothing to mark. -/
theorem State.Idle.note_eq {s : State} (h : s.Idle) (f : Written → Written) : s.note f = s := by
  have hc : s.fe.computation = none := h
  unfold State.note
  rw [hc, Option.map_none, ← hc]

/-- Without a computation in progress and without damage nothing completes. -/
theorem State.Idle.completeComputation_eq {s : State} (h : s.Idle) : s.completeComputation [] = s := by
  have hc : s.fe.computation = none := h
  unfold State.completeComputation
  simp only [hc, List.foldl_nil]

namespace State.Idle
variable {s t : State} {c : Computation}

theorem alertTest_fe (s : State) : s.alertTest.fe = s.fe := by simp

theorem startScrub_fe (s : State) : s.startScrub.fe = s.fe := by simp

theorem of_fe (h : s.Idle) (ht : t.fe = s.fe) : t.Idle := (congrArg FrameEngine.computation ht).trans h

/-- What keeps the idleness at each record of a table keeps it over the table. -/
theorem foldl {α : Type} {f : State → α → State} (hf : ∀ {u : State}, u.Idle → ∀ a, (f u a).Idle) (h : s.Idle) (l : List α) :
    (l.foldl f s).Idle :=
  List.foldlRecOn l f h fun _ hu a _ => hf hu a

theorem note (h : s.Idle) (f : Written → Written) : (s.note f).Idle := (congrArg State.Idle (h.note_eq f)).mpr h

theorem removeTap (h : s.Idle) (k : TapIx) : (s.removeTap k).Idle :=
  note (of_fe (foldl (f := fun u j => u.mapLine j fun l => { l with refs := l.refs - 1 }) (fun hu _ => of_fe hu rfl) h
    s.taps[k].lines) rfl) _

theorem completeRelease (h : s.Idle) (k : TapIx) : (s.completeRelease c k).Idle := by
  unfold State.completeRelease
  split
  · exact h.removeTap k
  · exact h

theorem completeClose (h : s.Idle) (k : LineIx) : (s.completeClose k).Idle := by
  unfold State.completeClose
  split
  · exact (h.note (Written.leaveLine k)).of_fe (State.freeLine_fe _ k)
  · exact h

theorem completeCloses (h : s.Idle) : s.completeCloses.Idle :=
  of_fe (foldl (f := fun u k => u.completeClose k) completeClose h (List.finRange 64)) (startScrub_fe _)

theorem beatOccurs (h : s.Idle) : s.beatOccurs.Idle := by
  unfold State.beatOccurs
  refine note ?_ _
  exact of_fe h rfl

theorem advanceBeat (h : s.Idle) : (s.advanceBeat c).Idle := by
  unfold State.advanceBeat
  (repeat' split)
  · exact h
  · exact beatOccurs (of_fe h rfl)
  · exact h

/-- A completion leaves no computation in progress (R104). -/
theorem finish (s : State) (c : Computation) : (s.finish c).Idle := by
  have start : Idle { s with fe := { s.fe with computation := none } } := rfl
  have faults (l : List (LineIx × Nat)) : Idle (l.foldl (State.reportFault c.stamp) _) :=
    foldl (fun hu _ => hu.of_fe (by simp)) start l
  have stores (cs : List (Dest × Int)) {u : State} (hu : u.Idle) : Idle ((List.finRange 64).foldl (State.storeLine c cs) u) :=
    foldl (fun hv _ => hv.of_fe (by simp)) hu _
  have buses (cs : List (Dest × Int)) {u : State} (hu : u.Idle) : (u.deliverBuses c cs).Idle :=
    foldl (f := State.clipBus c cs) (fun hv _ => hv.of_fe (by simp)) hu (List.finRange 16)
  have counts (o : Vector TapOut 256) {u : State} (hu : u.Idle) : Idle ((List.finRange 256).foldl (State.countClamps c o) u) :=
    foldl (fun hv _ => hv.of_fe (by simp)) hu _
  have saturations (cs : List (Dest × Int)) {u : State} (hu : u.Idle) :
      Idle ((List.finRange 64).foldl (State.saturateLine c cs) u) :=
    foldl (fun hv _ => hv.of_fe (by simp)) hu _
  have taps {u : State} (hu : u.Idle) : Idle ((List.finRange 256).foldl (State.advanceTap c) u) :=
    foldl (fun hv _ => hv.of_fe (by simp)) hu _
  have blocks (o : Vector TapOut 256) (cs : List (Dest × Int)) {u : State} (hu : u.Idle) :
      Idle ((((u.advanceMods c).advanceBeat c).advanceFade c).offerProbe c o cs) :=
    of_fe (advanceBeat (c := c) (hu.of_fe (State.advanceMods_fe u c))) (by simp)
  have releases {u : State} (hu : u.Idle) : Idle ((List.finRange 256).foldl (State.completeRelease c) u) :=
    foldl completeRelease hu _
  have s5 := saturations (c.contributions (c.tapOuts s.dmc.memory)) (counts (c.tapOuts s.dmc.memory)
    (buses (c.contributions (c.tapOuts s.dmc.memory)) (stores (c.contributions (c.tapOuts s.dmc.memory))
      (faults ((c.tapOuts s.dmc.memory).toList.flatMap TapOut.faults)))))
  have s7 := taps (s5.of_fe (State.advanceSlots_fe _ c))
  exact of_fe (releases (blocks (c.tapOuts s.dmc.memory) (c.contributions (c.tapOuts s.dmc.memory)) s7)).completeCloses
    (alertTest_fe _)

theorem completeComputation (s : State) (l : List Strike) : (s.completeComputation l).Idle := by
  unfold State.completeComputation
  dsimp only
  split
  · assumption
  · exact finish _ _

end State.Idle

/-! ## The boundary, block by block -/

/-- The boundary at the port unit, each field by the state it turns on (R2 to R6, R16). -/
theorem Port.boundary_eq (e : Engine) (p : Port) :
    p.boundary e = Port.formReturn e.timeSlots { p with
      before := if p.latch.engine.portsOperate then p.previous else p.before
      previous := if p.latch.engine.portsOperate then p.receive else p.previous
      receive := if p.latch.engine.portsOperate then List.replicate e.timeSlots 0 else p.receive
      transmit := if e.engine.portsOperate then p.held else p.transmit
      held := if e.engine.portsOperate = true ∧ e.engine.computes = false then Vector.replicate 16 0 else p.held
      inUse := if e.engine.portsOperate then p.edited else p.inUse
      generator := if e.engine.portsOperate then patternState p.generator else p.generator
      patternWord := if e.engine.portsOperate then patternWordOf p.generator else p.patternWord
      latch := { engine := e.engine, drive := p.drive, bypass := p.bypass, haltAction := e.haltAction }
      checker := { p.checker with justSet := false } } := by
  unfold Port.boundary Port.shiftHistory
  cases p.latch.engine.portsOperate <;> cases e.engine.portsOperate <;> cases e.engine.computes <;> rfl

/-- The boundary at the Engine Controller, each field by the state it turns on (R162, R169, R170). -/
theorem Engine.boundary_eq (e : Engine) :
    e.boundary = { e with
      counter := if e.engine.counts then e.counter + 1 else e.counter
      clockTimer := e.engine.computes || e.clockTimer
      span := if e.engine.portsOperate = false then e.span else countSpan e.span } := by
  unfold Engine.boundary
  cases e.engine.portsOperate <;> cases e.engine.computes <;> rfl

/-- An action tested against the counter, where the counter counts (R157). -/
theorem isDue_or_reached (counter : Word32) (a : Action) :
    ({ a with isDue := a.isDue || reached counter a.frame } : Action) =
      if (counter - a.frame).toNat < 2 ^ 31 then { a with isDue := true } else a := by
  unfold reached
  split <;> rename_i h <;> simp only [h, decide_true, decide_false, Bool.or_true, Bool.or_false]

/-- The schedule at a boundary: the actions that the counter has reached become due (R157). -/
theorem testSchedule_eq (counts : Bool) (s : State) :
    (if counts then s.testSchedule else s) = { s with sru := { s.sru with queue := s.sru.queue.map fun a =>
      if counts = true ∧ (s.ec.counter - a.frame).toNat < 2 ^ 31 then { a with isDue := true } else a } } := by
  cases counts
  · simp
  · simp [State.testSchedule, isDue_or_reached]

/-- The clock is back: without a computation in progress nothing is marked (R170). -/
theorem State.Idle.clockBack_eq {s : State} (h : s.Idle) :
    s.clockBack = if s.ec.clockAbsent then
        State.raise (.clockBack s.ec.counter) { s with ec := { s.ec with
          clockAbsent := false, fade := 0, goal := if s.ec.engine = .stopping then 0 else 256 } }
      else s := by
  unfold State.clockBack State.setFade
  rw [State.Idle.note_eq (by exact h)]

/-- FRAME_BOUNDARY with no computation in progress. -/
theorem State.Idle.execFrameBoundary_eq {s : State} (h : s.Idle) :
    exec .frameBoundary s = .next (
      let s1 : State := { s with port := s.port.boundary s.ec, ec := s.ec.boundary }
      let s3 := (if s.ec.engine.counts then s1.testSchedule else s1).clockBack
      if s.ec.engine.computes then s3.beginComputation else s3) := by
  show execFrameBoundary s = _
  unfold execFrameBoundary
  rw [h.completeComputation_eq]

theorem State.applyDueWork_counter (s : State) : s.applyDueWork.ec.counter = s.ec.counter := by simp

theorem State.clockBack_counter (s : State) : s.clockBack.ec.counter = s.ec.counter := by simp

/-! ## The boundary as R2 to R6, R9, R90 and R170 give it -/

/-- Settles O52: the boundary block by block without a computation; one in progress completes first; the slots test by test. -/
theorem frameBoundaryBeginsTheFrame : Obligations.FrameBoundaryBeginsTheFrame := by
  refine ⟨fun s h => ?_, fun s => rfl, fun s => ⟨s.completeComputation [], rfl, State.Idle.completeComputation s [], ?_⟩,
    fun p S n hn => ?_⟩
  · intro e p shifted operates computes port counter begun back due
    have schedule : (if e.engine.counts then
        ({ s with port := p.boundary e, ec := e.boundary } : State).testSchedule else { s with port := p.boundary e, ec := e.boundary }) =
        begun := by
      rw [testSchedule_eq, Port.boundary_eq, Engine.boundary_eq]
      rfl
    have clock : begun.clockBack = back := State.Idle.clockBack_eq (s := begun) h
    have stamp : due.ec.counter = counter :=
      (State.applyDueWork_counter back).trans ((congrArg (fun u : State => u.ec.counter) clock.symm).trans
        (State.clockBack_counter begun))
    rw [State.Idle.execFrameBoundary_eq h]
    dsimp only
    rw [schedule, clock, State.beginComputation, ← stamp]
    rfl
  · show Host.Outcome.next _ = Host.Outcome.next _
    rw [State.Idle.completeComputation_eq (State.Idle.completeComputation s [])]
  · intro e sent carries undriven bypassed
    have slot {x : Option Int} (hx : p.output n e = x) : carries x := by
      show _ = _
      rw [Port.formReturn_slot p n hn, hx]
      rfl
    have mode (hd : ¬ undriven) (hb : ¬ bypassed) {m : OutMode} (hm : e.mode = m) (hr : m ≠ .ret) {x : Option Int}
        (hx : p.modeOutput e = x) : carries x :=
      slot ((Port.output_of_mode hd hb fun he => absurd (hm.symm.trans he) hr).trans hx)
    refine ⟨fun x => ⟨slotWord_setWidth x, slotWord_extract⟩, fun hd => slot (Port.output_of_undriven hd), fun hd hb => slot ?_,
      fun hd hb => ⟨fun hm hs => slot (Port.output_of_silent hd hb hm hs), fun b hm hs hh ht => slot ?_, fun hm => ?_, fun hm => ?_,
        fun hm => ?_, fun hm => ?_, fun hm => ?_⟩⟩
    · rw [Port.output_of_driven hd, if_pos (by simpa using hb)]
    · exact (Port.output_of_mode hd hb fun _ => ⟨hh, ht⟩).trans (Port.modeOutput_ret b hm hs)
    · exact mode hd hb hm nofun (by rw [Port.modeOutput, hm])
    · exact mode hd hb hm nofun (by rw [Port.modeOutput, hm])
    · exact mode hd hb hm nofun (by rw [Port.modeOutput, hm])
    · exact mode hd hb hm nofun (by rw [Port.modeOutput, hm])
    · exact mode hd hb hm nofun (by rw [Port.modeOutput, hm])

end Sys2Proof.Machine
end

section
/-! SUPPORT. The page pool (R24, R45, R47): its parts, counted over the line table, and what a change of one line record does to
them. -/

namespace Sys2Proof.Machine

/-! ## Sums over a table -/

/-- One record changed: its term of a sum over the table is replaced. -/
theorem sum_updateAt {α : Type} {n : Nat} (g : α → Nat) (v : Vector α n) (i : Fin n) (f : α → α) :
    (∑ j : Fin n, g (updateAt v i f)[j]) + g v[i] = (∑ j : Fin n, g v[j]) + g (f v[i]) := by
  have rest : ∑ j ∈ Finset.univ.erase i, g (updateAt v i f)[j] = ∑ j ∈ Finset.univ.erase i, g v[j] :=
    Finset.sum_congr rfl fun j hj => by rw [updateAt_get, if_neg (Finset.ne_of_mem_erase hj).symm]
  rw [← Finset.add_sum_erase _ _ (Finset.mem_univ i), ← Finset.add_sum_erase _ (fun j : Fin n => g v[j]) (Finset.mem_univ i), rest,
    updateAt_get, if_pos rfl]
  omega

/-- A sum over the records of a table, as a list, is one over its indexes. -/
theorem sum_map_toList {α : Type} {n : Nat} (g : α → Nat) (v : Vector α n) : (v.toList.map g).sum = ∑ i : Fin n, g v[i] := by
  rw [← List.sum_ofFn]
  congr 1
  exact List.ext_getElem (by simp) fun i h1 h2 => by simp

/-- Two changes of one record are one. -/
theorem updateAt_updateAt {α : Type} {n : Nat} (v : Vector α n) (i : Fin n) (f g : α → α) :
    updateAt (updateAt v i f) i g = updateAt v i fun x => g (f x) := by
  simp [updateAt]

/-! ## The parts of the pool -/

/-- The fields of a line record that the page pool turns on. -/
def Line.housing (l : Line) : LineState × Nat × Nat × List Page := (l.state, l.length, l.pageCount, l.pages)

/-- The page places, the wait list and what each line holds. -/
def Dmc.pool (d : Dmc) : List Page × List Page × Option Page × List LineIx × (LineIx → LineState × Nat × Nat × List Page) :=
  (d.clean, d.dirty, d.scrubber, d.waitList, fun k => (d.lines[k]).housing)

/-- The pages promised to one line (R45). -/
def Line.promised (l : Line) : Nat := if l.state = .waiting then l.pageCount else 0

/-- How often a page stands in the list of one line. -/
def Line.holding (p : Page) (l : Line) : Nat := l.pages.count p

/-- In how many places a page stands (R24). -/
def Dmc.placeCount (d : Dmc) (p : Page) : Nat :=
  d.clean.count p + d.dirty.count p + d.scrubber.toList.count p + ∑ k : LineIx, (d.lines[k]).holding p

theorem Dmc.places_iff (d : Dmc) : d.allPlaces.Perm allPages ↔ ∀ p, d.placeCount p = 1 := by
  have once (p : Page) : allPages.count p = 1 := List.count_eq_one_of_mem (List.nodup_finRange _) (List.mem_finRange p)
  have lines (p : Page) : (d.lines.toList.flatMap Line.pages).count p = ∑ k : LineIx, (d.lines[k]).holding p := by
    rw [List.count_flatMap]; exact sum_map_toList (Line.holding p) d.lines
  rw [List.perm_iff_count]
  simp only [once, Dmc.allPlaces, Dmc.placeCount, List.count_append, lines]

theorem Dmc.promised_eq_sum (d : Dmc) : d.promised = ∑ k : LineIx, (d.lines[k]).promised := by
  rw [← sum_map_toList Line.promised]
  unfold Dmc.promised
  induction d.lines.toList with
  | nil => rfl
  | cons l ls ih =>
    rw [List.map_cons, List.sum_cons, ← ih, List.filter_cons]
    by_cases h : l.state = .waiting <;> simp [Line.promised, h]

/-- The invariant is one about the parts of the pool. -/
theorem Dmc.Partitioned.of_pool {d e : Dmc} (h : d.Partitioned) (he : e.pool = d.pool) : e.Partitioned := by
  simp only [Dmc.pool, Prod.mk.injEq] at he
  obtain ⟨hc, hd, hs, hw, hl⟩ := he
  have hl (k : LineIx) : (e.lines[k]).state = (d.lines[k]).state ∧ (e.lines[k]).length = (d.lines[k]).length ∧
      (e.lines[k]).pageCount = (d.lines[k]).pageCount ∧ (e.lines[k]).pages = (d.lines[k]).pages := by
    simpa only [Line.housing, Prod.mk.injEq] using congrFun hl k
  constructor
  case places =>
    rw [Dmc.places_iff]
    intro p
    have := (Dmc.places_iff d).mp h.places p
    simpa only [Dmc.placeCount, Line.holding, hc, hd, hs, fun k => (hl k).2.2.2] using this
  case lines =>
    intro k
    obtain ⟨h1, h2, h3, h4⟩ := hl k
    obtain ⟨a, b, c, d⟩ := h.lines k
    exact ⟨by rwa [h1, h4], by rwa [h1, h3, h4], by rwa [h1, h2, h3], by rwa [h1, h2]⟩
  case waits => exact hw ▸ h.waits
  case waiting => intro k; rw [hw, (hl k).1]; exact h.waiting k
  case promises =>
    have := h.promises
    rw [Dmc.promised_eq_sum] at this ⊢
    simpa only [Dmc.unowned, Line.promised, hc, hd, hs, fun k => (hl k).1, fun k => (hl k).2.2.1] using this

/-! ## One line record changed -/

/-- A change of one line that moves pages between its list, the clean pool and the dirty queue keeps every page in one place; the wait
list and the promises follow the state of that line. -/
theorem Dmc.Partitioned.changeLine {d e : Dmc} (h : d.Partitioned) (k : LineIx) (f : Line → Line)
    (lines : e.lines = updateAt d.lines k f) (scrubber : e.scrubber = d.scrubber)
    (pages : ∀ p, e.clean.count p + e.dirty.count p + (f d.lines[k]).pages.count p =
      d.clean.count p + d.dirty.count p + (d.lines[k]).pages.count p)
    (housed : (f d.lines[k]).Housed) (waits : e.waitList.Nodup)
    (waiting : ∀ j, j ∈ e.waitList ↔ if k = j then (f d.lines[k]).state = .waiting else j ∈ d.waitList)
    (promises : d.promised + (f d.lines[k]).promised ≤ e.unowned + (d.lines[k]).promised) : e.Partitioned := by
  constructor
  case places =>
    rw [Dmc.places_iff]
    intro p
    have one := (Dmc.places_iff d).mp h.places p
    have sum : (∑ j : LineIx, ((updateAt d.lines k f)[j]).holding p) + (d.lines[k]).holding p =
        (∑ j : LineIx, (d.lines[j]).holding p) + (f d.lines[k]).holding p := sum_updateAt (Line.holding p) d.lines k f
    have moved := pages p
    simp only [Dmc.placeCount, scrubber, lines] at one ⊢
    simp only [Line.holding] at sum one ⊢
    omega
  case lines =>
    intro j
    rw [lines, updateAt_get]
    split
    · rename_i hj; exact hj ▸ housed
    · exact h.lines j
  case waits => exact waits
  case waiting =>
    intro j
    rw [waiting, lines, updateAt_get]
    split
    · rename_i hj; rw [hj]
    · exact h.waiting j
  case promises =>
    have sum := sum_updateAt Line.promised d.lines k f
    rw [← Dmc.promised_eq_sum, ← lines, ← Dmc.promised_eq_sum] at sum
    omega

namespace Dmc.Partitioned
variable {d : Dmc} {k : LineIx}

theorem not_mem_waitList (h : d.Partitioned) (hk : (d.lines[k]).state ≠ .waiting) : k ∉ d.waitList := fun hm =>
  hk ((h.waiting k).mp hm)

theorem promised_of_ne {l : Line} (h : l.state ≠ .waiting) : l.promised = 0 := if_neg h

/-- The head of the wait list takes its pages from the clean pool (R25, R48). -/
theorem activateHead (h : d.Partitioned) {rest : List LineIx} (hw : d.waitList = k :: rest)
    (hp : (d.lines[k]).pageCount ≤ d.clean.length) :
    Dmc.Partitioned { d with
      waitList := rest, clean := d.clean.drop (d.lines[k]).pageCount
      lines := updateAt d.lines k (Line.activate (d.clean.take (d.lines[k]).pageCount)) } := by
  have hs : (d.lines[k]).state = .waiting := (h.waiting k).mp (hw ▸ List.mem_cons_self)
  have hn := List.nodup_cons.mp (hw ▸ h.waits)
  obtain ⟨none, -, count, length⟩ := h.lines k
  refine h.changeLine k (Line.activate _) rfl rfl (fun p => ?_)
    ⟨fun h => h.elim nofun nofun, fun _ => ?_, fun _ => count (by rw [hs]; nofun), fun _ => length (by rw [hs]; nofun)⟩ hn.2
    (fun j => ?_) ?_
  · have := congrArg (List.count p) (List.take_append_drop (d.lines[k]).pageCount d.clean)
    rw [List.count_append] at this
    simp only [Line.activate, none (.inr hs), List.count_nil]
    omega
  · simpa [Line.activate] using hp
  · split
    · rename_i hj; subst hj; simpa [Line.activate] using hn.1
    · rename_i hj; simp [hw, Ne.symm hj]
  · have := h.promises
    simp only [Dmc.unowned, Line.promised, Line.activate, hs, List.length_drop] at this ⊢
    simp
    omega

/-- A FREE record that is opened and activated at once (R46). -/
theorem openActive (h : d.Partitioned) (hk : (d.lines[k]).state = .free) {l : Line} (hl : l.pageCount = (l.length + 4095) / 4096)
    (hr : 64 ≤ l.length ∧ l.length ≤ 1048576) (hp : l.pageCount ≤ d.clean.length) (hu : d.promised + l.pageCount ≤ d.unowned) :
    Dmc.Partitioned { d with
      clean := d.clean.drop l.pageCount, lines := updateAt d.lines k fun _ => l.activate (d.clean.take l.pageCount) } := by
  refine h.changeLine k (fun _ => l.activate _) rfl rfl (fun p => ?_)
    ⟨fun h => h.elim nofun nofun, fun _ => ?_, fun _ => hl, fun _ => hr⟩ h.waits (fun j => ?_) ?_
  · have := congrArg (List.count p) (List.take_append_drop l.pageCount d.clean)
    rw [List.count_append] at this
    simp only [Line.activate, (h.lines k).none (.inl hk), List.count_nil]
    omega
  · simpa [Line.activate] using hp
  · split
    · rename_i hj
      subst hj
      simpa [Line.activate] using h.not_mem_waitList (k := k) (by rw [hk]; nofun)
    · rfl
  · rw [promised_of_ne (l := l.activate _) nofun, promised_of_ne (l := d.lines[k]) (by rw [hk]; nofun)]
    simp only [Dmc.unowned, List.length_drop] at hu ⊢
    omega

/-- A FREE record that is opened and waits (R46). -/
theorem openWaiting (h : d.Partitioned) (hk : (d.lines[k]).state = .free) {l : Line} (hs : l.state = .waiting) (hg : l.pages = [])
    (hl : l.pageCount = (l.length + 4095) / 4096) (hr : 64 ≤ l.length ∧ l.length ≤ 1048576)
    (hu : d.promised + l.pageCount ≤ d.unowned) :
    Dmc.Partitioned { d with waitList := d.waitList ++ [k], lines := updateAt d.lines k fun _ => l } := by
  have hn := h.not_mem_waitList (k := k) (by rw [hk]; nofun)
  refine h.changeLine k (fun _ => l) rfl rfl (fun p => ?_) ⟨fun _ => hg, fun h => ?_, fun _ => hl, fun _ => hr⟩ ?_ (fun j => ?_) ?_
  · rw [hg, (h.lines k).none (.inl hk)]
  · rw [hs] at h; rcases h with h | h <;> cases h
  · exact List.nodup_append.mpr ⟨h.waits, List.nodup_singleton k, by rintro a ha _ hb rfl; exact hn (List.mem_singleton.mp hb ▸ ha)⟩
  · split
    · rename_i hj; simp [hj, hs]
    · rename_i hj; simp [Ne.symm hj]
  · rw [promised_of_ne (l := d.lines[k]) (by rw [hk]; nofun), Line.promised, if_pos hs]
    exact hu

/-- A line whose close completes gives its pages to the dirty queue (R60). -/
theorem freeClosing (h : d.Partitioned) (hk : (d.lines[k]).state = .closing) :
    Dmc.Partitioned { d with dirty := d.dirty ++ (d.lines[k]).pages, lines := updateAt d.lines k fun _ => Line.freeValue } := by
  refine h.changeLine k (fun _ => Line.freeValue) rfl rfl (fun p => ?_) Line.freeValue_housed h.waits (fun j => ?_) ?_
  · simp only [List.count_append, Line.freeValue, List.count_nil]; omega
  · split
    · rename_i hj; subst hj; simpa [Line.freeValue] using h.not_mem_waitList (k := k) (by rw [hk]; nofun)
    · rfl
  · have := h.promises
    rw [promised_of_ne (l := d.lines[k]) (by rw [hk]; nofun), promised_of_ne (l := Line.freeValue) nofun]
    simp only [Dmc.unowned, List.length_append] at this ⊢
    omega

/-- A line without pages leaves the wait list and becomes FREE (R58). -/
theorem freeWaiting (h : d.Partitioned) (hk : (d.lines[k]).state = .waiting ∨ (d.lines[k]).state = .free) :
    Dmc.Partitioned { d with waitList := d.waitList.filter (· ≠ k), lines := updateAt d.lines k fun _ => Line.freeValue } := by
  refine h.changeLine k (fun _ => Line.freeValue) rfl rfl (fun p => ?_) Line.freeValue_housed (h.waits.filter _) (fun j => ?_) ?_
  · rw [(h.lines k).none hk.symm]; rfl
  · split
    · rename_i hj; simp [hj, Line.freeValue]
    · rename_i hj; simp [Ne.symm hj]
  · rw [promised_of_ne (l := Line.freeValue) nofun]
    exact h.promises.trans (Nat.le_add_right _ _)

/-- An ACTIVE line that becomes CLOSING keeps its pages (R59). -/
theorem closeActive (h : d.Partitioned) (hk : (d.lines[k]).state = .active ∨ (d.lines[k]).state = .closing) :
    Dmc.Partitioned { d with lines := updateAt d.lines k fun l => { l with state := .closing } } := by
  have hw : (d.lines[k]).state ≠ .waiting := by rcases hk with hk | hk <;> rw [hk] <;> nofun
  have hf : (d.lines[k]).state ≠ .free := by rcases hk with hk | hk <;> rw [hk] <;> nofun
  obtain ⟨-, full, count, length⟩ := h.lines k
  refine h.changeLine k (fun l => { l with state := .closing }) rfl rfl (fun _ => rfl)
    ⟨fun h => h.elim nofun nofun, fun _ => full hk, fun _ => count hf, fun _ => length hf⟩ h.waits (fun j => ?_) ?_
  · split
    · rename_i hj; subst hj; simpa using h.not_mem_waitList hw
    · rfl
  · rw [promised_of_ne (l := d.lines[k]) hw, promised_of_ne (l := { d.lines[k] with state := .closing }) nofun]
    exact h.promises

/-- The next dirty page enters the scrubber (R27). -/
theorem scrubNext (h : d.Partitioned) {p : Page} {rest : List Page} (hs : d.scrubber = none) (hd : d.dirty = p :: rest) :
    Dmc.Partitioned { d with scrubber := some p, dirty := rest } := by
  refine ⟨?_, h.lines, h.waits, h.waiting, ?_⟩
  · rw [Dmc.places_iff]
    intro q
    have : d.placeCount q = 1 := (Dmc.places_iff d).mp h.places q
    simp only [Dmc.placeCount, hs, hd, Option.toList_none, List.count_nil, Option.toList_some, List.count_cons] at this ⊢
    omega
  · refine h.promises.trans ?_
    simp only [Dmc.unowned, hs, hd, List.length_cons, Option.toList_none, Option.toList_some, List.length_nil]
    omega

/-- The page in the scrubber joins the clean pool (R28). -/
theorem pageCleared (h : d.Partitioned) {p : Page} (hs : d.scrubber = some p) (m : Memory) :
    Dmc.Partitioned { d with memory := m, clean := d.clean ++ [p], scrubber := none } := by
  refine ⟨?_, h.lines, h.waits, h.waiting, ?_⟩
  · rw [Dmc.places_iff]
    intro q
    have : d.placeCount q = 1 := (Dmc.places_iff d).mp h.places q
    simp only [Dmc.placeCount, hs, Option.toList_none, List.count_nil, Option.toList_some, List.count_append] at this ⊢
    omega
  · refine h.promises.trans ?_
    simp only [Dmc.unowned, hs, List.length_append, List.length_singleton, Option.toList_none, Option.toList_some, List.length_nil]
    omega

end Dmc.Partitioned

end Sys2Proof.Machine
end

section
/-! SUPPORT. The page pool under the shared operations: those that leave it alone, and those that move pages and lines within it. -/

namespace Sys2Proof.Machine

/-- The parts of the page pool. -/
def State.pool (s : State) : List Page × List Page × Option Page × List LineIx × (LineIx → LineState × Nat × Nat × List Page) :=
  s.dmc.pool

/-- The invariant of the pages (R24, R45, R47). -/
def State.Paged (s : State) : Prop := s.dmc.Partitioned

theorem State.Paged.of_pool {s t : State} (h : s.Paged) (he : t.pool = s.pool) : t.Paged := Dmc.Partitioned.of_pool h he

theorem State.pool_of_dmc {s t : State} (h : t.dmc = s.dmc) : t.pool = s.pool := congrArg Dmc.pool h

theorem State.pool_of_tables {s t : State} (h : t.tables = s.tables) : t.pool = s.pool := by
  simp only [State.tables, Prod.mk.injEq] at h
  obtain ⟨-, -, hd, -⟩ := h
  exact State.pool_of_dmc hd

/-! ## The operations that leave the pool alone -/

/-- A change of one line that is not about its pages. -/
theorem State.mapLine_pool (s : State) (k : LineIx) {f : Line → Line} (hf : ∀ l, (f l).housing = l.housing) :
    (s.mapLine k f).pool = s.pool := by
  simp only [State.pool, Dmc.pool, State.mapLine_dmc, Prod.mk.injEq, true_and]
  exact funext fun j => by rw [updateAt_get]; split <;> simp [hf]

theorem Line.write_housing (p : LineParts) (l : Line) : (l.write p).housing = l.housing := rfl

theorem State.withRoundRobin_pool (s : State) (k : LineIx) :
    ({ s with dmc := { s.dmc with roundRobin := k } } : State).pool = s.pool := rfl

@[simp] theorem State.removeTap_pool (s : State) (t : TapIx) : (s.removeTap t).pool = s.pool :=
  foldl_keeps State.pool (fun u k => u.mapLine k fun l => { l with refs := l.refs - 1 }) (fun u k => u.mapLine_pool k fun _ => rfl)
    (s.taps[t]).lines s

@[simp] theorem State.removeTapsOf_pool (s : State) (k : LineIx) : (s.removeTapsOf k).pool = s.pool :=
  foldl_keeps State.pool (State.removeTapOf k) (fun u t => by unfold State.removeTapOf; split <;> simp) _ s

@[simp] theorem State.enterTap_pool (s : State) (t : TapIx) (x : Tap) : (s.enterTap t x).pool = s.pool :=
  foldl_keeps State.pool (fun u k => u.mapLine k fun l => { l with refs := l.refs + 1 }) (fun u k => u.mapLine_pool k fun _ => rfl)
    x.lines (s.mapTap t fun _ => x)

@[simp] theorem State.countDelayClamp_pool (s : State) (i : SlotIx) (b : Bool) : (s.countDelayClamp i b).pool = s.pool :=
  State.pool_of_dmc (by simp)

@[simp] theorem Entry.apply_pool (s : State) (e : Entry) : (e.apply s).pool = s.pool := by
  cases e with
  | lineSet k p i => exact s.mapLine_pool k (Line.write_housing p)
  | tapSet | tapFill | slotSet | modSet | tempoSet | outmapSet | outmapFill => exact State.pool_of_dmc (by simp [Entry.apply])

@[simp] theorem handleEntry_pool (x : State × Tallied) (e : Entry) : (handleEntry x e).1.pool = x.1.pool := by
  unfold handleEntry
  (repeat' split)
  · cases e.slot <;> rfl
  · cases e.slot <;> rfl
  · exact Entry.apply_pool _ e

@[simp] theorem State.raise_pool (s : State) (d : Detail) : (s.raise d).pool = s.pool := State.pool_of_dmc (by simp)

@[simp] theorem State.alertTest_pool (s : State) : s.alertTest.pool = s.pool := State.pool_of_dmc (by simp)

@[simp] theorem applyList_pool (l : List Entry) (s : State) : (applyList l s).1.pool = s.pool := by
  have fold (n : Tallied) : (l.foldl handleEntry (s, n)).1.pool = s.pool :=
    foldl_keeps (fun x : State × Tallied => x.1.pool) _ handleEntry_pool l (s, n)
  unfold applyList
  dsimp only
  split <;> simp [fold]

@[simp] theorem State.applyAction_pool (s : State) (a : Action) : (s.applyAction a).pool = s.pool := by
  unfold State.applyAction
  dsimp only
  rw [applyList_pool]
  split
  · rfl
  · rw [State.raise_pool]; rfl

@[simp] theorem State.applyDueWork_pool (s : State) : s.applyDueWork.pool = s.pool := by
  unfold State.applyDueWork
  dsimp only
  rw [applyList_pool, foldl_keeps State.pool _ State.applyAction_pool]
  rfl

@[simp] theorem State.storeLine_pool (c : Computation) (cs : List (Dest × Int)) (s : State) (k : LineIx) :
    (s.storeLine c cs k).pool = s.pool := by
  unfold State.storeLine
  dsimp only
  split
  · rfl
  · exact s.mapLine_pool k fun _ => rfl

@[simp] theorem State.completeRelease_pool (c : Computation) (s : State) (t : TapIx) : (s.completeRelease c t).pool = s.pool := by
  unfold State.completeRelease
  split
  · exact s.removeTap_pool t
  · rfl

/-! ## The operations that move pages and lines -/

/-- A line that becomes FREE and leaves the wait list. -/
theorem State.dropWaiting_pool (s : State) (k : LineIx) :
    (s.dropWaiting k).pool = Dmc.pool { s.dmc with
      waitList := s.dmc.waitList.filter (· ≠ k), lines := updateAt s.dmc.lines k fun _ => Line.freeValue } := by
  have h := State.removeTapsOf_pool { s with dmc := { s.dmc with waitList := s.dmc.waitList.filter (· ≠ k) } } k
  simp only [State.pool, Dmc.pool, Prod.mk.injEq] at h
  obtain ⟨hc, hd, hs, hw, hl⟩ := h
  simp only [State.dropWaiting, State.pool, State.freeLine_dmc, Dmc.pool, hc, hd, hs, hw, Prod.mk.injEq, true_and]
  exact funext fun j => by rw [updateAt_get, updateAt_get]; split <;> [rfl; exact congrFun hl j]

theorem State.line_state_of_pool {s : State} {d : Dmc} (h : s.pool = d.pool) (j : LineIx) :
    (s.dmc.lines[j]).state = (d.lines[j]).state := by
  simp only [State.pool, Dmc.pool, Line.housing, Prod.mk.injEq] at h
  obtain ⟨-, -, -, -, hl⟩ := h
  exact congrArg Prod.fst (congrFun hl j)

namespace State.Paged
variable {s : State}

theorem startScrub (h : s.Paged) : s.startScrub.Paged := by
  unfold State.startScrub
  split
  · rename_i hs hd
    split
    · exact Dmc.Partitioned.scrubNext h hs hd
    · exact h
  · exact h

theorem serveUpTo (n : Nat) (h : s.Paged) : (serveUpTo n s).Paged := by
  induction n generalizing s with
  | zero => exact h
  | succ n ih =>
    unfold Machine.serveUpTo
    split
    · exact h
    · rename_i k rest hw
      split
      · rename_i hp
        have h1 : State.Paged (({ s with dmc := { s.dmc with waitList := rest } } : State).activateLine k) :=
          Dmc.Partitioned.activateHead h hw hp
        exact ih (h1.of_pool (raise_pool _ _))
      · exact h

theorem serveWaitList (h : s.Paged) : s.serveWaitList.Paged := h.serveUpTo _

theorem completeClose (h : s.Paged) (k : LineIx) : (s.completeClose k).Paged := by
  unfold State.completeClose
  split
  · rename_i hk
    exact Dmc.Partitioned.freeClosing h (of_decide_eq_true hk).1
  · exact h

theorem completeCloses (h : s.Paged) : s.completeCloses.Paged :=
  startScrub (List.foldlRecOn _ _ h fun _ hu k _ => hu.completeClose k)

theorem dropWaiting (h : s.Paged) {k : LineIx} (hk : (s.dmc.lines[k]).state = .waiting ∨ (s.dmc.lines[k]).state = .free) :
    (s.dropWaiting k).Paged :=
  (Dmc.Partitioned.freeWaiting h hk).of_pool (s.dropWaiting_pool k)

theorem beginClose (h : s.Paged) {k : LineIx} (hk : (s.dmc.lines[k]).state = .active ∨ (s.dmc.lines[k]).state = .closing) :
    (s.beginClose k).Paged :=
  Dmc.Partitioned.closeActive h hk

theorem closeWaiting (h : s.Paged) {k : LineIx} (hk : (s.dmc.lines[k]).state = .waiting) : (s.closeWaiting k).Paged :=
  (h.dropWaiting (.inl hk)).completeCloses.serveWaitList

theorem closeActive (h : s.Paged) {k : LineIx} (hk : (s.dmc.lines[k]).state = .active) : (s.closeActive k).Paged :=
  (h.beginClose (.inl hk)).completeCloses

end State.Paged

/-! ## A group close (R61) -/

/-- Midway through a group close: of the lines of `waiting` some are FREE already, of those of `active` some are CLOSING. -/
structure State.Grouped (waiting active : List LineIx) (s : State) : Prop where
  paged   : s.Paged
  waiting : ∀ k ∈ waiting, (s.dmc.lines[k]).state = .waiting ∨ (s.dmc.lines[k]).state = .free
  active  : ∀ k ∈ active, (s.dmc.lines[k]).state = .active ∨ (s.dmc.lines[k]).state = .closing

namespace State.Grouped
variable {s : State} {w a : List LineIx} {k : LineIx}

theorem dropWaiting (h : s.Grouped w a) (hk : k ∈ w) : (s.dropWaiting k).Grouped w a := by
  have state (j : LineIx) := State.line_state_of_pool (s.dropWaiting_pool k) j
  refine ⟨h.paged.dropWaiting (h.waiting k hk), fun j hj => ?_, fun j hj => ?_⟩ <;> rw [state, updateAt_get] <;> split
  · exact .inr rfl
  · exact h.waiting j hj
  · rename_i hkj
    subst hkj
    rcases h.waiting k hk with hs | hs <;> rcases h.active k hj with ht | ht <;> rw [hs] at ht <;> cases ht
  · exact h.active j hj

theorem beginClose (h : s.Grouped w a) (hk : k ∈ a) : (s.beginClose k).Grouped w a := by
  refine ⟨h.paged.beginClose (h.active k hk), fun j hj => ?_, fun j hj => ?_⟩ <;> rw [State.beginClose_dmc, updateAt_get] <;> split
  · rename_i hkj
    subst hkj
    rcases h.waiting k hj with hs | hs <;> rcases h.active k hk with ht | ht <;> rw [hs] at ht <;> cases ht
  · exact h.waiting j hj
  · exact .inr rfl
  · exact h.active j hj

end State.Grouped

theorem State.Paged.groupClose {s : State} (h : s.Paged) (p : Line → Bool) : (s.groupClose p).Paged := by
  have begun : s.Grouped ((s.closedBy p).filter fun k => s.dmc.lines[k].state = .waiting)
      ((s.closedBy p).filter fun k => s.dmc.lines[k].state = .active) :=
    ⟨h, fun k hk => .inl (of_decide_eq_true (List.mem_filter.mp hk).2), fun k hk => .inl (of_decide_eq_true (List.mem_filter.mp hk).2)⟩
  have dropped := List.foldlRecOn _ (fun u k => State.dropWaiting k u) begun fun _ hu k hk => hu.dropWaiting hk
  have closing := List.foldlRecOn _ (fun u k => State.beginClose k u) dropped fun _ hu k hk => hu.beginClose hk
  exact closing.paged.completeCloses.serveWaitList

end Sys2Proof.Machine
end

section
/-! SUPPORT. What a request leaves of delay memory, the page pool and the engine's being UNCONFIGURED: the owners, said once. -/

namespace Sys2Proof.Machine

/-- From `s` to `t` no sample is written, no page moves, and the engine is UNCONFIGURED in both or in neither. -/
structure State.SparesPages (s t : State) : Prop where
  memory : t.dmc.memory = s.dmc.memory
  pool   : t.pool = s.pool
  engine : t.ec.engine = .unconfigured ↔ s.ec.engine = .unconfigured

theorem State.SparesPages.refl (s : State) : s.SparesPages s := ⟨rfl, rfl, Iff.rfl⟩

/-- What writes neither the DMC nor the engine state. -/
theorem State.SparesPages.of_eq {s t : State} (hd : t.dmc = s.dmc) (he : t.ec.engine = s.ec.engine) : s.SparesPages t :=
  ⟨congrArg Dmc.memory hd, State.pool_of_dmc hd, by rw [he]⟩

/-- A halt cause leaves an UNCONFIGURED engine so and makes no other so (R167). -/
theorem State.haltCause_engine (n : Word32) (w : HaltReason) (s : State) :
    (s.haltCause n w).ec.engine = .unconfigured ↔ s.ec.engine = .unconfigured := by
  rcases s.haltCause_cases n w with ⟨h, -⟩ | ⟨he, -, h⟩ | ⟨he, h⟩ <;> rw [h]
  · simp
  · cases hs : s.ec.engine <;> rw [hs] at he <;> simp_all [EngineState.computes]

theorem stageEntry_spares (e : Entry) (c : Bool) (s : State) : (stageEntry e c s).Leaves s.SparesPages := by
  unfold stageEntry
  split
  · trivial
  · exact .of_eq rfl rfl

/-- The kinds that open or close lines, whose owners move pages (R42, R56, R62, R63, R151). -/
def Kind.movesPages : Kind → Bool
  | .lineOpen | .lineClose | .lineReleaseTag | .lineReleaseAll | .slotClear => true
  | _ => false

/-- The owners other than INIT's and those that open or close lines spare the pages. -/
theorem ownerOf_spares (k : Kind) (hi : k ≠ .init) (hk : k.movesPages = false) (b : Bool) (p : List Byte) (s : State) :
    (ownerOf k b p s).Leaves s.SparesPages := by
  have same {t : State} (hd : t.dmc = s.dmc) (he : t.ec = s.ec) : s.SparesPages t := .of_eq hd (congrArg Engine.engine he)
  cases k with
  | init => exact absurd rfl hi
  | lineOpen | lineClose | lineReleaseTag | lineReleaseAll | slotClear => cases hk
  | status | reset | timeGet | outmapGet | poolGet | tempoGet | schedGet | condGet | discard | checkRead | checkClear | probeGet =>
    exact same rfl rfl
  | start =>
    show (ownStart b p s).Leaves _
    unfold ownStart
    split <;> rename_i he
    · exact ⟨rfl, rfl, by simp [he]⟩
    · exact .refl s
    · exact ⟨rfl, rfl, by simp [he]⟩
    · trivial
  | stop =>
    show (ownStop b p s).Leaves _
    unfold ownStop
    split <;> rename_i he
    · exact .refl s
    · exact .refl s
    · exact ⟨rfl, rfl, by simp [he]⟩
    · exact ⟨by simp, State.pool_of_dmc (by simp), by simp [he]⟩
    · trivial
  | halt =>
    show (ownHalt b p s).Leaves _
    unfold ownHalt
    split <;> first | trivial | exact ⟨by simp, State.pool_of_dmc (by simp), s.haltCause_engine _ _⟩
  | resume =>
    show (ownResume b p s).Leaves _
    unfold ownResume
    split
    · trivial
    · rename_i he
      split
      · trivial
      · exact ⟨rfl, rfl, by simp [not_not.mp he]⟩
  | portDrive => show (ownPortDrive b p s).Leaves _; unfold ownPortDrive; (repeat' split) <;> first | trivial | exact same rfl rfl
  | portBypass => show (ownPortBypass b p s).Leaves _; unfold ownPortBypass; (repeat' split) <;> first | trivial | exact same rfl rfl
  | outmapSet =>
    show (ownOutmapSet b p s).Leaves _
    unfold ownOutmapSet
    (repeat' split) <;> first | trivial | exact stageEntry_spares _ _ _ | exact same rfl rfl
  | outmapFill =>
    show (ownOutmapFill b p s).Leaves _
    unfold ownOutmapFill
    (repeat' split) <;> first | trivial | exact stageEntry_spares _ _ _ | exact same (by simp) (by simp)
  | checkSet => show (ownCheckSet b p s).Leaves _; unfold ownCheckSet; (repeat' split) <;> first | trivial | exact same rfl rfl
  | lineSet =>
    show (ownLineSet b p s).Leaves _
    unfold ownLineSet
    iterate 4 (split <;> try exact Verdict.leaves_refuse _ _)
    cases b
    · exact ⟨rfl, s.mapLine_pool _ (Line.write_housing _), Iff.rfl⟩
    · exact stageEntry_spares _ _ _
  | lineGet => show (ownLineGet b p s).Leaves _; unfold ownLineGet; (repeat' split) <;> first | trivial | exact same rfl rfl
  | tapCreate =>
    show (ownTapCreate b p s).Leaves _
    unfold ownTapCreate
    (repeat' split) <;> try exact Verdict.leaves_refuse _ _
    exact ⟨by simp, (State.countDelayClamp_pool _ _ _).trans (s.enterTap_pool _ _), by simp⟩
  | tapSet =>
    show (ownTapSet b p s).Leaves _
    unfold ownTapSet
    (repeat' split) <;> first | trivial | exact stageEntry_spares _ _ _ | exact same (by simp) (by simp)
  | tapFill =>
    show (ownTapFill b p s).Leaves _
    unfold ownTapFill
    (repeat' split) <;> first | trivial | exact stageEntry_spares _ _ _ | exact same (by simp) (by simp)
  | tapFree => show (ownTapFree b p s).Leaves _; unfold ownTapFree; (repeat' split) <;> first | trivial | exact same rfl rfl
  | tapGet => show (ownTapGet b p s).Leaves _; unfold ownTapGet; (repeat' split) <;> first | trivial | exact same rfl rfl
  | modSet =>
    show (ownModSet b p s).Leaves _
    unfold ownModSet
    iterate 5 (split <;> try exact Verdict.leaves_refuse _ _)
    cases b
    · exact same rfl rfl
    · exact stageEntry_spares _ _ _
  | modSync => show (ownModSync b p s).Leaves _; unfold ownModSync; (repeat' split) <;> first | trivial | exact same rfl rfl
  | modGet => show (ownModGet b p s).Leaves _; unfold ownModGet; (repeat' split) <;> first | trivial | exact same rfl rfl
  | tempoSet =>
    show (ownTempoSet b p s).Leaves _
    unfold ownTempoSet
    (repeat' split) <;> first | trivial | exact stageEntry_spares _ _ _ | exact same (by simp) (by simp)
  | beat => show (ownBeat b p s).Leaves _; unfold ownBeat; (repeat' split) <;> exact same (by simp) (by simp)
  | slotSet =>
    show (ownSlotSet b p s).Leaves _
    unfold ownSlotSet
    iterate 5 (split <;> try exact Verdict.leaves_refuse _ _)
    cases b
    · exact same rfl rfl
    · exact stageEntry_spares _ _ _
  | slotGet =>
    show (ownSlotGet b p s).Leaves _
    unfold ownSlotGet
    (repeat' split) <;> first | trivial | exact same rfl rfl
  | commit =>
    show (ownCommit b p s).Leaves _
    unfold ownCommit commitNow commitAt
    (repeat' split) <;> first | trivial | exact same rfl rfl | exact ⟨by simp, by simp; rfl, by simp⟩
  | schedCancel => show (ownSchedCancel b p s).Leaves _; unfold ownSchedCancel; (repeat' split) <;> first | trivial | exact same rfl rfl
  | condEnable => show (ownCondEnable b p s).Leaves _; unfold ownCondEnable; split <;> first | trivial | exact same (by simp) (by simp)
  | alertRelease => show (ownAlertRelease b p s).Leaves _; unfold ownAlertRelease; split <;> exact same (by simp) (by simp)
  | probeSet => show (ownProbeSet b p s).Leaves _; unfold ownProbeSet; (repeat' split) <;> first | trivial | exact same rfl rfl
  | countersGet => show (ownCountersGet b p s).Leaves _; unfold ownCountersGet; (repeat' split) <;> first | trivial | exact same rfl rfl

end Sys2Proof.Machine
end

section
/-! SUPPORT. Every owner and every event keeps the invariant of the pages, and the canonical form of delay memory. -/

namespace Sys2Proof.Machine

/-! ## The line requests -/

/-- The record that an open takes is FREE (R44). -/
theorem Dmc.chooseRecord_free {d : Dmc} {k : LineIx} (h : d.chooseRecord = some k) : (d.lines[k]).state = .free :=
  of_decide_eq_true (List.find?_some (p := fun k : LineIx => decide ((d.lines[k]).state = .free)) h)

namespace State.Paged
variable {s : State}

/-- An admitted line is activated at once or waits, and its pages are promised (R45, R46). -/
theorem admitLine (h : s.Paged) {k : LineIx} (hk : (s.dmc.lines[k]).state = .free) {l : Line} (hs : l.state = .waiting)
    (hg : l.pages = []) (hl : l.pageCount = (l.length + 4095) / 4096) (hr : 64 ≤ l.length ∧ l.length ≤ 1048576)
    (hu : s.dmc.promised + l.pageCount ≤ s.dmc.unowned) (clamped : Bool) : (admitLine k l clamped s).Leaves State.Paged := by
  unfold Machine.admitLine
  dsimp only
  split
  · rename_i hw
    refine of_pool (s := { s with dmc := { s.dmc with
      clean := s.dmc.clean.drop l.pageCount
      lines := updateAt s.dmc.lines k fun _ => l.activate (s.dmc.clean.take l.pageCount) } })
      (Dmc.Partitioned.openActive h hk hl hr hw.2 hu) ?_
    have hkl : (updateAt s.dmc.lines k fun _ => l)[k] = l := by rw [updateAt_get, if_pos rfl]
    simp only [State.pool, Dmc.pool, State.activateLine_dmc, State.charge_dmc, State.mapLine_dmc, updateAt_updateAt, hkl]
  · exact of_pool (s := { s with dmc := { s.dmc with
      waitList := s.dmc.waitList ++ [k], lines := updateAt s.dmc.lines k fun _ => l } })
      (Dmc.Partitioned.openWaiting h hk hs hg hl hr hu) (raise_pool _ _)

theorem ownLineOpen (h : s.Paged) (b : Bool) (p : List Byte) : (ownLineOpen b p s).Leaves State.Paged := by
  unfold Machine.ownLineOpen
  (repeat' split) <;> try exact Verdict.leaves_refuse _ _
  dsimp only
  split
  · exact Verdict.leaves_refuse _ _
  · rename_i hk hm
    exact h.admitLine (Dmc.chooseRecord_free hk) rfl rfl rfl (clampNat_mem (by decide) _) (Nat.le_of_not_lt hm) _

theorem ownLineClose (h : s.Paged) (b : Bool) (p : List Byte) : (ownLineClose b p s).Leaves State.Paged := by
  unfold Machine.ownLineClose
  (repeat' split) <;> try exact Verdict.leaves_refuse _ _
  · rename_i hk; exact h.closeWaiting hk
  · rename_i hk; exact h.closeActive hk
  · exact h

theorem ownLineReleaseTag (h : s.Paged) (b : Bool) (p : List Byte) : (ownLineReleaseTag b p s).Leaves State.Paged := by
  unfold Machine.ownLineReleaseTag
  split
  · exact h.groupClose _
  · exact Verdict.leaves_refuse _ _

theorem ownLineReleaseAll (h : s.Paged) (b : Bool) (p : List Byte) : (ownLineReleaseAll b p s).Leaves State.Paged := by
  unfold Machine.ownLineReleaseAll
  exact of_pool (h.groupClose _) (withRoundRobin_pool _ _)

theorem ownSlotClear (h : s.Paged) (b : Bool) (p : List Byte) : (ownSlotClear b p s).Leaves State.Paged := by
  unfold Machine.ownSlotClear
  (repeat' split) <;> try exact Verdict.leaves_refuse _ _
  exact h.groupClose _

/-! ## Reset, INIT and the page clear -/

/-- A reset makes every page dirty and every line FREE (R32). -/
theorem resetValue (m : Memory) : (Dmc.resetValue m).Partitioned := State.reset_partitioned.of_pool rfl

theorem ownInit (b : Bool) (p : List Byte) : (ownInit b p s).Leaves State.Paged := by
  unfold Machine.ownInit
  (repeat' split) <;> try exact Verdict.leaves_refuse _ _
  unfold State.initBlocks
  exact startScrub (resetValue s.abandonedMemory)

theorem owner (h : s.Paged) (k : Kind) (b : Bool) (p : List Byte) : (ownerOf k b p s).Leaves State.Paged := by
  by_cases hi : k = .init
  · subst hi; exact ownInit b p
  cases hk : k.movesPages with
  | false =>
    have hv := ownerOf_spares k hi hk b p s
    cases hv' : ownerOf k b p s with
    | refuse st => trivial
    | done t st q => rw [hv'] at hv; exact h.of_pool hv.pool
  | true =>
    cases k with
    | lineOpen => exact h.ownLineOpen b p
    | lineClose => exact h.ownLineClose b p
    | lineReleaseTag => exact h.ownLineReleaseTag b p
    | lineReleaseAll => exact h.ownLineReleaseAll b p
    | slotClear => exact h.ownSlotClear b p
    | _ => cases hk

theorem pageClear {t : State} (h : s.Paged) (ht : execPageClearComplete s = .next t) : t.Paged := by
  obtain rfl := Host.Outcome.next.inj ht
  split
  · exact h
  · rename_i p hs
    have h1 : State.Paged { s with dmc := { s.dmc with
        memory := s.dmc.memory.clearPage p, clean := s.dmc.clean ++ [p], scrubber := none } } :=
      Dmc.Partitioned.pageCleared h hs _
    exact h1.serveWaitList.startScrub.of_pool (State.pool_of_dmc (by simp))

/-! ## The completion -/

/-- Of the pages a completion moves those of the closes that it completes alone (R60, R104). -/
theorem finish (h : s.Paged) (c : Computation) : (s.finish c).Paged := by
  have faults (l : List (LineIx × Nat)) (u : State) : (l.foldl (State.reportFault c.stamp) u).pool = u.pool :=
    foldl_keeps State.pool _ (fun u f => State.pool_of_dmc (by simp)) l u
  have stores (cs : List (Dest × Int)) (l : List LineIx) (u : State) : (l.foldl (State.storeLine c cs) u).pool = u.pool :=
    foldl_keeps State.pool _ (State.storeLine_pool c cs) l u
  have buses (cs : List (Dest × Int)) (u : State) : (u.deliverBuses c cs).pool = u.pool := State.pool_of_dmc (by simp)
  have counts (o : Vector TapOut 256) (l : List TapIx) (u : State) : (l.foldl (State.countClamps c o) u).pool = u.pool :=
    foldl_keeps State.pool _ (fun u t => State.pool_of_dmc (by simp)) l u
  have saturations (cs : List (Dest × Int)) (l : List LineIx) (u : State) : (l.foldl (State.saturateLine c cs) u).pool = u.pool :=
    foldl_keeps State.pool _ (fun u k => State.pool_of_dmc (by simp)) l u
  have taps (l : List TapIx) (u : State) : (l.foldl (State.advanceTap c) u).pool = u.pool :=
    foldl_keeps State.pool _ (fun u t => State.pool_of_dmc (by simp)) l u
  have blocks (o : Vector TapOut 256) (cs : List (Dest × Int)) (u : State) :
      ((((u.advanceMods c).advanceBeat c).advanceFade c).offerProbe c o cs).pool = u.pool := State.pool_of_dmc (by simp)
  have releases (l : List TapIx) (u : State) : (l.foldl (State.completeRelease c) u).pool = u.pool :=
    foldl_keeps State.pool _ (State.completeRelease_pool c) l u
  have slots (u : State) : (u.advanceSlots c).pool = u.pool := rfl
  refine of_pool (completeCloses (h.of_pool ?_)) (State.alertTest_pool _)
  rw [releases, blocks, taps, slots, saturations, counts, buses, stores, faults]
  rfl

theorem completeComputation (h : s.Paged) (l : List Strike) : (s.completeComputation l).Paged := by
  have h1 : State.Paged { s with dmc := { s.dmc with memory := l.foldl Memory.strike s.dmc.memory } } := h.of_pool rfl
  unfold State.completeComputation
  dsimp only
  split
  · exact h1
  · exact h1.finish _

end State.Paged

/-! ## The events that write no part of the DMC -/

/-- The measured rate, the clock and the tracker leave the DMC alone (R140, R169, R170). -/
theorem timed_dmc {s t : State} (ht : (∃ n, execRateMeasurementComplete n s = .next t) ∨ execRateMeasurementLoss s = .next t ∨
    execClockLost s = .next t ∨ execTrackerTimeout s = .next t) : t.dmc = s.dmc := by
  obtain ⟨n, ht⟩ | ht | ht | ht := ht <;> obtain rfl := Host.Outcome.next.inj ht <;> (repeat' split) <;> simp

/-- A received sample leaves the DMC alone (R3). -/
theorem input_dmc {s t : State} {n : Nat} {w : Word24} {fresh : Bool} (ht : execInputSlotReceived n w fresh s = .next t) :
    t.dmc = s.dmc := by
  obtain rfl := Host.Outcome.next.inj ht
  split <;> simp

/-- The invariant of the pages is kept by every owner and every event. -/
theorem State.Paged.kept : KeptByTables State.Paged where
  frame ht h := h.of_pool (State.pool_of_tables ht)
  owner k b p _ h := h.owner k b p
  reset s _ := State.Paged.resetValue s.abandonedMemory
  completion l _ h := h.completeComputation l
  boundary _ h := h.of_pool rfl
  schedule _ h := h.of_pool rfl
  clockBack _ h := h.of_pool (State.pool_of_dmc (by simp))
  computation s h := h.of_pool s.applyDueWork_pool
  clear _ _ h ht := h.pageClear ht
  input _ _ _ _ _ h ht := h.of_pool (State.pool_of_dmc (input_dmc ht))
  measured _ _ _ h ht := h.of_pool (State.pool_of_dmc (timed_dmc (.inl ⟨_, ht⟩)))
  lost _ _ h ht := h.of_pool (State.pool_of_dmc (timed_dmc (.inr (ht.imp_right .inl))))
  timeout _ _ h ht := h.of_pool (State.pool_of_dmc (timed_dmc (.inr (.inr (.inr ht)))))

/-- Settles O9: what moves pages changes one line record, the scrubber or nothing of the pool at a time, and each such move keeps the
invariant. -/
theorem pagesStayPartitioned : Obligations.PagesStayPartitioned := fun _ _ => State.Paged.kept.step

end Sys2Proof.Machine
end

section
/-! SUPPORT. Delay memory under the commands (R28, R32, R35, R36), the reset (R171, R177) and the page clear (R28, R29, R34, R48). -/

namespace Sys2Proof.Machine

/-! ## A command, inverted -/

/-- As `exec_cases`, and INIT's owner judges INIT alone. -/
theorem exec_cases_init (c : Instr) (s : State) :
    (∃ k r, exec c s = .next (s.take k r (ownerOf k)) ∧ (k = .init → c = .init r)) ∨ (∃ b r, c = .unknownKindRequest b r) ∨
      kindAndRequest c = none :=
  match c with
  | .init r => .inl ⟨.init, r, rfl, fun _ => rfl⟩
  | .status _ | .start _ | .stop _ | .halt _ | .resume _ | .reset _ | .timeGet _ | .portDrive _ | .portBypass _
  | .outmapSet _ | .outmapFill _ | .outmapGet _ | .checkSet _ | .checkRead _ | .checkClear _ | .lineOpen _ | .lineSet _
  | .lineClose _ | .lineReleaseTag _ | .lineReleaseAll _ | .lineGet _ | .poolGet _ | .tapCreate _ | .tapSet _ | .tapFill _
  | .tapFree _ | .tapGet _ | .modSet _ | .modSync _ | .modGet _ | .tempoSet _ | .beat _ | .tempoGet _ | .slotSet _
  | .slotClear _ | .slotGet _ | .commitNow _ | .commitAt _ | .discard _ | .schedCancel _ | .schedGet _ | .condEnable _
  | .condGet _ | .alertRelease _ | .probeSet _ | .probeGet _ | .countersGet _ => .inl ⟨_, _, rfl, nofun⟩
  | .unknownKindRequest b r => .inr (.inl ⟨b, r, rfl⟩)
  | .resetTake | .powerOnReset | .frameClose _ | .frameTransmitDone | .frameBoundary | .frameComputationComplete _
  | .pageClearComplete | .inputSlotReceived _ _ _ | .rateMeasurementComplete _ | .rateMeasurementLoss | .clockLost
  | .trackerTimeout | .characterReceived _ _ => .inr (.inr rfl)

/-- A judged request that is done was taken in its engine state, and its owner did it (R163, R175). -/
theorem judge_done {k : Kind} {r : Request} {owner : Bool → List Byte → State → Verdict} {s t : State} {st : Status} {q : List Byte}
    (h : judge k r owner s = .done t st q) :
    k.takenIn s.ec.engine = true ∧ owner (r.disposition == 1) r.payload s = .done t st q := by
  unfold judge at h
  split at h
  · cases h
  split at h
  · cases h
  split at h
  · cases h
  rename_i hk
  split at h
  · cases h
  · exact ⟨by simpa using hk, h⟩

/-- A request leaves the tables as they were, or as its owner leaves them in an engine state that takes its kind. -/
theorem State.take_cases (k : Kind) (r : Request) (owner : Bool → List Byte → State → Verdict) (s : State) :
    (s.take k r owner).tables = s.tables ∨ ∃ u t st q, u.tables = s.tables ∧ k.takenIn u.ec.engine = true ∧
      owner (r.disposition == 1) r.payload u = .done t st q ∧ (s.take k r owner).tables = t.tables := by
  unfold State.take
  split
  · exact .inl rfl
  · rename_i u hu
    have hu := State.takeFrame_tables hu
    cases hv : judge k r owner u with
    | refuse st => exact .inl hu
    | done t st q =>
      obtain ⟨hk, ho⟩ := judge_done hv
      exact .inr ⟨u, t, st, q, hu, hk, ho, State.placeReply_tables _ _ _⟩

theorem State.memory_of_tables {s t : State} (h : t.tables = s.tables) : t.dmc.memory = s.dmc.memory := by
  simp only [State.tables, Prod.mk.injEq] at h
  obtain ⟨-, -, hd, -⟩ := h
  exact congrArg Dmc.memory hd

theorem State.ec_of_tables {s t : State} (h : t.tables = s.tables) : t.ec = s.ec := congrArg Prod.fst h

/-- Of the owners INIT's alone writes delay memory, or makes the engine UNCONFIGURED or ends its being so. -/
theorem ownerOf_memory_engine (k : Kind) (hi : k ≠ .init) (b : Bool) (p : List Byte) (s : State) :
    (ownerOf k b p s).Leaves fun t =>
      t.dmc.memory = s.dmc.memory ∧ (t.ec.engine = .unconfigured ↔ s.ec.engine = .unconfigured) := by
  cases hk : k.movesPages with
  | false =>
    have hv := ownerOf_spares k hi hk b p s
    cases hv' : ownerOf k b p s with
    | refuse st => trivial
    | done t st q => rw [hv'] at hv; exact ⟨hv.memory, hv.engine⟩
  | true =>
    cases k with
    | lineOpen =>
      show (ownLineOpen b p s).Leaves _
      unfold ownLineOpen
      (repeat' split) <;> try exact Verdict.leaves_refuse _ _
      dsimp only
      split
      · exact Verdict.leaves_refuse _ _
      · unfold admitLine; split <;> simp
    | lineClose => show (ownLineClose b p s).Leaves _; unfold ownLineClose; (repeat' split) <;> simp
    | lineReleaseTag => show (ownLineReleaseTag b p s).Leaves _; unfold ownLineReleaseTag; split <;> simp
    | lineReleaseAll => show (ownLineReleaseAll b p s).Leaves _; unfold ownLineReleaseAll; simp
    | slotClear => show (ownSlotClear b p s).Leaves _; unfold ownSlotClear; (repeat' split) <;> simp
    | _ => cases hk

/-! ## A clear that is abandoned (R28) -/

/-- A sample reads as it was, unless it stands in the page in the scrubber and had been zeroed. -/
theorem State.abandonedMemory_read (s : State) (a : Nat) :
    s.abandonedMemory.read a = s.dmc.memory.read a ∨
      ∃ p, s.dmc.scrubber = some p ∧ a / 4096 = p.val ∧ s.abandonedMemory.read a = Stored.blank := by
  unfold State.abandonedMemory
  split
  · exact .inl rfl
  · rename_i p hp
    let keep (b : Nat) : Bool := !(b / 4096 == p.val && Config.zeroedBeforeAbandon s.choices (b % 4096))
    cases hk : keep a with
    | true => exact .inl (Memory.read_filter _ keep a hk)
    | false =>
      have ha : a / 4096 = p.val := by
        simp only [keep, Bool.not_eq_false', Bool.and_eq_true, beq_iff_eq] at hk
        exact hk.1
      exact .inr ⟨p, hp, ha, Memory.read_filter_dropped _ keep a hk⟩

theorem State.initBlocks_memory (rate : Rate) (action : HaltAction) (s : State) :
    (s.initBlocks rate action).dmc.memory = s.abandonedMemory := by
  rw [State.initBlocks_eq]; rfl

/-- INIT leaves a sample as it was, or zeroed by the clear that it abandons. -/
theorem ownInit_memory (b : Bool) (p : List Byte) (s : State) : (ownInit b p s).Leaves fun t => t.dmc.memory = s.abandonedMemory := by
  unfold ownInit
  (repeat' split) <;> try exact Verdict.leaves_refuse _ _
  exact State.initBlocks_memory _ _ s

/-! ## The page clear -/

/-- A page clear zeroes the page in the scrubber (R28). -/
theorem execPageClearComplete_memory {s t : State} {p : Page} (hs : s.dmc.scrubber = some p)
    (ht : execPageClearComplete s = .next t) : t.dmc.memory = s.dmc.memory.clearPage p := by
  obtain rfl := Host.Outcome.next.inj ht
  rw [hs]
  simp

/-- Settles O17: of the owners INIT's alone writes the memory, by what it abandons, as a reset does; the events are taken one by one. -/
theorem delayMemoryFrame : Obligations.DelayMemoryFrame := by
  refine ⟨fun c s t ht hi hr hp hb hc hl => ?_, fun c s t a ht hc => ?_, fun s t p a ht hs => ?_⟩
  · obtain ⟨k, r, he, hk⟩ | ⟨b, r, rfl⟩ | hn := exec_cases_init c s
    · obtain rfl := Host.Outcome.next.inj (he.symm.trans ht)
      obtain h | ⟨u, t, st, q, hu, -, ho, h⟩ := s.take_cases k r (ownerOf k)
      · exact State.memory_of_tables h
      · have hv := ownerOf_memory_engine k (fun h => hi r (hk h)) (r.disposition == 1) r.payload u
        rw [ho] at hv
        exact (State.memory_of_tables h).trans (hv.1.trans (State.memory_of_tables hu))
    · exact State.memory_of_tables (execUnknownKindRequest_tables ht)
    · cases c with
      | resetTake => exact absurd rfl hr
      | powerOnReset => exact absurd rfl hp
      | frameBoundary => exact absurd rfl hb
      | frameComputationComplete l => exact absurd rfl (hc l)
      | pageClearComplete => exact absurd rfl hl
      | frameClose l => obtain rfl := Host.Outcome.next.inj ht; exact State.memory_of_tables (State.receiveCharacter_tables _ _ _)
      | characterReceived b l => obtain rfl := Host.Outcome.next.inj ht; exact State.memory_of_tables (State.receiveCharacter_tables _ _ _)
      | frameTransmitDone => exact State.memory_of_tables (execFrameTransmitDone_tables ht)
      | inputSlotReceived n w fresh => exact congrArg Dmc.memory (input_dmc ht)
      | rateMeasurementComplete n => exact congrArg Dmc.memory (timed_dmc (.inl ⟨n, ht⟩))
      | rateMeasurementLoss => exact congrArg Dmc.memory (timed_dmc (.inr (.inl ht)))
      | clockLost => exact congrArg Dmc.memory (timed_dmc (.inr (.inr (.inl ht))))
      | trackerTimeout => exact congrArg Dmc.memory (timed_dmc (.inr (.inr (.inr ht))))
      | _ => cases hn
  · obtain ⟨r, rfl⟩ | rfl | rfl := hc <;> obtain rfl := Host.Outcome.next.inj ht
    · obtain h | ⟨u, t, st, q, hu, -, ho, h⟩ := s.take_cases .init r ownInit
      · exact .inl (by rw [State.memory_of_tables h])
      · have hv := ownInit_memory (r.disposition == 1) r.payload u
        rw [ho] at hv
        have hd : u.dmc = s.dmc := by
          simp only [State.tables, Prod.mk.injEq] at hu
          exact hu.2.2.1
        rw [State.memory_of_tables h, show t.dmc.memory = u.abandonedMemory from hv, ← hd]
        exact u.abandonedMemory_read a
    · split
      · exact s.abandonedMemory_read a
      · exact .inl rfl
    · exact s.abandonedMemory_read a
  · rw [execPageClearComplete_memory hs ht, Memory.read_clearPage]

/-! ## The reset (R171, R177) -/

/-- A reset leaves every block at its reset values, save what delay memory keeps (R32). -/
theorem State.resetBlocks_eq (s : State) :
    s.resetBlocks = { State.reset with
      dmc := { State.reset.dmc with memory := s.abandonedMemory }
      choices := s.choices + s.dmc.scrubber.toList.length, pending := s.pending } := by
  simp only [State.resetBlocks, State.reset, Dmc.resetValue]

/-- Settles O25: the reply, its sending, and the reset by the definition of each. -/
theorem resetFollowsItsReply : Obligations.ResetFollowsItsReply := by
  refine ⟨fun r s h hp => ?_, fun s tag rest hs ht => ?_, fun s f rest hs ht hf => ?_, fun s c hc => ?_⟩
  · exact congrArg Host.Outcome.next (State.take_done (t := s.accepted) h (by rw [hp]; rfl) rfl rfl)
  · show execFrameTransmitDone s = _
    simp only [execFrameTransmitDone, hs, ht]
    rfl
  · show execFrameTransmitDone s = _
    simp only [execFrameTransmitDone, hs, ht, hf]
    rfl
  · have taken : exec c s = .next s.resetBlocks := by
      rcases hc with rfl | ⟨rfl, hs⟩
      · rfl
      · exact congrArg Host.Outcome.next (if_pos (by simp [Link.resetIsDue, hs]))
    refine ⟨s.abandonedMemory, s.choices + s.dmc.scrubber.toList.length, taken.trans (congrArg _ s.resetBlocks_eq),
      fun hs => ?_, fun p a hs ha => ?_⟩
    · simp only [State.abandonedMemory, hs]
    · obtain h | ⟨q, hq, haq, -⟩ := s.abandonedMemory_read a
      · exact h
      · obtain rfl := Option.some.inj (hs.symm.trans hq)
        exact absurd haq ha

/-! ## Wait-list service and the next clear (R27, R34, R48) -/

theorem State.serveWaitList_of_empty {s : State} (h : s.dmc.waitList = []) : s.serveWaitList = s := by
  simp [State.serveWaitList, h, serveUpTo]

/-- The first line that finds too few pages ends the service. -/
theorem State.serveWaitList_of_short {s : State} {k : LineIx} {rest : List LineIx} (h : s.dmc.waitList = k :: rest)
    (hp : s.dmc.clean.length < (s.dmc.lines[k]).pageCount) : s.serveWaitList = s := by
  simp only [State.serveWaitList, h, List.length_cons, serveUpTo]
  exact if_neg (Nat.not_le.mpr hp)

/-- A line that finds its pages is activated, and the service goes on. -/
theorem State.serveWaitList_of_served {s : State} {k : LineIx} {rest : List LineIx} (h : s.dmc.waitList = k :: rest)
    (hp : (s.dmc.lines[k]).pageCount ≤ s.dmc.clean.length) :
    s.serveWaitList =
      ((({ s with dmc := { s.dmc with waitList := rest } } : State).activateLine k).raise (.lineReady k)).serveWaitList := by
  have hw : ((({ s with dmc := { s.dmc with waitList := rest } } : State).activateLine k).raise (.lineReady k)).dmc.waitList = rest := by
    simp
  rw [State.serveWaitList, State.serveWaitList, hw]
  simp only [h, List.length_cons, serveUpTo]
  exact if_pos hp

/-- A waiting line that takes its pages (R25, R48). -/
theorem State.activateLine_eq (s : State) (k : LineIx) :
    s.activateLine k = { s with dmc := { s.dmc with
      lines := s.dmc.lines.set k { s.dmc.lines[k] with
        state := .active, pages := s.dmc.clean.take (s.dmc.lines[k]).pageCount, w := 0, dampMem := 0, sendGain := 0 }
      clean := s.dmc.clean.drop (s.dmc.lines[k]).pageCount } } := by
  simp only [State.activateLine, State.mapLine, updateAt, Line.activate]

/-- Wait-list service leaves the dirty queue and the scrubber alone. -/
theorem serveUpTo_dirty (n : Nat) (s : State) :
    (serveUpTo n s).dmc.dirty = s.dmc.dirty ∧ (serveUpTo n s).dmc.scrubber = s.dmc.scrubber := by
  induction n generalizing s with
  | zero => exact ⟨rfl, rfl⟩
  | succ n ih => unfold serveUpTo; (repeat' split) <;> simp [ih]

/-- The page in the scrubber, zeroed, has joined the clean pool (R28). -/
def State.pageJoined (p : Page) (s : State) : State :=
  { s with dmc := { s.dmc with memory := s.dmc.memory.clearPage p, clean := s.dmc.clean ++ [p], scrubber := none } }

theorem execPageClearComplete_eq {s : State} {p : Page} (hs : s.dmc.scrubber = some p) :
    exec .pageClearComplete s = .next (s.pageJoined p).serveWaitList.startScrub.memoryClean := by
  show execPageClearComplete s = _
  simp only [execPageClearComplete, hs]
  rfl

theorem EngineState.scrubs_iff (e : EngineState) : e.scrubs = true ↔ e ≠ .unconfigured := by
  cases e <;> simp [EngineState.scrubs]

theorem State.startScrub_of_dirty {s : State} {p : Page} {rest : List Page} (hs : s.dmc.scrubber = none) (hd : s.dmc.dirty = p :: rest)
    (he : s.ec.engine ≠ .unconfigured) : s.startScrub = { s with dmc := { s.dmc with scrubber := some p, dirty := rest } } := by
  simp [State.startScrub, hs, hd, (EngineState.scrubs_iff _).mpr he]

theorem State.startScrub_of_clean {s : State} (hd : s.dmc.dirty = []) : s.startScrub = s := by
  unfold State.startScrub
  rw [hd]
  split
  · rename_i h; cases h
  · rfl

theorem State.memoryClean_of_not {s : State} (h : ¬ (s.ec.engine = .initializing ∧ s.dmc.scrubber = none ∧ s.dmc.dirty = [])) :
    s.memoryClean = s := if_neg h

/-- INIT's scrub is over (R34, R164). -/
theorem State.memoryClean_of_clean {s : State} (h : s.ec.engine = .initializing ∧ s.dmc.scrubber = none ∧ s.dmc.dirty = []) :
    s.memoryClean = State.raise (.initDone (s.ec.rate.getD .r48)) { s with ec := { s.ec with engine := .stopped } } := if_pos h

/-- Settles O55: the clear, the service step by step, and what follows it by the dirty queue and the engine. -/
theorem pageClearsServeTheWaitList : Obligations.PageClearsServeTheWaitList := by
  refine ⟨fun s p hs => ?_, fun s h => State.serveWaitList_of_empty h, fun s k rest h hp => State.serveWaitList_of_short h hp,
    fun s k rest h hp => by rw [State.serveWaitList_of_served h hp, State.activateLine_eq]⟩
  intro cleared served
  have clear : exec .pageClearComplete s = .next served.startScrub.memoryClean := execPageClearComplete_eq hs
  have hec : served.ec = s.ec := (State.serveWaitList_keeps cleared).1
  obtain ⟨hdirty, hscrub⟩ : served.dmc.dirty = s.dmc.dirty ∧ served.dmc.scrubber = none := serveUpTo_dirty _ cleared
  refine ⟨fun q rest he hd => ?_, fun hd he => ?_, fun rate hd he hr => ?_⟩
  · rw [clear, State.startScrub_of_dirty hscrub (hdirty.trans hd) (hec ▸ he), State.memoryClean_of_not]
    exact fun h => nomatch h.2.1
  · rw [clear, State.startScrub_of_clean (hdirty.trans hd), State.memoryClean_of_not]
    exact fun h => he (hec ▸ h.1)
  · rw [clear, State.startScrub_of_clean (hdirty.trans hd)]
    rw [State.memoryClean_of_clean ⟨hec ▸ he, hscrub, hdirty.trans hd⟩, hec, hr]
    rfl

end Sys2Proof.Machine
end

section
/-! SUPPORT. The completion of a computation, stage by stage (R104): what each stage leaves alone. -/

namespace Sys2Proof.Machine

/-! ## The stages -/

/-- Stage 3: the read faults are reported (R37). -/
def State.reportFaults (n : Word32) (l : List (LineIx × Nat)) (s : State) : State := l.foldl (State.reportFault n) s

/-- Stage 5: the lines are stored (R101). -/
def State.storeLines (c : Computation) (cs : List (Dest × Int)) (s : State) : State :=
  (List.finRange 64).foldl (State.storeLine c cs) s

/-- The modulation clamps of every tap are counted (R94). -/
def State.countAllClamps (c : Computation) (o : Vector TapOut 256) (s : State) : State :=
  (List.finRange 256).foldl (State.countClamps c o) s

/-- The saturations of every line are reported (R100, R147). -/
def State.saturateLines (c : Computation) (cs : List (Dest × Int)) (s : State) : State :=
  (List.finRange 64).foldl (State.saturateLine c cs) s

/-- Every tap advances (R76, R113). -/
def State.advanceTaps (c : Computation) (s : State) : State := (List.finRange 256).foldl (State.advanceTap c) s

/-- Every release that is due completes (R85). -/
def State.completeReleases (c : Computation) (s : State) : State := (List.finRange 256).foldl (State.completeRelease c) s

/-- The completion up to what its own alert test announces, from what the taps give. -/
def State.finishFrom (c : Computation) (o : Vector TapOut 256) (cs : List (Dest × Int)) (s : State) : State :=
  let s0 : State := { s with fe := { s.fe with computation := none } }
  let s3 := ((s0.reportFaults c.stamp (o.toList.flatMap TapOut.faults)).storeLines c cs).deliverBuses c cs
  let s6 := ((s3.countAllClamps c o).saturateLines c cs).advanceSlots c
  ((((((s6.advanceTaps c).advanceMods c).advanceBeat c).advanceFade c).offerProbe c o cs).completeReleases c).completeCloses

theorem State.finish_eq (c : Computation) (s : State) :
    s.finish c = (s.finishFrom c (c.tapOuts s.dmc.memory) (c.contributions (c.tapOuts s.dmc.memory))).alertTest := rfl

/-! ## What they leave alone -/

@[simp] theorem State.reportFaults_keeps (s : State) (n : Word32) (l : List (LineIx × Nat)) :
    (s.reportFaults n l).port = s.port ∧ (s.reportFaults n l).dmc = s.dmc ∧ (s.reportFaults n l).taps = s.taps ∧
      (s.reportFaults n l).mu = s.mu ∧ (s.reportFaults n l).fe = s.fe ∧ (s.reportFaults n l).sru = s.sru := by
  have h := foldl_keeps (fun s : State => (s.port, s.dmc, s.taps, s.mu, s.fe, s.sru)) (State.reportFault n) (fun s f => by simp) l s
  simp only [Prod.mk.injEq] at h
  exact h

@[simp] theorem State.storeLines_keeps (s : State) (c : Computation) (cs : List (Dest × Int)) :
    (s.storeLines c cs).link = s.link ∧ (s.storeLines c cs).ec = s.ec ∧ (s.storeLines c cs).port = s.port ∧
      (s.storeLines c cs).taps = s.taps ∧ (s.storeLines c cs).mu = s.mu ∧ (s.storeLines c cs).fe = s.fe ∧
      (s.storeLines c cs).sru = s.sru ∧ (s.storeLines c cs).cu = s.cu := by
  have h := foldl_keeps (fun s : State => (s.link, s.ec, s.port, s.taps, s.mu, s.fe, s.sru, s.cu)) (State.storeLine c cs)
    (fun s k => by simp) (List.finRange 64) s
  simp only [Prod.mk.injEq] at h
  exact h

@[simp] theorem State.countAllClamps_keeps (s : State) (c : Computation) (o : Vector TapOut 256) :
    (s.countAllClamps c o).link = s.link ∧ (s.countAllClamps c o).ec = s.ec ∧ (s.countAllClamps c o).port = s.port ∧
      (s.countAllClamps c o).dmc = s.dmc ∧ (s.countAllClamps c o).taps = s.taps ∧ (s.countAllClamps c o).mu = s.mu ∧
      (s.countAllClamps c o).fe = s.fe ∧ (s.countAllClamps c o).cu = s.cu := by
  have h := foldl_keeps (fun s : State => (s.link, s.ec, s.port, s.dmc, s.taps, s.mu, s.fe, s.cu)) (State.countClamps c o)
    (fun s t => by simp) (List.finRange 256) s
  simp only [Prod.mk.injEq] at h
  exact h

@[simp] theorem State.saturateLines_keeps (s : State) (c : Computation) (cs : List (Dest × Int)) :
    (s.saturateLines c cs).link = s.link ∧ (s.saturateLines c cs).ec = s.ec ∧ (s.saturateLines c cs).port = s.port ∧
      (s.saturateLines c cs).dmc = s.dmc ∧ (s.saturateLines c cs).taps = s.taps ∧ (s.saturateLines c cs).mu = s.mu ∧
      (s.saturateLines c cs).fe = s.fe := by
  have h := foldl_keeps (fun s : State => (s.link, s.ec, s.port, s.dmc, s.taps, s.mu, s.fe)) (State.saturateLine c cs)
    (fun s k => by simp) (List.finRange 64) s
  simp only [Prod.mk.injEq] at h
  exact h

@[simp] theorem State.advanceTaps_keeps (s : State) (c : Computation) :
    (s.advanceTaps c).link = s.link ∧ (s.advanceTaps c).ec = s.ec ∧ (s.advanceTaps c).port = s.port ∧
      (s.advanceTaps c).dmc = s.dmc ∧ (s.advanceTaps c).mu = s.mu ∧ (s.advanceTaps c).fe = s.fe ∧
      (s.advanceTaps c).cu = s.cu := by
  have h := foldl_keeps (fun s : State => (s.link, s.ec, s.port, s.dmc, s.mu, s.fe, s.cu)) (State.advanceTap c)
    (fun s t => by simp) (List.finRange 256) s
  simp only [Prod.mk.injEq] at h
  exact h

@[simp] theorem State.advanceSlots_keeps (s : State) (c : Computation) :
    (s.advanceSlots c).link = s.link ∧ (s.advanceSlots c).ec = s.ec ∧ (s.advanceSlots c).port = s.port ∧
      (s.advanceSlots c).dmc = s.dmc ∧ (s.advanceSlots c).taps = s.taps ∧ (s.advanceSlots c).mu = s.mu ∧
      (s.advanceSlots c).fe = s.fe ∧ (s.advanceSlots c).cu = s.cu :=
  ⟨rfl, rfl, rfl, rfl, rfl, rfl, rfl, rfl⟩

@[simp] theorem State.advanceMods_keeps (s : State) (c : Computation) :
    (s.advanceMods c).link = s.link ∧ (s.advanceMods c).ec = s.ec ∧ (s.advanceMods c).port = s.port ∧
      (s.advanceMods c).dmc = s.dmc ∧ (s.advanceMods c).taps = s.taps ∧ (s.advanceMods c).fe = s.fe ∧
      (s.advanceMods c).sru = s.sru ∧ (s.advanceMods c).cu = s.cu :=
  ⟨rfl, rfl, rfl, rfl, rfl, rfl, rfl, rfl⟩

@[simp] theorem State.completeReleases_keeps (s : State) (c : Computation) :
    (s.completeReleases c).link = s.link ∧ (s.completeReleases c).port = s.port ∧ (s.completeReleases c).mu = s.mu ∧
      (s.completeReleases c).sru = s.sru ∧ (s.completeReleases c).cu = s.cu ∧
      (s.completeReleases c).dmc.memory = s.dmc.memory ∧ (s.completeReleases c).ec.engine = s.ec.engine := by
  have h := foldl_keeps (fun s : State => (s.link, s.port, s.mu, s.sru, s.cu, s.dmc.memory, s.ec.engine)) (State.completeRelease c)
    (fun s t => by simp) (List.finRange 256) s
  simp only [Prod.mk.injEq] at h
  exact h

@[simp] theorem State.completeReleases_pool (s : State) (c : Computation) : (s.completeReleases c).pool = s.pool :=
  foldl_keeps State.pool _ (State.completeRelease_pool c) _ s

end Sys2Proof.Machine
end

section
/-! SUPPORT. The canonical form of delay memory (R23, R35) and the UNCONFIGURED engine (R30) at every step. -/

namespace Sys2Proof.Machine

/-! ## The canonical form -/

/-- A completion writes delay memory by the stores of its lines alone (R101). -/
theorem State.finish_memory (s : State) (c : Computation) :
    ∃ cs u, u.dmc = s.dmc ∧ (s.finish c).dmc.memory = (State.storeLines c cs u).dmc.memory :=
  ⟨c.contributions (c.tapOuts s.dmc.memory), State.reportFaults c.stamp ((c.tapOuts s.dmc.memory).toList.flatMap TapOut.faults)
    { s with fe := { s.fe with computation := none } }, (State.reportFaults_keeps _ _ _).2.1,
    by rw [State.finish_eq]; simp [State.finishFrom]⟩

/-- The canonical form of delay memory as a property of the state. -/
def State.MemoryCanonical (s : State) : Prop := s.dmc.memory.wf

namespace State.MemoryCanonical
variable {s : State}

theorem of_memory (h : s.MemoryCanonical) {t : State} (ht : t.dmc.memory = s.dmc.memory) : t.MemoryCanonical :=
  (congrArg Memory.wf ht).mpr h

theorem owner (h : s.MemoryCanonical) (k : Kind) (b : Bool) (p : List Byte) : (ownerOf k b p s).Leaves State.MemoryCanonical := by
  by_cases hi : k = .init
  · subst hi
    have hv := ownInit_memory b p s
    show (ownInit b p s).Leaves _
    cases hr : ownInit b p s with
    | refuse st => trivial
    | done t st q => rw [hr] at hv; exact (congrArg Memory.wf hv).mpr (s.abandonedMemory_wf h)
  · have hv := ownerOf_memory_engine k hi b p s
    cases hr : ownerOf k b p s with
    | refuse st => trivial
    | done t st q => rw [hr] at hv; exact h.of_memory hv.1

theorem finish (h : s.MemoryCanonical) (c : Computation) : (s.finish c).MemoryCanonical := by
  obtain ⟨cs, u, hu, hm⟩ := s.finish_memory c
  have hu : u.MemoryCanonical := h.of_memory (congrArg Dmc.memory hu)
  have stores (l : List LineIx) : State.MemoryCanonical (l.foldl (State.storeLine c cs) u) :=
    List.foldlRecOn l (State.storeLine c cs) hu fun v hv k _ => State.storeLine_wf c cs v k hv
  exact State.MemoryCanonical.of_memory (stores (List.finRange 64)) hm

theorem completeComputation (h : s.MemoryCanonical) (l : List Strike) : (s.completeComputation l).MemoryCanonical := by
  have struck : MemoryCanonical { s with dmc := { s.dmc with memory := l.foldl Memory.strike s.dmc.memory } } := Memory.wf_strikes l h
  unfold State.completeComputation
  dsimp only
  split
  · exact struck
  · exact struck.finish _

theorem pageClear (h : s.MemoryCanonical) {t : State} (ht : execPageClearComplete s = .next t) : t.MemoryCanonical := by
  cases hs : s.dmc.scrubber with
  | none => simp only [execPageClearComplete, hs] at ht; cases ht; exact h
  | some p => exact (congrArg Memory.wf (execPageClearComplete_memory hs ht)).mpr (Memory.wf_clearPage p h)

/-- The canonical form is kept by every owner and every event. -/
theorem kept : KeptByTables State.MemoryCanonical where
  frame ht h := h.of_memory (State.memory_of_tables ht)
  owner k b p _ h := h.owner k b p
  reset s h := s.abandonedMemory_wf h
  completion l _ h := h.completeComputation l
  boundary _ h := h
  schedule _ h := h
  clockBack _ h := h.of_memory (by simp)
  computation _ h := h.of_memory (by simp)
  clear _ _ h ht := h.pageClear ht
  input _ _ _ _ _ h ht := h.of_memory (congrArg Dmc.memory (input_dmc ht))
  measured _ _ _ h ht := h.of_memory (congrArg Dmc.memory (timed_dmc (.inl ⟨_, ht⟩)))
  lost _ _ h ht := h.of_memory (congrArg Dmc.memory (timed_dmc (.inr (ht.imp_right .inl))))
  timeout _ _ h ht := h.of_memory (congrArg Dmc.memory (timed_dmc (.inr (.inr (.inr ht)))))

end State.MemoryCanonical

/-- Settles O5: every write of delay memory, the stores, a clear, damage and an abandoned clear, keeps the canonical form. -/
theorem memoryStaysCanonical : Obligations.MemoryStaysCanonical := fun _ _ => State.MemoryCanonical.kept.step

/-! ## The engine that is UNCONFIGURED (R30) -/

/-- No line is opened or closed while the engine is UNCONFIGURED (R163). -/
theorem Kind.takenIn_unconfigured (k : Kind) (h : k.movesPages = true) : k.takenIn .unconfigured = false := by
  cases k <;> first | rfl | cases h

/-- The engine is UNCONFIGURED in both states or in neither, and then an IDLE scrubber stays so. -/
structure State.IdlesWith (s t : State) : Prop where
  engine   : t.ec.engine = .unconfigured ↔ s.ec.engine = .unconfigured
  scrubber : s.ec.engine = .unconfigured → s.dmc.scrubber = none → t.dmc.scrubber = none

namespace State.IdlesWith
variable {s t u : State}

theorem refl (s : State) : s.IdlesWith s := ⟨Iff.rfl, fun _ h => h⟩

theorem trans (h : s.IdlesWith t) (h' : t.IdlesWith u) : s.IdlesWith u :=
  ⟨h'.engine.trans h.engine, fun he hs => h'.scrubber (h.engine.mpr he) (h.scrubber he hs)⟩

theorem of_dmc (hd : t.dmc = s.dmc) (he : t.ec.engine = .unconfigured ↔ s.ec.engine = .unconfigured) : s.IdlesWith t :=
  ⟨he, fun _ h => hd ▸ h⟩

theorem of_tables (h : t.tables = s.tables) : s.IdlesWith t := by
  simp only [State.tables, Prod.mk.injEq] at h
  obtain ⟨hec, -, hdmc, -⟩ := h
  exact of_dmc hdmc (by rw [hec])

theorem of_pool (hp : t.pool = s.pool) (he : t.ec.engine = .unconfigured ↔ s.ec.engine = .unconfigured) : s.IdlesWith t := by
  refine ⟨he, fun _ h => ?_⟩
  simp only [State.pool, Dmc.pool, Prod.mk.injEq] at hp
  obtain ⟨-, -, hscrub, -⟩ := hp
  exact hscrub.trans h

theorem foldl {α : Type} {f : State → α → State} (hf : ∀ (u : State) (a : α), u.IdlesWith (f u a)) (l : List α) (s : State) :
    s.IdlesWith (l.foldl f s) :=
  List.foldlRecOn l f (refl s) fun u hu a _ => hu.trans (hf u a)

/-- A request other than INIT: a kind that is taken while the engine is UNCONFIGURED moves no pages (R163). -/
theorem take (k : Kind) (r : Request) (hi : k ≠ .init) (s : State) : s.IdlesWith (s.take k r (ownerOf k)) := by
  obtain h | ⟨u, t, st, q, hu, hk, ho, h⟩ := s.take_cases k r (ownerOf k)
  · exact of_tables h
  · refine (of_tables hu).trans (trans ?_ (of_tables h))
    have engine := ownerOf_memory_engine k hi (r.disposition == 1) r.payload u
    rw [ho] at engine
    cases hm : k.movesPages with
    | false =>
      have spares := ownerOf_spares k hi hm (r.disposition == 1) r.payload u
      rw [ho] at spares
      exact of_pool spares.pool spares.engine
    | true =>
      refine ⟨engine.2, fun he => ?_⟩
      rw [he, k.takenIn_unconfigured hm] at hk
      cases hk

/-- A read fault halts an engine that computes alone (R37, R167). -/
theorem reportFault (n : Word32) (f : LineIx × Nat) (s : State) : s.IdlesWith (s.reportFault n f) := by
  refine of_dmc (by simp) ?_
  unfold State.reportFault
  dsimp only
  generalize (if s.ec.tally.window = some (n.toNat / s.ec.fs) then s.ec.tally.count + 1 else 1) = count
  split
  · rw [State.haltCause_engine]; simp
  · simp

/-- The master fade ends a stop alone (R166). -/
theorem advanceFade (c : Computation) (s : State) : s.IdlesWith (s.advanceFade c) := by
  refine of_dmc (by simp) ?_
  unfold State.advanceFade
  dsimp only
  generalize (if c.written.fade then s.ec.fade else _) = fade
  split
  · rename_i h; simp [h.1]
  · exact Iff.rfl

theorem completeClose (k : LineIx) (s : State) : s.IdlesWith (s.completeClose k) := by
  refine ⟨by simp, fun _ h => ?_⟩
  unfold State.completeClose
  split
  · exact h
  · exact h

/-- No clear starts while the engine is UNCONFIGURED (R27). -/
theorem startScrub (s : State) : s.IdlesWith s.startScrub := by
  refine ⟨by simp, fun he hs => ?_⟩
  unfold State.startScrub
  split
  · rw [he]; exact hs
  · exact hs

theorem finish (c : Computation) (s : State) : s.IdlesWith (s.finish c) := by
  have start : s.IdlesWith { s with fe := { s.fe with computation := none } } := of_dmc rfl Iff.rfl
  have faults (l : List (LineIx × Nat)) (u : State) : u.IdlesWith (u.reportFaults c.stamp l) :=
    foldl (fun v f => reportFault c.stamp f v) l u
  have stores (cs : List (Dest × Int)) (u : State) : u.IdlesWith (u.storeLines c cs) :=
    of_pool (foldl_keeps State.pool _ (State.storeLine_pool c cs) _ u) (by simp)
  have slots (o : Vector TapOut 256) (cs : List (Dest × Int)) (u : State) :
      u.IdlesWith
        (((((((u.deliverBuses c cs).countAllClamps c o).saturateLines c cs).advanceSlots c).advanceTaps c).advanceMods c).advanceBeat c) :=
    of_dmc (by simp) (by simp)
  have probe (o : Vector TapOut 256) (cs : List (Dest × Int)) (u : State) : u.IdlesWith (u.offerProbe c o cs) :=
    of_dmc (by simp) (by simp)
  have releases (u : State) : u.IdlesWith (u.completeReleases c) := of_pool (u.completeReleases_pool c) (by simp)
  have closes (u : State) : u.IdlesWith u.completeCloses := (foldl (fun v k => completeClose k v) (List.finRange 64) u).trans (startScrub _)
  have test (u : State) : u.IdlesWith u.alertTest := of_dmc (by simp) (by simp)
  rw [State.finish_eq]
  exact (((((((start.trans (faults _ _)).trans (stores _ _)).trans (slots _ _ _)).trans (advanceFade _ _)).trans
    (probe _ _ _)).trans (releases _)).trans (closes _)).trans (test _)

theorem completeComputation (l : List Strike) (s : State) : s.IdlesWith (s.completeComputation l) := by
  have struck : s.IdlesWith { s with dmc := { s.dmc with memory := l.foldl Memory.strike s.dmc.memory } } := ⟨Iff.rfl, fun _ h => h⟩
  unfold State.completeComputation
  dsimp only
  split
  · exact struck
  · exact struck.trans (finish _ _)

theorem frameBoundary (ht : execFrameBoundary s = .next t) : s.IdlesWith t := by
  obtain rfl := Host.Outcome.next.inj ht
  have boundary (u : State) : u.IdlesWith { u with port := u.port.boundary u.ec, ec := u.ec.boundary } := of_dmc rfl Iff.rfl
  have schedule (u : State) : u.IdlesWith u.testSchedule := of_dmc rfl Iff.rfl
  have back (u : State) : u.IdlesWith u.clockBack := of_dmc (by simp) (by simp)
  have begins (u : State) : u.IdlesWith u.beginComputation := of_pool u.applyDueWork_pool (by simp)
  have h := (completeComputation [] s).trans (boundary _)
  dsimp only
  split <;> split
  · exact h.trans ((schedule _).trans ((back _).trans (begins _)))
  · exact h.trans ((back _).trans (begins _))
  · exact h.trans ((schedule _).trans (back _))
  · exact h.trans (back _)

/-- A page clear finds none in progress while the engine is UNCONFIGURED, and ends no other state than INITIALIZING (R29, R34). -/
theorem pageClear (ht : execPageClearComplete s = .next t) : s.IdlesWith t := by
  refine ⟨?_, fun _ hs => ?_⟩
  · obtain rfl := Host.Outcome.next.inj ht
    split
    · exact Iff.rfl
    · have clean (u : State) : u.memoryClean.ec.engine = .unconfigured ↔ u.ec.engine = .unconfigured := by
        unfold State.memoryClean
        split
        · rename_i h; simp [h.1]
        · exact Iff.rfl
      rw [clean]
      simp
  · simp only [execPageClearComplete, hs] at ht
    cases ht
    exact hs

/-- The measured rate, the clock and the tracker (R140, R169, R170). -/
theorem timed (ht : (∃ n, execRateMeasurementComplete n s = .next t) ∨ execRateMeasurementLoss s = .next t ∨
    execClockLost s = .next t ∨ execTrackerTimeout s = .next t) : s.IdlesWith t := by
  refine of_dmc (timed_dmc ht) ?_
  obtain ⟨n, ht⟩ | ht | ht | ht := ht <;> obtain rfl := Host.Outcome.next.inj ht <;> (repeat' split) <;>
    simp [State.haltCause_engine]

/-- Every command but INIT, RESET_TAKE and the pin. -/
theorem exec {c : Instr} (hi : ∀ r, c ≠ .init r) (hr : c ≠ .resetTake) (hp : c ≠ .powerOnReset) (ht : exec c s = .next t) :
    s.IdlesWith t := by
  obtain ⟨k, r, he, hk⟩ | ⟨b, r, rfl⟩ | hn := exec_cases_init c s
  · obtain rfl := Host.Outcome.next.inj (he.symm.trans ht)
    exact take k r (fun h => hi r (hk h)) s
  · exact of_tables (execUnknownKindRequest_tables ht)
  · cases c with
    | resetTake => exact absurd rfl hr
    | powerOnReset => exact absurd rfl hp
    | frameBoundary => exact frameBoundary ht
    | frameComputationComplete l => obtain rfl := Host.Outcome.next.inj ht; exact completeComputation l s
    | pageClearComplete => exact pageClear ht
    | frameClose l => obtain rfl := Host.Outcome.next.inj ht; exact of_tables (State.receiveCharacter_tables _ _ _)
    | characterReceived b l => obtain rfl := Host.Outcome.next.inj ht; exact of_tables (State.receiveCharacter_tables _ _ _)
    | frameTransmitDone => exact of_tables (execFrameTransmitDone_tables ht)
    | inputSlotReceived n w fresh =>
      refine of_dmc (input_dmc ht) ?_
      obtain rfl := Host.Outcome.next.inj ht
      split <;> simp
    | rateMeasurementComplete n => exact timed (.inl ⟨n, ht⟩)
    | rateMeasurementLoss => exact timed (.inr (.inl ht))
    | clockLost => exact timed (.inr (.inr (.inl ht)))
    | trackerTimeout => exact timed (.inr (.inr (.inr ht)))
    | _ => cases hn

end State.IdlesWith

/-- INIT leaves no engine UNCONFIGURED that was not (R34). -/
theorem ownInit_engine (b : Bool) (p : List Byte) (s : State) : (ownInit b p s).Leaves fun t => t.ec.engine ≠ .unconfigured := by
  unfold ownInit
  (repeat' split) <;> try exact Verdict.leaves_refuse _ _
  rw [Verdict.leaves_done, State.initBlocks_eq]
  nofun

/-- Settles O18: INIT leaves the engine INITIALIZING, a reset gives the reset values, and every other command keeps UNCONFIGURED. -/
theorem unconfiguredScrubberIsIdle : Obligations.UnconfiguredScrubberIsIdle := by
  have reset (s t : State) (c : Instr) (hc : c = .resetTake ∨ c = .powerOnReset) (ht : exec c s = .next t) :
      t = s ∨ t = s.resetBlocks := by
    obtain rfl | rfl := hc <;> obtain rfl := Host.Outcome.next.inj ht
    · split
      · exact .inr rfl
      · exact .inl rfl
    · exact .inr rfl
  refine ⟨fun c s t ht hs he => ?_, fun c s t ht he hs hi => ?_⟩
  · by_cases hc : c = .resetTake ∨ c = .powerOnReset
    · obtain rfl | rfl := reset s t c hc ht
      · exact absurd he hs
      · rw [State.resetBlocks_eq]; exact ⟨hc, by simp only [State.reset, Dmc.resetValue, and_self]⟩
    · obtain ⟨hr, hp⟩ := not_or.mp hc
      by_cases hi : ∃ r, c = .init r
      · obtain ⟨r, rfl⟩ := hi
        obtain rfl := Host.Outcome.next.inj ht
        obtain h | ⟨u, t, st, q, hu, -, ho, h⟩ := s.take_cases .init r ownInit
        · exact absurd (State.ec_of_tables h ▸ he) hs
        · have hv := ownInit_engine (r.disposition == 1) r.payload u
          rw [ho] at hv
          exact absurd (State.ec_of_tables h ▸ he) hv
      · exact absurd ((State.IdlesWith.exec (fun r hr => hi ⟨r, hr⟩) hr hp ht).engine.mp he) hs
  · by_cases hc : c = .resetTake ∨ c = .powerOnReset
    · obtain rfl | rfl := reset s t c hc ht
      · exact ⟨he, hs⟩
      · rw [State.resetBlocks_eq]; exact ⟨rfl, rfl⟩
    · obtain ⟨hr, hp⟩ := not_or.mp hc
      have h := State.IdlesWith.exec hi hr hp ht
      exact ⟨h.engine.mpr he, h.scrubber he hs⟩

end Sys2Proof.Machine
end

section
/-! SUPPORT. Folds over tables, and what a computation forms from its view (R94 to R102). -/

namespace Sys2Proof.Machine

/-! ## Folds over a table -/

theorem toList_eq_map_finRange {α : Type} {n : Nat} (v : Vector α n) : v.toList = (List.finRange n).map fun i => v[i] :=
  List.ext_getElem (by simp) fun i h1 h2 => by simp

/-- Record by record, each element of a list changes the record that it names: a record is changed by those that name it alone. -/
theorem foldl_updateAt_get {α β : Type} {n : Nat} (p : β → Bool) (ix : β → Fin n) (f : β → α → α) (l : List β)
    (v : Vector α n) (i : Fin n) :
    (l.foldl (fun v b => if p b then updateAt v (ix b) (f b) else v) v)[i] =
      (l.filter fun b => p b && decide (ix b = i)).foldl (fun x b => f b x) v[i] := by
  induction l generalizing v with
  | nil => rfl
  | cons b l ih =>
    rw [List.foldl_cons, ih, List.filter_cons]
    cases hp : p b with
    | false => simp
    | true =>
      rw [if_pos rfl, updateAt_get]
      by_cases hi : ix b = i <;> simp [hi]

/-- Each record changed by the function of its own index. -/
theorem foldl_updateAt_own {α : Type} {n : Nat} (f : Fin n → α → α) (v : Vector α n) (i : Fin n) :
    ((List.finRange n).foldl (fun v j => updateAt v j (f j)) v)[i] = f i v[i] := by
  have h := foldl_updateAt_get (fun _ => true) id f (List.finRange n) v i
  have own : ((List.finRange n).filter fun j => true && decide (id j = i)) = [i] := by
    refine (List.filter_beq i).trans ?_
    rw [List.count_eq_one_of_mem (List.nodup_finRange n) (List.mem_finRange i)]
    rfl
  rw [own] at h
  exact h

/-! ## What a computation forms -/

theorem Tap.takesPart_eq (t : Tap) : t.takesPart = decide (t.state ≠ .unused) := by
  unfold Tap.takesPart; cases t.state <;> rfl

theorem Line.isWritten_eq (l : Line) : l.isWritten = decide (l.state = .active ∨ l.state = .closing) := by
  unfold Line.isWritten; cases l.state <;> rfl

theorem Computation.tapOuts_get (c : Computation) (m : Memory) (j : TapIx) : (c.tapOuts m)[j] = c.tapOut m j := mapIx_get _ _ j

/-- The faults of a computation in the order in which it reports them (R37). -/
theorem Computation.faults_eq (c : Computation) (m : Memory) :
    (c.tapOuts m).toList.flatMap TapOut.faults = (List.finRange 256).flatMap fun j : TapIx => (c.tapOut m j).faults := by
  rw [toList_eq_map_finRange, List.flatMap_map]
  simp only [Computation.tapOuts_get]

/-- The values of one key among the pairs that a list gives are summed over the elements that give it. -/
theorem sum_filterMap_key {β κ : Type} [DecidableEq κ] (T : β → Bool) (D : β → κ) (X : β → Int) (d : κ) (l : List β) :
    (((l.filterMap fun j => if T j then some (D j, X j) else none).filter fun x => x.1 = d).map Prod.snd).sum =
      ((l.filter fun j => T j && decide (D j = d)).map X).sum := by
  induction l with
  | nil => rfl
  | cons j l ih =>
    cases hT : T j with
    | false => simpa [hT] using ih
    | true => by_cases hd : D j = d <;> simpa [hT, hd] using ih

/-- What one destination receives, over the taps that take part (R99). -/
theorem Computation.sumFor_eq (c : Computation) (m : Memory) (d : Dest) :
    sumFor d (c.contributions (c.tapOuts m)) = (((List.finRange 256).filter fun j : TapIx =>
      decide ((c.view.taps[j]).state ≠ .unused ∧ (c.view.taps[j]).dest = d)).map fun j => (c.tapOut m j).contribution).sum := by
  unfold sumFor Computation.contributions
  rw [toList_eq_map_finRange, toList_eq_map_finRange, List.zip_map', List.filterMap_map]
  simp only [Bool.decide_and, ← Tap.takesPart_eq, ← Computation.tapOuts_get]
  exact sum_filterMap_key (fun j : TapIx => (c.view.taps[j]).takesPart) (fun j => (c.view.taps[j]).dest)
    (fun j => ((c.tapOuts m)[j]).contribution) d _

end Sys2Proof.Machine
end

section
/-! SUPPORT. The bus values at a completion (R5, R102). -/

namespace Sys2Proof.Machine

@[simp] theorem State.removeTap_busValues (s : State) (t : TapIx) : (s.removeTap t).fe.busValues = s.fe.busValues :=
  foldl_keeps (fun s : State => s.fe.busValues) (fun (u : State) k => u.mapLine k fun l => { l with refs := l.refs - 1 })
    (fun _ _ => rfl) (s.taps[t]).lines s

theorem State.completeReleases_busValues (s : State) (c : Computation) : (s.completeReleases c).fe.busValues = s.fe.busValues :=
  foldl_keeps (fun s : State => s.fe.busValues) (State.completeRelease c)
    (fun s t => by unfold State.completeRelease; split <;> simp) _ s

theorem State.completeCloses_busValues (s : State) : s.completeCloses.fe.busValues = s.fe.busValues := by
  have h (l : List LineIx) (u : State) : (l.foldl (fun u k => u.completeClose k) u).fe.busValues = u.fe.busValues :=
    foldl_keeps (fun s : State => s.fe.busValues) _ (fun s k => by unfold State.completeClose; split <;> rfl) l u
  rw [State.completeCloses, State.Idle.startScrub_fe, h]

theorem State.advanceBeat_busValues (s : State) (c : Computation) : (s.advanceBeat c).fe.busValues = s.fe.busValues := by
  unfold State.advanceBeat
  (repeat' split) <;> rfl

/-- The bus values are handed to the Frame Engine and to the held set (R5, R102). -/
theorem State.finish_buses (s : State) (c : Computation) :
    let v := c.busValues (c.contributions (c.tapOuts s.dmc.memory))
    (s.finish c).fe.busValues = v ∧ (s.finish c).port = { s.port with held := v } := by
  have delivered (cs : List (Dest × Int)) (u : State) : (u.deliverBuses c cs).port = { u.port with held := c.busValues cs } := by
    have h := foldl_keeps State.port (State.clipBus c cs) (fun s b => by simp) (List.finRange 16) u
    simp only [State.deliverBuses, h]
  rw [State.finish_eq]
  constructor
  · simp [State.finishFrom, State.completeCloses_busValues, State.completeReleases_busValues, State.advanceBeat_busValues]
    rfl
  · simp [State.finishFrom, delivered]

end Sys2Proof.Machine
end

section
/-! SUPPORT. The lines, delay memory and the pages at a completion: the stores of stage 5, the releases and the closes that they
complete (R50, R55, R60, R85, R100, R101, R104). -/

namespace Sys2Proof.Machine

/-! ## The stores -/

theorem updateAt_of_eq {α : Type} {n : Nat} {v : Vector α n} {i : Fin n} {f : α → α} (h : f v[i] = v[i]) : updateAt v i f = v := by
  unfold updateAt; rw [h]; exact Vector.set_getElem_self i.isLt

/-- What stage 5 leaves of the record of line `k` (R50, R51, R101). -/
def Computation.storedLine (c : Computation) (cs : List (Dest × Int)) (k : LineIx) (x : Line) : Line :=
  match c.stored cs k with
  | none => x
  | some (y, _) =>
    { x with
      w := ((c.view.lines[k]).w + 1) % (c.view.lines[k]).length, dampMem := y
      sendGain := approach 64 (c.view.lines[k]).sendGain (c.view.lines[k]).sendTarget }

/-- Where stage 5 stores for line `k`, and what (R50). -/
def Computation.storedAt (c : Computation) (cs : List (Dest × Int)) (k : LineIx) : Option (Nat × Int) :=
  (c.stored cs k).bind fun x => ((c.view.lines[k]).address (c.view.lines[k]).w).map fun a => (a, x.1)

theorem State.storeLine_eq (c : Computation) (cs : List (Dest × Int)) (s : State) (k : LineIx) :
    s.storeLine c cs k = { s with dmc := { s.dmc with
      lines := updateAt s.dmc.lines k (c.storedLine cs k)
      memory := (c.storedAt cs k).elim s.dmc.memory fun x => s.dmc.memory.store x.1 x.2 } } := by
  unfold State.storeLine Computation.storedAt
  dsimp only
  cases h : c.stored cs k with
  | none =>
    have same : updateAt s.dmc.lines k (c.storedLine cs k) = s.dmc.lines := updateAt_of_eq (by rw [Computation.storedLine, h])
    simp [same]
  | some x =>
    obtain ⟨y, b⟩ := x
    have stored : c.storedLine cs k = fun x : Line => { x with
        w := ((c.view.lines[k]).w + 1) % (c.view.lines[k]).length, dampMem := y
        sendGain := approach 64 (c.view.lines[k]).sendGain (c.view.lines[k]).sendTarget } :=
      funext fun x => by rw [Computation.storedLine, h]
    rw [stored]
    cases (c.view.lines[k]).address (c.view.lines[k]).w <;> rfl

/-- The stores of stage 5 write the lines and delay memory alone. -/
theorem State.storeLines_eq (c : Computation) (cs : List (Dest × Int)) (s : State) :
    s.storeLines c cs = { s with dmc := { s.dmc with
      lines := (List.finRange 64).foldl (fun v k => updateAt v k (c.storedLine cs k)) s.dmc.lines
      memory := (List.finRange 64).foldl (fun m k => (c.storedAt cs k).elim m fun x => m.store x.1 x.2) s.dmc.memory } } := by
  unfold State.storeLines
  generalize List.finRange 64 = l
  induction l generalizing s with
  | nil => rfl
  | cons k l ih => rw [List.foldl_cons, ih, State.storeLine_eq]; rfl

theorem State.storeLines_line (c : Computation) (cs : List (Dest × Int)) (s : State) (k : LineIx) :
    (s.storeLines c cs).dmc.lines[k] = c.storedLine cs k s.dmc.lines[k] := by
  rw [State.storeLines_eq]
  exact foldl_updateAt_own (c.storedLine cs) s.dmc.lines k

section
variable {adr : LineIx → Option (Nat × Int)} {a : Nat}

/-- Stores elsewhere leave a sample alone. -/
theorem Memory.read_stores_other (l : List LineIx) (h : ∀ k ∈ l, ∀ y, adr k ≠ some (a, y)) (m : Memory) :
    (l.foldl (fun m k => (adr k).elim m fun x => m.store x.1 x.2) m).read a = m.read a := by
  induction l generalizing m with
  | nil => rfl
  | cons k l ih =>
    rw [List.foldl_cons, ih fun j hj => h j (List.mem_cons_of_mem k hj)]
    cases hk : adr k with
    | none => rfl
    | some x =>
      refine Memory.read_write_other m x.1 a _ ?_
      rintro rfl
      exact h k List.mem_cons_self x.2 hk

/-- The one store at an address gives what the sample reads as (R35). -/
theorem Memory.read_stores_same (l : List LineIx) (hlt : ∀ k x, adr k = some x → x.1 < memorySize) {k : LineIx} {y : Int} (hm : k ∈ l)
    (hk : adr k = some (a, y)) (h : ∀ j, j ≠ k → ∀ z, adr j ≠ some (a, z)) (m : Memory) (hw : m.wf) :
    (l.foldl (fun m k => (adr k).elim m fun x => m.store x.1 x.2) m).read a = { value := y, damage := none } := by
  induction l generalizing m with
  | nil => cases hm
  | cons j l ih =>
    rw [List.foldl_cons]
    have hw' : Memory.wf ((adr j).elim m fun x => m.store x.1 x.2) := by
      cases hj : adr j with
      | none => exact hw
      | some x => exact Memory.wf_store hw (hlt j x hj)
    by_cases hl : k ∈ l
    · exact ih hl _ hw'
    · obtain rfl : k = j := (List.mem_cons.mp hm).resolve_right hl
      rw [Memory.read_stores_other l (fun i hi => h i (by rintro rfl; exact hl hi)), hk]
      exact Memory.read_write_same m a _ hw.1

end

theorem Computation.storedAt_lt {c : Computation} {cs : List (Dest × Int)} {k : LineIx} {x : Nat × Int}
    (h : c.storedAt cs k = some x) : x.1 < memorySize := by
  unfold Computation.storedAt at h
  simp only [Option.bind_eq_some_iff, Option.map_eq_some_iff] at h
  obtain ⟨-, -, a, ha, rfl⟩ := h
  exact Line.address_lt ha

/-! ## Elements handled one by one -/

/-- A fold that handles the elements meeting a condition, when handling one leaves the condition of the others alone. -/
theorem foldl_handled {σ α : Type} (p : σ → α → Bool) (g : σ → α → σ) (h : ∀ s a b, a ≠ b → p (g s a) b = p s b)
    (l : List α) (hn : l.Nodup) (s : σ) : l.foldl (fun s a => if p s a then g s a else s) s = (l.filter (p s)).foldl g s := by
  induction l generalizing s with
  | nil => rfl
  | cons a l ih =>
    obtain ⟨ha, hl⟩ := List.nodup_cons.mp hn
    rw [List.foldl_cons, List.filter_cons, ih hl]
    cases hp : p s a with
    | false => rfl
    | true =>
      rw [if_pos rfl, if_pos rfl, List.foldl_cons, List.filter_congr fun b hb => h s a b (by rintro rfl; exact ha hb)]

/-! ## The releases -/

/-- A line whose reference count is lowered by `n`. -/
def Line.lower (n : Nat) (l : Line) : Line := { l with refs := l.refs - n }

theorem foldl_mapLine (f : Line → Line) (l : List LineIx) (s : State) :
    l.foldl (fun s k => s.mapLine k f) s =
      { s with dmc := { s.dmc with lines := l.foldl (fun v k => updateAt v k f) s.dmc.lines } } := by
  induction l generalizing s with
  | nil => rfl
  | cons k l ih => rw [List.foldl_cons, ih]; rfl

/-- A tap that becomes UNUSED (R85). -/
theorem State.removeTap_eq (s : State) (t : TapIx) :
    s.removeTap t = State.note (Written.leaveTap t) { s with
      dmc := { s.dmc with lines := (s.taps[t]).lines.foldl (fun v k => updateAt v k (Line.lower 1)) s.dmc.lines }
      taps := updateAt s.taps t fun _ => Tap.freeValue
      ec := { s.ec with budgetUsed := s.ec.budgetUsed - 4 } } := by
  exact congrArg (fun u : State => ((u.mapTap t fun _ => Tap.freeValue).refund 4).note (Written.leaveTap t))
    (foldl_mapLine (Line.lower 1) (s.taps[t]).lines s)

/-- The lines of a tap are those that it references (R55). -/
theorem Tap.mem_lines (t : Tap) (k : LineIx) : k ∈ t.lines ↔ t.references k = true := by
  have hd : t.references k = true ↔ k = t.source ∨ t.dest = .line k := by
    unfold Tap.references
    rw [decide_eq_true_eq, eq_comm (a := k)]
  rw [hd]
  unfold Tap.lines
  cases t.dest with
  | bus b => simp
  | line j =>
    rw [Dest.line.injEq, eq_comm (a := j)]
    dsimp only
    split
    · rename_i h; subst h; simp
    · simp

theorem Tap.lines_nodup (t : Tap) : t.lines.Nodup := by
  unfold Tap.lines
  cases t.dest with
  | bus b => simp
  | line j =>
    dsimp only
    split
    · simp
    · rename_i h; simp [Ne.symm h]

/-- The lines of the tap have their reference counts lowered by 1 (R86). -/
theorem State.removeTap_line (s : State) (t : TapIx) (k : LineIx) :
    (s.removeTap t).dmc.lines[k] = if (s.taps[t]).references k then (s.dmc.lines[k]).lower 1 else s.dmc.lines[k] := by
  have fold (l : List LineIx) (hl : l.Nodup) (v : Vector Line 64) :
      (l.foldl (fun v j => updateAt v j (Line.lower 1)) v)[k] = if k ∈ l then (v[k]).lower 1 else v[k] := by
    induction l generalizing v with
    | nil => rfl
    | cons j l ih =>
      obtain ⟨hj, hl⟩ := List.nodup_cons.mp hl
      rw [List.foldl_cons, ih hl, updateAt_get]
      by_cases hk : j = k
      · subst hk; simp [hj]
      · simp [hk, Ne.symm hk]
  rw [State.removeTap_eq, State.note_dmc]
  simp only [fold _ (Tap.lines_nodup _), Tap.mem_lines]

/-- Whether the release of tap `t` completes (R85). -/
def Computation.releasesTap (c : Computation) (s : State) (t : TapIx) : Bool :=
  c.advancesTap t && (c.view.taps[t]).state == .releasing && (s.taps[t]).gain == 0

theorem State.removeTap_tap (s : State) (t j : TapIx) :
    (s.removeTap t).taps[j] = if t = j then Tap.freeValue else s.taps[j] := by
  rw [State.removeTap_eq, State.note_taps]; exact updateAt_get _ _ _ _

/-- The releases that are due are those of the state at which the first is tested. -/
theorem State.completeReleases_eq (c : Computation) (s : State) :
    s.completeReleases c = ((List.finRange 256).filter (c.releasesTap s)).foldl (fun u t => u.removeTap t) s := by
  refine foldl_handled c.releasesTap (fun u t => u.removeTap t) (fun u a b hab => ?_) _ (List.nodup_finRange 256) s
  unfold Computation.releasesTap
  rw [State.removeTap_tap, if_neg hab]

section
variable (l : List TapIx) (hl : l.Nodup) (s : State)
include hl

/-- Taps that become UNUSED, each once. -/
theorem State.removeTaps_tap (j : TapIx) :
    (l.foldl (fun u t => u.removeTap t) s).taps[j] = if j ∈ l then Tap.freeValue else s.taps[j] := by
  induction l generalizing s with
  | nil => rfl
  | cons t l ih =>
    obtain ⟨ht, hl⟩ := List.nodup_cons.mp hl
    rw [List.foldl_cons, ih hl, State.removeTap_tap]
    by_cases hj : t = j
    · subst hj; simp
    · simp [hj, Ne.symm hj]

/-- Each line loses a reference for every such tap that references it (R55). -/
theorem State.removeTaps_line (k : LineIx) :
    (l.foldl (fun u t => u.removeTap t) s).dmc.lines[k] =
      (s.dmc.lines[k]).lower (l.filter fun t => (s.taps[t]).references k).length := by
  induction l generalizing s with
  | nil => rfl
  | cons t l ih =>
    obtain ⟨ht, hl⟩ := List.nodup_cons.mp hl
    have same : (l.filter fun j => ((s.removeTap t).taps[j]).references k) = l.filter fun j => (s.taps[j]).references k :=
      List.filter_congr fun j hj => by rw [State.removeTap_tap, if_neg (by rintro rfl; exact ht hj)]
    rw [List.foldl_cons, ih hl, same, State.removeTap_line, List.filter_cons]
    split
    · simp only [Line.lower, List.length_cons, Nat.sub_sub, Nat.add_comm]
    · rfl

omit hl in
/-- Four units each are given back (R55). -/
theorem State.removeTaps_ec :
    (l.foldl (fun u t => u.removeTap t) s).ec = { s.ec with budgetUsed := s.ec.budgetUsed - 4 * l.length } := by
  induction l generalizing s with
  | nil => rfl
  | cons t l ih =>
    rw [List.foldl_cons, ih, State.removeTap_eq, State.note_ec]
    simp only [List.length_cons, Nat.sub_sub]
    congr 1
    omega

end

end Sys2Proof.Machine
end

section
/-! SUPPORT. The releases and the closes of a completion, as what they leave of lines, taps, pages and units (R55, R60, R85). -/

namespace Sys2Proof.Machine

/-! ## The releases -/

theorem State.completeReleases_tap (c : Computation) (s : State) (j : TapIx) :
    (s.completeReleases c).taps[j] = if c.releasesTap s j then Tap.freeValue else s.taps[j] := by
  rw [State.completeReleases_eq, State.removeTaps_tap _ ((List.nodup_finRange 256).filter _)]
  simp only [List.mem_filter, List.mem_finRange, true_and]

theorem State.completeReleases_line (c : Computation) (s : State) (k : LineIx) :
    (s.completeReleases c).dmc.lines[k] = (s.dmc.lines[k]).lower
      ((List.finRange 256).filter fun j : TapIx => c.releasesTap s j && (s.taps[j]).references k).length := by
  rw [State.completeReleases_eq, State.removeTaps_line _ ((List.nodup_finRange 256).filter _), List.filter_filter]
  simp only [Bool.and_comm]

theorem State.completeReleases_ec (c : Computation) (s : State) :
    (s.completeReleases c).ec =
      { s.ec with budgetUsed := s.ec.budgetUsed - 4 * ((List.finRange 256).filter (c.releasesTap s)).length } := by
  rw [State.completeReleases_eq, State.removeTaps_ec]

/-! ## The closes -/

/-- The close of a line completes: its pages join the dirty queue and it becomes FREE (R60). -/
def State.closeLine (s : State) (k : LineIx) : State :=
  State.freeLine k { s with dmc := { s.dmc with dirty := s.dmc.dirty ++ (s.dmc.lines[k]).pages } }

theorem State.closeLine_line (s : State) (k j : LineIx) :
    (s.closeLine k).dmc.lines[j] = if k = j then Line.freeValue else s.dmc.lines[j] := updateAt_get _ _ _ _

/-- The closes that are due are those of the state at which the first is tested, and the scrubber follows them. -/
theorem State.completeCloses_eq (s : State) :
    s.completeCloses =
      (((List.finRange 64).filter fun k : LineIx => (s.dmc.lines[k]).closeIsDone).foldl State.closeLine s).startScrub := by
  have h := foldl_handled (fun (u : State) (k : LineIx) => (u.dmc.lines[k]).closeIsDone) State.closeLine
    (fun u a b hab => by rw [State.closeLine_line, if_neg hab]) _ (List.nodup_finRange 64) s
  exact congrArg State.startScrub h

section
variable (l : List LineIx) (hl : l.Nodup) (s : State)
include hl

theorem State.closeLines_line (k : LineIx) :
    (l.foldl State.closeLine s).dmc.lines[k] = if k ∈ l then Line.freeValue else s.dmc.lines[k] := by
  induction l generalizing s with
  | nil => rfl
  | cons j l ih =>
    obtain ⟨hj, hl⟩ := List.nodup_cons.mp hl
    rw [List.foldl_cons, ih hl, State.closeLine_line]
    by_cases hk : j = k
    · subst hk; simp
    · simp [hk, Ne.symm hk]

/-- The pages join the dirty queue line by line, in page-list order (R60). -/
theorem State.closeLines_dirty :
    (l.foldl State.closeLine s).dmc.dirty = s.dmc.dirty ++ l.flatMap fun k => (s.dmc.lines[k]).pages := by
  induction l generalizing s with
  | nil => simp
  | cons j l ih =>
    obtain ⟨hj, hl⟩ := List.nodup_cons.mp hl
    have same : (l.flatMap fun k => ((s.closeLine j).dmc.lines[k]).pages) = l.flatMap fun k => (s.dmc.lines[k]).pages :=
      List.flatMap_congr fun k hk => by rw [State.closeLine_line, if_neg (by rintro rfl; exact hj hk)]
    have first : (s.closeLine j).dmc.dirty = s.dmc.dirty ++ (s.dmc.lines[j]).pages := rfl
    rw [List.foldl_cons, ih hl, same, first, List.flatMap_cons, List.append_assoc]

omit hl in
/-- Two units each are given back (R55). -/
theorem State.closeLines_ec : (l.foldl State.closeLine s).ec = { s.ec with budgetUsed := s.ec.budgetUsed - 2 * l.length } := by
  induction l generalizing s with
  | nil => rfl
  | cons j l ih =>
    have first : (s.closeLine j).ec = { s.ec with budgetUsed := s.ec.budgetUsed - 2 } := rfl
    rw [List.foldl_cons, ih, first]
    simp only [List.length_cons, Nat.sub_sub]
    congr 1
    omega

omit hl in
/-- The rest of the DMC is left alone. -/
theorem State.closeLines_rest :
    let d := (l.foldl State.closeLine s).dmc
    (d.memory, d.clean, d.scrubber, d.waitList, d.roundRobin) =
      (s.dmc.memory, s.dmc.clean, s.dmc.scrubber, s.dmc.waitList, s.dmc.roundRobin) :=
  foldl_keeps (fun u : State => (u.dmc.memory, u.dmc.clean, u.dmc.scrubber, u.dmc.waitList, u.dmc.roundRobin)) State.closeLine
    (fun _ _ => rfl) l s

end

theorem State.startScrub_eq (s : State) :
    s.startScrub = { s with dmc := { s.dmc with scrubber := s.startScrub.dmc.scrubber, dirty := s.startScrub.dmc.dirty } } := by
  unfold State.startScrub
  (repeat' split) <;> rfl

/-- The first dirty page enters an IDLE scrubber, unless the engine is UNCONFIGURED (R27, R28). -/
def EngineState.nextClear (e : EngineState) : Option Page → List Page → Option Page × List Page
  | none, p :: rest => if e = .unconfigured then (none, p :: rest) else (some p, rest)
  | x, d => (x, d)

theorem EngineState.nextClear_congr {e f : EngineState} (h : e = .unconfigured ↔ f = .unconfigured) : e.nextClear = f.nextClear := by
  funext x d
  unfold EngineState.nextClear
  simp only [h]

theorem State.startScrub_queue (s : State) :
    (s.startScrub.dmc.scrubber, s.startScrub.dmc.dirty) = s.ec.engine.nextClear s.dmc.scrubber s.dmc.dirty := by
  unfold EngineState.nextClear
  cases hs : s.dmc.scrubber with
  | some p => cases hd : s.dmc.dirty <;> simp [State.startScrub, hs, hd]
  | none =>
    cases hd : s.dmc.dirty with
    | nil => simp [State.startScrub, hs, hd]
    | cons p rest =>
      by_cases he : s.ec.engine = .unconfigured
      · simp [State.startScrub, hs, hd, he, EngineState.scrubs]
      · simp [State.startScrub_of_dirty hs hd he, he]

theorem State.completeCloses_line (s : State) (k : LineIx) :
    s.completeCloses.dmc.lines[k] = if (s.dmc.lines[k]).closeIsDone then Line.freeValue else s.dmc.lines[k] := by
  have closed := State.closeLines_line _ ((List.nodup_finRange 64).filter fun j : LineIx => (s.dmc.lines[j]).closeIsDone) s k
  simp only [List.mem_filter, List.mem_finRange, true_and] at closed
  rw [State.completeCloses_eq, State.startScrub_eq]
  exact closed

theorem State.completeCloses_ec (s : State) :
    s.completeCloses.ec = { s.ec with
      budgetUsed := s.ec.budgetUsed - 2 * ((List.finRange 64).filter fun k : LineIx => (s.dmc.lines[k]).closeIsDone).length } := by
  rw [State.completeCloses_eq, State.startScrub_eq]
  exact State.closeLines_ec _ s

/-- The rest of the DMC but the dirty queue and the scrubber. -/
theorem State.completeCloses_rest (s : State) :
    s.completeCloses.dmc.clean = s.dmc.clean ∧ s.completeCloses.dmc.waitList = s.dmc.waitList ∧
      s.completeCloses.dmc.roundRobin = s.dmc.roundRobin := by
  have h := State.closeLines_rest ((List.finRange 64).filter fun k : LineIx => (s.dmc.lines[k]).closeIsDone) s
  simp only [Prod.mk.injEq] at h
  obtain ⟨-, hclean, -, hwait, hround⟩ := h
  rw [State.completeCloses_eq, State.startScrub_eq]
  exact ⟨hclean, hwait, hround⟩

/-- The dirty queue with the pages of the closed lines, and the scrubber, as the next clear leaves them. -/
theorem State.completeCloses_queue (s : State) :
    (s.completeCloses.dmc.scrubber, s.completeCloses.dmc.dirty) = s.ec.engine.nextClear s.dmc.scrubber
      (s.dmc.dirty ++ ((List.finRange 64).filter fun k : LineIx => (s.dmc.lines[k]).closeIsDone).flatMap
        fun k => (s.dmc.lines[k]).pages) := by
  have h := State.closeLines_rest ((List.finRange 64).filter fun k : LineIx => (s.dmc.lines[k]).closeIsDone) s
  simp only [Prod.mk.injEq] at h
  obtain ⟨-, -, hscrub, -⟩ := h
  rw [State.completeCloses_eq, State.startScrub_queue, State.closeLines_dirty _ ((List.nodup_finRange 64).filter _), hscrub,
    State.closeLines_ec]

end Sys2Proof.Machine
end

section
/-! SUPPORT. The slots and the taps at a completion (R76, R94, R104, R120, R124, R146 to R148). -/

namespace Sys2Proof.Machine

theorem Word32.add_succ (a : Word32) (n : Nat) : a + BitVec.ofNat 32 (n + 1) = a + BitVec.ofNat 32 n + 1 := by
  rw [BitVec.ofNat_add, BitVec.add_assoc]; rfl

/-! ## One slot -/

/-- Whether a saturation trips the runaway control; with the window fields kept it cannot (R147). -/
def Slot.trips (kept : Bool) (x : Slot) : Bool := !kept && decide (x.limit ≤ x.windowCount + 1)

/-- What a saturation leaves of the runaway control (R147). -/
def Slot.hit (kept : Bool) (x : Slot) : Slot :=
  if kept then x
  else if x.trips kept then { x with
    windowCount := 0, windowSaturated := true, runaway := min 4 (x.runaway + 1),
    counters := { x.counters with trips := x.counters.trips + 1 } }
  else { x with windowCount := x.windowCount + 1, windowSaturated := true }

/-- The slot with the counts of saturations, modulation clamps and retunes started that a completion writes. -/
def Slot.counting (saturations modClamps started : Word32) (x : Slot) : Slot :=
  { x with counters := { x.counters with saturations := saturations, modClamps := modClamps, started := started } }

/-- A saturation that is counted. -/
def Slot.saturate (kept : Bool) (x : Slot) : Slot :=
  Slot.hit kept { x with counters := { x.counters with saturations := x.counters.saturations + 1 } }

/-- The window at a completion (R148). -/
def Slot.window (kept : Bool) (W : Nat) (x : Slot) : Slot := if kept then x else x.advanceWindow W

theorem Slot.hit_counting (kept : Bool) (a b d : Word32) (x : Slot) :
    (x.counting a b d).hit kept = (x.hit kept).counting a b d := by
  unfold Slot.hit Slot.trips
  cases kept with
  | true => rfl
  | false =>
    by_cases h : x.limit ≤ x.windowCount + 1
    · simp [Slot.counting, h]
    · simp [Slot.counting, h]

theorem Slot.window_counting (kept : Bool) (W : Nat) (a b d : Word32) (x : Slot) :
    (x.counting a b d).window kept W = (x.window kept W).counting a b d := by
  unfold Slot.window Slot.advanceWindow Slot.counting
  (repeat' split) <;> rfl

theorem Slot.saturate_counting (kept : Bool) (a b d : Word32) (x : Slot) :
    (x.counting a b d).saturate kept = (x.hit kept).counting (a + 1) b d :=
  Slot.hit_counting kept (a + 1) b d x

/-- A number of saturations, counted. -/
theorem Slot.repeat_saturate (kept : Bool) (n : Nat) (a b d : Word32) (x : Slot) :
    Nat.repeat (Slot.saturate kept) n (x.counting a b d) = (Nat.repeat (Slot.hit kept) n x).counting (a + BitVec.ofNat 32 n) b d := by
  induction n with
  | zero => simp [Nat.repeat]
  | succ n ih =>
    simp only [Nat.repeat, ih, Word32.add_succ, Slot.saturate_counting]

/-! ## The slots, stage by stage -/

/-- A fold that writes the slot records alone among the SRU's. -/
theorem foldl_sru {α : Type} {f : State → α → State} {g : Vector Slot 8 → α → Vector Slot 8}
    (h : ∀ s a, (f s a).sru = { s.sru with slots := g s.sru.slots a }) (l : List α) (s : State) :
    (l.foldl f s).sru = { s.sru with slots := l.foldl g s.sru.slots } := by
  induction l generalizing s with
  | nil => rfl
  | cons a l ih => rw [List.foldl_cons, ih, h]; rfl

theorem foldl_slots {α : Type} {f : State → α → State} {g : Vector Slot 8 → α → Vector Slot 8}
    (h : ∀ s a, (f s a).sru = { s.sru with slots := g s.sru.slots a }) (l : List α) (s : State) :
    (l.foldl f s).sru.slots = l.foldl g s.sru.slots := congrArg Sru.slots (foldl_sru h l s)

theorem foldl_repeat {α β : Type} (f : β → β) (l : List α) (x : β) : l.foldl (fun x _ => f x) x = Nat.repeat f l.length x := by
  have comm (n : Nat) (x : β) : Nat.repeat f n (f x) = f (Nat.repeat f n x) := by
    induction n with
    | zero => rfl
    | succ n ih => exact congrArg f ih
  induction l generalizing x with
  | nil => rfl
  | cons a l ih => rw [List.foldl_cons, ih, comm]; rfl

/-- The modulation clamps of one tap (R94). -/
def Slot.clamped (n : Nat) (x : Slot) : Slot :=
  { x with counters := { x.counters with modClamps := x.counters.modClamps + BitVec.ofNat 32 n } }

/-- A retune that starts (R124). -/
def Slot.start (x : Slot) : Slot := { x with counters := { x.counters with started := x.counters.started + 1 } }

theorem State.countClamps_sru (c : Computation) (o : Vector TapOut 256) (s : State) (t : TapIx) :
    (s.countClamps c o t).sru =
      { s.sru with slots := updateAt s.sru.slots (c.view.taps[t]).slot (Slot.clamped (o[t]).clamps) } := by
  unfold State.countClamps
  split
  · rename_i h
    have same : updateAt s.sru.slots (c.view.taps[t]).slot (Slot.clamped (o[t]).clamps) = s.sru.slots :=
      updateAt_of_eq (by rw [h]; simp [Slot.clamped])
    rw [same]
  · rfl

theorem foldl_clamped (f : TapIx → Nat) (l : List TapIx) (x : Slot) :
    l.foldl (fun x j => x.clamped (f j)) x = x.clamped (l.map f).sum := by
  induction l generalizing x with
  | nil => simp [Slot.clamped]
  | cons j l ih => rw [List.foldl_cons, ih]; simp [Slot.clamped, BitVec.ofNat_add, BitVec.add_assoc]

/-- The clamps of the taps of each slot are counted (R94). -/
theorem State.countAllClamps_slot (c : Computation) (o : Vector TapOut 256) (s : State) (i : SlotIx) :
    (s.countAllClamps c o).sru.slots[i] = (s.sru.slots[i]).clamped
      (((List.finRange 256).filter fun j : TapIx => decide ((c.view.taps[j]).slot = i)).map fun j => (o[j]).clamps).sum := by
  have fold (l : List TapIx) (v : Vector Slot 8) :
      (l.foldl (fun v j => updateAt v (c.view.taps[j]).slot (Slot.clamped (o[j]).clamps)) v)[i] =
        (v[i]).clamped ((l.filter fun j : TapIx => decide ((c.view.taps[j]).slot = i)).map fun j => (o[j]).clamps).sum :=
    (foldl_updateAt_get (fun _ => true) (fun j : TapIx => (c.view.taps[j]).slot) (fun j => Slot.clamped (o[j]).clamps) l v i).trans
      (foldl_clamped (fun j => (o[j]).clamps) _ _)
  unfold State.countAllClamps
  rw [foldl_slots (g := fun v j => updateAt v (c.view.taps[j]).slot (Slot.clamped (o[j]).clamps)) (State.countClamps_sru c o)]
  rw [fold]

/-- Whether the store of a line saturated (R100). -/
def Computation.saturates (c : Computation) (cs : List (Dest × Int)) (k : LineIx) : Bool := (c.stored cs k).any Prod.snd

theorem State.saturateLine_eq (c : Computation) (cs : List (Dest × Int)) (s : State) (k : LineIx) :
    s.saturateLine c cs k = if c.saturates cs k then s.reportSaturation c (c.view.lines[k]).slot else s := by
  unfold State.saturateLine Computation.saturates
  cases c.stored cs k with
  | none => rfl
  | some x => obtain ⟨y, b⟩ := x; cases b <;> rfl

theorem updateAt_congr {α : Type} {n : Nat} {v : Vector α n} {i : Fin n} {f g : α → α} (h : f v[i] = g v[i]) :
    updateAt v i f = updateAt v i g := by
  unfold updateAt; rw [h]

theorem State.reportSaturation_sru (c : Computation) (i : SlotIx) (s : State) :
    (s.reportSaturation c i).sru = { s.sru with slots := updateAt s.sru.slots i (Slot.saturate c.written.windows) } := by
  unfold State.reportSaturation
  cases hw : c.written.windows with
  | true => rfl
  | false =>
    have self (r : Slot) : r.saturate false =
        if r.limit ≤ r.windowCount + 1 then { r with
          windowCount := 0, windowSaturated := true, runaway := min 4 (r.runaway + 1)
          counters := { r.counters with saturations := r.counters.saturations + 1, trips := r.counters.trips + 1 } }
        else { r with
          windowCount := r.windowCount + 1, windowSaturated := true
          counters := { r.counters with saturations := r.counters.saturations + 1 } } := by
      unfold Slot.saturate Slot.hit Slot.trips
      by_cases h : r.limit ≤ r.windowCount + 1 <;> simp [h]
    simp only [Bool.false_eq_true, if_false, State.countSlot_sru, updateAt_get, if_true]
    split
    · rename_i h
      simp only [State.post_sru, State.countSlot_sru, State.mapSlot_sru, updateAt_updateAt]
      congr 1
      exact updateAt_congr (by rw [self, if_pos h])
    · rename_i h
      simp only [State.countSlot_sru, State.mapSlot_sru, updateAt_updateAt]
      congr 1
      exact updateAt_congr (by rw [self, if_neg h])

theorem State.saturateLine_sru (c : Computation) (cs : List (Dest × Int)) (s : State) (k : LineIx) :
    (s.saturateLine c cs k).sru = { s.sru with
      slots := if c.saturates cs k then updateAt s.sru.slots (c.view.lines[k]).slot (Slot.saturate c.written.windows)
        else s.sru.slots } := by
  rw [State.saturateLine_eq]
  split
  · exact State.reportSaturation_sru c _ s
  · rfl

/-- Each slot meets the saturations of its own lines (R147). -/
theorem State.foldl_saturateLine_slot (c : Computation) (cs : List (Dest × Int)) (l : List LineIx) (s : State) (i : SlotIx) :
    (l.foldl (State.saturateLine c cs) s).sru.slots[i] = Nat.repeat (Slot.saturate c.written.windows)
      (l.filter fun k : LineIx => c.saturates cs k && decide ((c.view.lines[k]).slot = i)).length s.sru.slots[i] := by
  rw [foldl_slots (g := fun v k => if c.saturates cs k then
    updateAt v (c.view.lines[k]).slot (Slot.saturate c.written.windows) else v) (State.saturateLine_sru c cs)]
  exact (foldl_updateAt_get (c.saturates cs) (fun k : LineIx => (c.view.lines[k]).slot) (fun _ => Slot.saturate c.written.windows)
    l s.sru.slots i).trans (foldl_repeat _ _ _)

theorem State.saturateLines_slot (c : Computation) (cs : List (Dest × Int)) (s : State) (i : SlotIx) :
    (s.saturateLines c cs).sru.slots[i] = Nat.repeat (Slot.saturate c.written.windows)
      ((List.finRange 64).filter fun k : LineIx => c.saturates cs k && decide ((c.view.lines[k]).slot = i)).length s.sru.slots[i] :=
  State.foldl_saturateLine_slot c cs _ s i

theorem State.advanceSlots_slot (c : Computation) (s : State) (i : SlotIx) :
    (s.advanceSlots c).sru.slots[i] = Slot.window c.written.windows s.ec.windowLength { s.sru.slots[i] with
      level := (approach 64 (c.view.slots[i]).level (c.view.slots[i]).effectiveTarget).toNat } :=
  mapIx_get _ _ _

/-! ## The taps -/

/-- The gain step of the view (R76). -/
def Computation.stepGain (c : Computation) (t : TapIx) (x : Tap) : Tap :=
  { x with gain := approach 64 (c.view.taps[t]).gain (c.view.taps[t]).gainTarget }

/-- What the advances of stage 7 leave of a tap, and whether a retune started (R76, R104, R113, R120). -/
def Computation.advanceOf (c : Computation) (t : TapIx) (x : Tap) : Tap × Bool :=
  if c.advancesTap t then
    if c.written.tapRetune[t] then (c.stepGain t x, false) else (c.stepGain t x).advanceRetune
  else (x, false)

theorem State.advanceTap_eq (c : Computation) (s : State) (t : TapIx) :
    s.advanceTap c t = { s with
      taps := updateAt s.taps t fun x => (c.advanceOf t x).1
      sru := { s.sru with slots :=
        if (c.advanceOf t s.taps[t]).2 then updateAt s.sru.slots (c.view.taps[t]).slot Slot.start else s.sru.slots } } := by
  unfold State.advanceTap Computation.advanceOf
  cases c.advancesTap t with
  | false =>
    have same : (updateAt s.taps t fun x => x) = s.taps := updateAt_of_eq rfl
    simp [same]
  | true =>
    cases c.written.tapRetune[t] with
    | true => rfl
    | false =>
      have self : ((s.mapTap t (c.stepGain t)).taps[t]) = c.stepGain t s.taps[t] := (updateAt_get _ _ _ _).trans (if_pos rfl)
      have both : ((s.mapTap t (c.stepGain t)).mapTap t fun x => x.advanceRetune.1) =
          { s with taps := updateAt s.taps t fun x => (c.stepGain t x).advanceRetune.1 } :=
        congrArg (fun v => ({ s with taps := v } : State)) (updateAt_updateAt _ _ _ _)
      show (if ((s.mapTap t (c.stepGain t)).taps[t]).advanceRetune.2 then _ else _) = _
      rw [self]
      simp only [if_true, Bool.false_eq_true, if_false]
      split
      · exact congrArg (fun u : State => u.countSlot (c.view.taps[t]).slot fun x => { x with started := x.started + 1 }) both
      · exact both

section
variable (c : Computation) (l : List TapIx) (s : State)

theorem State.foldl_advanceTap_taps :
    (l.foldl (State.advanceTap c) s).taps = l.foldl (fun v t => updateAt v t fun x => (c.advanceOf t x).1) s.taps := by
  induction l generalizing s with
  | nil => rfl
  | cons t l ih => rw [List.foldl_cons, ih, State.advanceTap_eq]; rfl

/-- The retunes that start are counted for the slots of their taps (R124). -/
theorem State.foldl_advanceTap_sru (hl : l.Nodup) :
    (l.foldl (State.advanceTap c) s).sru = { s.sru with
      slots := (l.filter fun t => (c.advanceOf t s.taps[t]).2).foldl (fun v t => updateAt v (c.view.taps[t]).slot Slot.start)
        s.sru.slots } := by
  induction l generalizing s with
  | nil => rfl
  | cons t l ih =>
    obtain ⟨ht, hl⟩ := List.nodup_cons.mp hl
    have same : (l.filter fun j => (c.advanceOf j (s.advanceTap c t).taps[j]).2) = l.filter fun j => (c.advanceOf j s.taps[j]).2 :=
      List.filter_congr fun j hj => by
        rw [State.advanceTap_eq]
        exact congrArg (fun x => (c.advanceOf j x).2) ((updateAt_get _ _ _ _).trans (if_neg (by rintro rfl; exact ht hj)))
    rw [List.foldl_cons, ih _ hl, same, List.filter_cons, State.advanceTap_eq]
    dsimp only
    split <;> rfl

end

/-- Every tap that takes part in the view and has not left its life advances (R76, R104, R113). -/
theorem State.advanceTaps_tap (c : Computation) (s : State) (j : TapIx) :
    (s.advanceTaps c).taps[j] = (c.advanceOf j s.taps[j]).1 := by
  unfold State.advanceTaps
  rw [State.foldl_advanceTap_taps]
  exact foldl_updateAt_own (fun t x => (c.advanceOf t x).1) s.taps j

theorem Slot.repeat_start (n : Nat) (a b d : Word32) (x : Slot) :
    Nat.repeat Slot.start n (x.counting a b d) = x.counting a b (d + BitVec.ofNat 32 n) := by
  induction n with
  | zero => simp [Nat.repeat]
  | succ n ih =>
    rw [Word32.add_succ, Nat.repeat, ih]
    rfl

theorem State.advanceTaps_slot (c : Computation) (s : State) (i : SlotIx) :
    (s.advanceTaps c).sru.slots[i] = Nat.repeat Slot.start ((List.finRange 256).filter fun j : TapIx =>
      (c.advanceOf j s.taps[j]).2 && decide ((c.view.taps[j]).slot = i)).length s.sru.slots[i] := by
  have fold (l : List TapIx) (v : Vector Slot 8) :
      ((l.filter fun t => (c.advanceOf t s.taps[t]).2).foldl (fun v t => updateAt v (c.view.taps[t]).slot Slot.start) v)[i] =
        Nat.repeat Slot.start (l.filter fun j : TapIx =>
          (c.advanceOf j s.taps[j]).2 && decide ((c.view.taps[j]).slot = i)).length v[i] := by
    rw [List.foldl_filter]
    exact (foldl_updateAt_get (fun j : TapIx => (c.advanceOf j s.taps[j]).2) (fun j : TapIx => (c.view.taps[j]).slot)
      (fun _ => Slot.start) l v i).trans (foldl_repeat _ _ _)
  unfold State.advanceTaps
  rw [State.foldl_advanceTap_sru c _ s (List.nodup_finRange 256), fold]

end Sys2Proof.Machine
end

section
/-! SUPPORT. What a completion announces, counts and halts (R37, R102, R147, R166, R169, R179, R180, R184). -/

namespace Sys2Proof.Machine

/-! ## The announcements -/

/-- What a posted condition and an alert test write: the condition records, the latch and the link. -/
def State.told (s : State) : Vector Condition 15 × Bool × Link := (s.cu.conditions, s.cu.latch, s.link)

/-- The probe and the global counters. -/
def State.gauges (s : State) : Probe × Counters := (s.cu.probe, s.cu.counters)

theorem State.told_inj {s t : State} (h : s.told = t.told) :
    s.cu.conditions = t.cu.conditions ∧ s.cu.latch = t.cu.latch ∧ s.link = t.link := by
  simp only [State.told, Prod.mk.injEq] at h
  exact h

theorem State.post_told {s t : State} (h : s.told = t.told) (n : Word32) (d : Detail) : (s.post n d).told = (t.post n d).told := by
  obtain ⟨hc, hl, hk⟩ := State.told_inj h
  simp only [State.told, State.post, hc, hl, hk]

theorem State.alertTest_told {s t : State} (h : s.told = t.told) : s.alertTest.told = t.alertTest.told := by
  obtain ⟨hc, hl, hk⟩ := State.told_inj h
  unfold State.alertTest
  simp only [CondUnit.announcements, hc, hl]
  split
  · exact h
  · simp only [State.told, State.send, hk]

theorem State.raiseAt_told {s t : State} (h : s.told = t.told) (n : Word32) (d : Detail) : (s.raiseAt n d).told = (t.raiseAt n d).told :=
  State.alertTest_told (State.post_told h n d)

@[simp] theorem State.alertTest_gauges (s : State) : s.alertTest.gauges = s.gauges := by
  unfold State.alertTest
  split <;> rfl

@[simp] theorem State.raiseAt_gauges (s : State) (n : Word32) (d : Detail) : (s.raiseAt n d).gauges = s.gauges :=
  State.alertTest_gauges _

/-- Conditions that arise one after another, each with its alert test. -/
def State.raiseEach (n : Word32) (l : List Detail) (s : State) : State := l.foldl (fun u d => (u.post n d).alertTest) s

/-- Conditions that arise one after another, with no alert test. -/
def State.postEach (n : Word32) (l : List Detail) (s : State) : State := l.foldl (fun u d => u.post n d) s

theorem State.raiseEach_told {s t : State} (h : s.told = t.told) (n : Word32) (l : List Detail) :
    (s.raiseEach n l).told = (t.raiseEach n l).told := by
  induction l generalizing s t with
  | nil => exact h
  | cons d l ih => exact ih (State.raiseAt_told h n d)

theorem State.postEach_told {s t : State} (h : s.told = t.told) (n : Word32) (l : List Detail) :
    (s.postEach n l).told = (t.postEach n l).told := by
  induction l generalizing s t with
  | nil => exact h
  | cons d l ih => exact ih (State.post_told h n d)

theorem State.raiseEach_append (s : State) (n : Word32) (l m : List Detail) :
    s.raiseEach n (l ++ m) = (s.raiseEach n l).raiseEach n m := List.foldl_append

theorem State.postEach_append (s : State) (n : Word32) (l m : List Detail) :
    s.postEach n (l ++ m) = (s.postEach n l).postEach n m := List.foldl_append

/-! ## The MEMORY halt (R167, R169) -/

/-- Whether a MEMORY cause raises HALTED. -/
def Engine.memoryHalts (e : Engine) : Bool :=
  decide (e.engine = .running ∨ e.engine = .stopping ∨ e.engine = .halted ∧ e.reasons.memory = false)

/-- What a MEMORY cause leaves of the Engine Controller. -/
def Engine.memoryHalt (e : Engine) : Engine :=
  { e with
    engine := if e.engine.computes then .halted else e.engine
    reasons := if e.engine.computes || e.engine == .halted then e.reasons.add .memory else e.reasons
    clockAbsent := e.clockAbsent && !e.engine.computes
    clockTimer := e.clockTimer && !e.engine.computes }

theorem Engine.memoryHalt_of_computes {e : Engine} (h : e.engine.computes = true) :
    e.memoryHalt = { e with engine := .halted, reasons := e.reasons.add .memory, clockAbsent := false, clockTimer := false } := by
  simp [Engine.memoryHalt, h]

theorem Engine.memoryHalt_of_halted {e : Engine} (h : e.engine = .halted) :
    e.memoryHalt = { e with reasons := e.reasons.add .memory } := by
  simp [Engine.memoryHalt, h, EngineState.computes]

theorem Engine.memoryHalt_of_idle {e : Engine} (h : e.engine.computes = false) (hh : e.engine ≠ .halted) : e.memoryHalt = e := by
  simp [Engine.memoryHalt, h, hh]

theorem HaltReasons.add_memory_of_has {r : HaltReasons} (h : r.has .memory = true) : r.add .memory = r := by
  obtain ⟨host, rate, memory⟩ := r
  obtain rfl : memory = true := h
  rfl

theorem State.haltCause_memory_ec (n : Word32) (s : State) : (s.haltCause n .memory).ec = s.ec.memoryHalt := by
  rcases s.haltCause_cases n .memory with ⟨h, ⟨he, hw⟩ | ⟨he, hn⟩⟩ | ⟨he, -, h⟩ | ⟨he, h⟩ <;> rw [h]
  · rw [Engine.memoryHalt_of_halted he, HaltReasons.add_memory_of_has hw]
  · rw [Engine.memoryHalt_of_idle he hn]
  · rw [Engine.memoryHalt_of_halted he, (State.raiseAt_keeps _ _ _).1]
  · rw [Engine.memoryHalt_of_computes he, (State.raiseAt_keeps _ _ _).1]

theorem State.haltCause_memory_told (n : Word32) (s : State) :
    (s.haltCause n .memory).told =
      (s.raiseEach n (if s.ec.memoryHalts then [.halted (s.ec.reasons.add .memory)] else [])).told := by
  have told (e : Engine) (d : Detail) : (State.raiseAt n d { s with ec := e }).told = (s.raiseAt n d).told :=
    State.raiseAt_told (s := { s with ec := e }) (t := s) rfl n d
  unfold Engine.memoryHalts
  rcases s.haltCause_cases n .memory with ⟨h, he⟩ | ⟨he, hw, h⟩ | ⟨he, h⟩
  · have none : ¬ (s.ec.engine = .running ∨ s.ec.engine = .stopping ∨ s.ec.engine = .halted ∧ s.ec.reasons.memory = false) := by
      rcases he with ⟨he, hw⟩ | ⟨he, hn⟩
      · have hw : s.ec.reasons.memory = true := hw
        simp [he, hw]
      · cases hs : s.ec.engine <;> simp_all [EngineState.computes]
    rw [h, if_neg (by simpa using none)]
    rfl
  · have hw : s.ec.reasons.memory = false := hw
    rw [h, if_pos (by simp [he, hw])]
    exact told _ _
  · have some : s.ec.engine = .running ∨ s.ec.engine = .stopping ∨ s.ec.engine = .halted ∧ s.ec.reasons.memory = false := by
      cases hs : s.ec.engine <;> simp_all [EngineState.computes]
    rw [h, if_pos (by simpa using some)]
    exact told _ _

theorem State.haltCause_gauges (n : Word32) (w : HaltReason) (s : State) : (s.haltCause n w).gauges = s.gauges := by
  rcases s.haltCause_cases n w with ⟨h, -⟩ | ⟨-, -, h⟩ | ⟨-, h⟩ <;> rw [h]
  · exact State.raiseAt_gauges _ _ _
  · exact State.raiseAt_gauges _ _ _

theorem Engine.memoryHalt_not_halts (e : Engine) : e.memoryHalt.memoryHalts = false := by
  unfold Engine.memoryHalts Engine.memoryHalt
  cases e.engine <;> simp [EngineState.computes, HaltReasons.add]

theorem Engine.memoryHalt_memoryHalt (e : Engine) : e.memoryHalt.memoryHalt = e.memoryHalt := by
  unfold Engine.memoryHalt
  cases e.engine <;> simp [EngineState.computes, HaltReasons.add]

theorem Engine.memoryHalt_tally (e : Engine) (t : Tally) :
    ({ e with tally := t } : Engine).memoryHalt = { e.memoryHalt with tally := t } := rfl

/-! ## The read faults (R37) -/

/-- The faults tallied in the second `w` so far. -/
def Engine.tallied (w : Nat) (e : Engine) : Nat := if e.tally.window = some w then e.tally.count else 0

/-- The Engine Controller after `n` faults in the second `w`. -/
def Engine.faulted (w n : Nat) (e : Engine) : Engine :=
  if n = 0 then e
  else
    let e1 : Engine := { e with tally := { window := some w, count := e.tallied w + n } }
    if 8 ≤ e.tallied w + n then e1.memoryHalt else e1

theorem Engine.faulted_tallied (w n : Nat) (e : Engine) : (e.faulted w n).tallied w = e.tallied w + n := by
  unfold Engine.faulted
  by_cases hn : n = 0
  · simp [hn]
  · rw [if_neg hn]
    dsimp only
    split
    · rw [Engine.memoryHalt_tally]; simp [Engine.tallied]
    · simp [Engine.tallied]

theorem Engine.faulted_succ (w n : Nat) (e : Engine) : (e.faulted w n).faulted w 1 = e.faulted w (n + 1) := by
  rw [Engine.faulted, Engine.faulted_tallied]
  unfold Engine.faulted
  by_cases hn : n = 0
  · simp [hn]
  · simp only [if_neg hn, Nat.add_assoc, Nat.add_eq_zero_iff, Nat.one_ne_zero, and_false, if_false]
    by_cases h8 : 8 ≤ e.tallied w + n
    · have h9 : 8 ≤ e.tallied w + (n + 1) := by omega
      simp only [if_pos h8, if_pos h9, Engine.memoryHalt_tally, Engine.memoryHalt_memoryHalt]
    · simp only [if_neg h8]

/-- A fault raises HALTED when it is the eighth of its second, or the first of a computation in a second that has seen eight. -/
theorem Engine.faulted_halts (w n : Nat) (e : Engine) :
    (decide (8 ≤ e.tallied w + (n + 1)) && (e.faulted w n).memoryHalts) = (decide (n = 7 - e.tallied w) && e.memoryHalts) := by
  unfold Engine.faulted
  by_cases hn : n = 0
  · subst hn
    have first : 8 ≤ e.tallied w + (0 + 1) ↔ 0 = 7 - e.tallied w := by omega
    simp [first]
  · rw [if_neg hn]
    by_cases h8 : 8 ≤ e.tallied w + n
    · have late : ¬ n = 7 - e.tallied w := by omega
      simp [h8, late, Engine.memoryHalt_not_halts]
    · have at8 : 8 ≤ e.tallied w + (n + 1) ↔ n = 7 - e.tallied w := by omega
      have same : ({ e with tally := { window := some w, count := e.tallied w + n } } : Engine).memoryHalts = e.memoryHalts := rfl
      simp [h8, at8, same]

theorem Engine.faulted_reasons {w n : Nat} {e : Engine} (h : (e.faulted w n).memoryHalts = true) :
    (e.faulted w n).reasons = e.reasons := by
  unfold Engine.faulted at h ⊢
  by_cases hn : n = 0
  · rw [if_pos hn]
  · rw [if_neg hn] at h ⊢
    dsimp only at h ⊢
    split at h
    · rw [Engine.memoryHalt_not_halts] at h; cases h
    · rename_i h8; rw [if_neg h8]

/-- The conditions that fault number `n` of a computation raises, of those that begin with `e` (R37, R169). -/
def Engine.faultDetails (w : Nat) (e : Engine) (f : (LineIx × Nat) × Nat) : List Detail :=
  .memFault f.1.1 f.1.2 :: if decide (f.2 = 7 - e.tallied w) && e.memoryHalts then [.halted (e.reasons.add .memory)] else []

/-- A fault, tallied and counted. -/
def State.countFault (n : Word32) (s : State) : State :=
  { s with
    ec := { s.ec with tally := { window := some (n.toNat / s.ec.fs), count := s.ec.tallied (n.toNat / s.ec.fs) + 1 } }
    cu := { s.cu with counters := { s.cu.counters with memFaults := s.cu.counters.memFaults + 1 } } }

section
variable (n : Word32) (f : LineIx × Nat) (s : State)

theorem State.reportFault_eq :
    s.reportFault n f =
      let u := (s.countFault n).raiseAt n (.memFault f.1 f.2)
      if 8 ≤ s.ec.tallied (n.toNat / s.ec.fs) + 1 then u.haltCause n .memory else u := by
  have count : (if s.ec.tally.window = some (n.toNat / s.ec.fs) then s.ec.tally.count + 1 else 1) =
      s.ec.tallied (n.toNat / s.ec.fs) + 1 := by
    unfold Engine.tallied; split <;> rfl
  simp only [State.reportFault, count]
  rfl

theorem State.reportFault_ec : (s.reportFault n f).ec = s.ec.faulted (n.toNat / s.ec.fs) 1 := by
  rw [State.reportFault_eq, Engine.faulted, if_neg Nat.one_ne_zero]
  dsimp only
  split
  · rw [State.haltCause_memory_ec, (State.raiseAt_keeps _ _ _).1]; rfl
  · rw [(State.raiseAt_keeps _ _ _).1]; rfl

theorem State.reportFault_gauges :
    (s.reportFault n f).gauges = (s.cu.probe, { s.cu.counters with memFaults := s.cu.counters.memFaults + 1 }) := by
  rw [State.reportFault_eq]
  dsimp only
  split
  · rw [State.haltCause_gauges, State.raiseAt_gauges]; rfl
  · rw [State.raiseAt_gauges]; rfl

/-- Fault number `k` of a computation that begins with `e`. -/
theorem State.reportFault_told {e : Engine} {k : Nat} (he : s.ec = e.faulted (n.toNat / e.fs) k) (hf : s.ec.fs = e.fs) :
    (s.reportFault n f).told = (s.raiseEach n (e.faultDetails (n.toNat / e.fs) (f, k))).told := by
  have count : s.ec.tallied (n.toNat / s.ec.fs) = e.tallied (n.toNat / e.fs) + k := by rw [hf, he, Engine.faulted_tallied]
  have halts := Engine.faulted_halts (n.toNat / e.fs) k e
  rw [← he] at halts
  have raised : ((s.countFault n).raiseAt n (.memFault f.1 f.2)).told = (s.raiseAt n (.memFault f.1 f.2)).told :=
    State.raiseAt_told (s := s.countFault n) (t := s) rfl n _
  have kept : ((s.countFault n).raiseAt n (.memFault f.1 f.2)).ec.memoryHalts = s.ec.memoryHalts ∧
      ((s.countFault n).raiseAt n (.memFault f.1 f.2)).ec.reasons = s.ec.reasons := by
    rw [(State.raiseAt_keeps _ _ _).1]; exact ⟨rfl, rfl⟩
  have reasons : s.ec.memoryHalts = true → s.ec.reasons = e.reasons := by rw [he]; exact Engine.faulted_reasons
  rw [State.reportFault_eq, count, Engine.faultDetails, ← halts]
  dsimp only
  by_cases h8 : 8 ≤ e.tallied (n.toNat / e.fs) + k + 1
  · have h8' : decide (8 ≤ e.tallied (n.toNat / e.fs) + (k + 1)) = true := decide_eq_true h8
    rw [if_pos h8, State.haltCause_memory_told, kept.1, kept.2, h8', Bool.true_and]
    split
    · rename_i hm; rw [reasons hm]; exact State.raiseEach_told raised n _
    · exact raised
  · have h8' : decide (8 ≤ e.tallied (n.toNat / e.fs) + (k + 1)) = false := decide_eq_false h8
    rw [if_neg h8, raised, h8', Bool.false_and, if_neg Bool.false_ne_true]
    rfl

end

/-- The read faults of a computation, one after another (R37). -/
theorem State.foldl_reportFault (n : Word32) (e : Engine) (l : List (LineIx × Nat)) (k : Nat) (s : State)
    (he : s.ec = e.faulted (n.toNat / e.fs) k) (hf : s.ec.rate = e.rate) :
    (l.foldl (State.reportFault n) s).ec = e.faulted (n.toNat / e.fs) (k + l.length) ∧
      (l.foldl (State.reportFault n) s).told =
        (s.raiseEach n ((l.zipIdx k).flatMap (e.faultDetails (n.toNat / e.fs)))).told := by
  have fs {u : State} (hu : u.ec.rate = e.rate) : u.ec.fs = e.fs := by rw [Engine.fs, Engine.fs, hu]
  induction l generalizing k s with
  | nil => exact ⟨he, rfl⟩
  | cons f l ih =>
    have next : (s.reportFault n f).ec = e.faulted (n.toNat / e.fs) (k + 1) := by
      rw [State.reportFault_ec, fs hf, he, Engine.faulted_succ]
    have rate : (s.reportFault n f).ec.rate = e.rate := by simp [hf]
    obtain ⟨ec, told⟩ := ih (k + 1) (s.reportFault n f) next rate
    refine ⟨?_, told.trans ?_⟩
    · rw [List.length_cons, Nat.add_comm l.length, ← Nat.add_assoc]; exact ec
    · rw [List.zipIdx_cons, List.flatMap_cons, State.raiseEach_append]
      exact State.raiseEach_told (State.reportFault_told n f s he (fs hf)) n _

theorem State.reportFaults_ec (n : Word32) (l : List (LineIx × Nat)) (s : State) :
    (s.reportFaults n l).ec = s.ec.faulted (n.toNat / s.ec.fs) l.length := by
  have h := (State.foldl_reportFault n s.ec l 0 s rfl rfl).1
  rw [Nat.zero_add] at h
  exact h

theorem State.reportFaults_told (n : Word32) (l : List (LineIx × Nat)) (s : State) :
    (s.reportFaults n l).told = (s.raiseEach n (l.zipIdx.flatMap (s.ec.faultDetails (n.toNat / s.ec.fs)))).told :=
  (State.foldl_reportFault n s.ec l 0 s rfl rfl).2

theorem State.reportFaults_gauges (n : Word32) (l : List (LineIx × Nat)) (s : State) :
    (s.reportFaults n l).gauges =
      (s.cu.probe, { s.cu.counters with memFaults := s.cu.counters.memFaults + BitVec.ofNat 32 l.length }) := by
  unfold State.reportFaults
  induction l generalizing s with
  | nil => simp [State.gauges]
  | cons f l ih =>
    have h := State.reportFault_gauges n f s
    simp only [State.gauges, Prod.mk.injEq] at h
    obtain ⟨hp, hc⟩ := h
    rw [List.foldl_cons, ih, hp, hc]
    simp only [List.length_cons, Word32.add_succ, add_right_comm]

/-! ## The clips (R102) -/

/-- The clips of the buses among `l`. -/
def Computation.clips (c : Computation) (cs : List (Dest × Int)) (l : List BusIx) : List Detail :=
  l.filterMap fun b => if clampSample (c.busSum cs b) = c.busSum cs b then none else some (.busClip b)

theorem State.foldl_clipBus (c : Computation) (cs : List (Dest × Int)) (l : List BusIx) (s : State) :
    (l.foldl (State.clipBus c cs) s).told = (s.raiseEach c.stamp (c.clips cs l)).told := by
  induction l generalizing s with
  | nil => rfl
  | cons b l ih =>
    have counted (n : Counters) (d : Detail) :
        (State.raiseAt c.stamp d { s with cu := { s.cu with counters := n } }).told = (s.raiseAt c.stamp d).told :=
      State.raiseAt_told (s := { s with cu := { s.cu with counters := n } }) (t := s) rfl c.stamp d
    rw [List.foldl_cons, ih]
    unfold State.clipBus
    by_cases h : clampSample (c.busSum cs b) = c.busSum cs b
    · have none : c.clips cs (b :: l) = c.clips cs l := List.filterMap_cons_none (if_pos h)
      rw [if_pos h, none]
    · have some : c.clips cs (b :: l) = .busClip b :: c.clips cs l := List.filterMap_cons_some (if_neg h)
      rw [if_neg h, some]
      exact State.raiseEach_told (counted _ _) c.stamp _

theorem State.deliverBuses_told (c : Computation) (cs : List (Dest × Int)) (s : State) :
    (s.deliverBuses c cs).told = (s.raiseEach c.stamp (c.clips cs (List.finRange 16))).told :=
  State.foldl_clipBus c cs (List.finRange 16) s

theorem State.clipBus_gauges (c : Computation) (cs : List (Dest × Int)) (s : State) (b : BusIx) :
    (s.clipBus c cs b).gauges = (s.cu.probe, { s.cu.counters with
      clips := updateAt s.cu.counters.clips b fun n => n + if clampSample (c.busSum cs b) = c.busSum cs b then 0 else 1 }) := by
  unfold State.clipBus
  by_cases h : clampSample (c.busSum cs b) = c.busSum cs b
  · have same : (updateAt s.cu.counters.clips b fun n => n + 0) = s.cu.counters.clips := updateAt_of_eq (BitVec.add_zero _)
    simp only [if_pos h, same]
    rfl
  · simp only [if_neg h, State.raiseAt_gauges]
    rfl

theorem State.deliverBuses_gauges (c : Computation) (cs : List (Dest × Int)) (s : State) :
    (s.deliverBuses c cs).gauges = (s.cu.probe, { s.cu.counters with
      clips := (List.finRange 16).foldl (fun v b => updateAt v b fun n =>
        n + if clampSample (c.busSum cs b) = c.busSum cs b then 0 else 1) s.cu.counters.clips }) := by
  have fold (l : List BusIx) (s : State) : (l.foldl (State.clipBus c cs) s).gauges = (s.cu.probe, { s.cu.counters with
      clips := l.foldl (fun v b => updateAt v b fun n =>
        n + if clampSample (c.busSum cs b) = c.busSum cs b then 0 else 1) s.cu.counters.clips }) := by
    induction l generalizing s with
    | nil => rfl
    | cons b l ih =>
      have h := State.clipBus_gauges c cs s b
      simp only [State.gauges, Prod.mk.injEq] at h
      obtain ⟨hp, hc⟩ := h
      rw [List.foldl_cons, ih, hp, hc]
      rfl
  exact fold (List.finRange 16) s

end Sys2Proof.Machine
end

section
/-! SUPPORT. What the completion itself announces and writes: trips, the end of a stop, the probe, the beat (R142, R147, R166, R184). -/

namespace Sys2Proof.Machine

/-! ## The trips (R147) -/

theorem State.reportSaturation_told (c : Computation) (i : SlotIx) (s : State) :
    (s.reportSaturation c i).told = (s.postEach c.stamp (if (s.sru.slots[i]).trips c.written.windows then
      [.runawayTrip i (min 4 ((s.sru.slots[i]).runaway + 1))] else [])).told := by
  unfold State.reportSaturation Slot.trips
  cases hw : c.written.windows with
  | true => rfl
  | false =>
    simp only [Bool.false_eq_true, if_false, State.countSlot_sru, updateAt_get, if_true, Bool.not_false, Bool.true_and, decide_eq_true_eq]
    split <;> rfl

theorem State.saturateLine_gauges (c : Computation) (cs : List (Dest × Int)) (s : State) (k : LineIx) :
    (s.saturateLine c cs k).gauges = s.gauges := by
  rw [State.saturateLine_eq]
  split
  · unfold State.reportSaturation
    dsimp only
    (repeat' split) <;> rfl
  · rfl

theorem State.saturateLines_gauges (c : Computation) (cs : List (Dest × Int)) (s : State) : (s.saturateLines c cs).gauges = s.gauges :=
  foldl_keeps State.gauges _ (State.saturateLine_gauges c cs) _ s

/-- Whether line `j` saturated and is of slot `i`. -/
def Computation.saturatesSlot (c : Computation) (cs : List (Dest × Int)) (i : SlotIx) (j : LineIx) : Bool :=
  c.saturates cs j && decide ((c.view.lines[j]).slot = i)

/-- The trip of line `k`, when its slot stood as `z` before the saturations of the lines `full`, of which those below `k` went first. -/
def Computation.tripOf (c : Computation) (cs : List (Dest × Int)) (z : SlotIx → Slot) (full : List LineIx) (k : LineIx) :
    Option Detail :=
  let i := (c.view.lines[k]).slot
  let x := Nat.repeat (Slot.hit c.written.windows) (full.filter fun j : LineIx => decide (j < k) && c.saturatesSlot cs i j).length (z i)
  if c.saturates cs k = true ∧ x.trips c.written.windows = true then some (.runawayTrip i (min 4 (x.runaway + 1))) else none

/-- In an ascending list the elements below one of them are those before it. -/
theorem filter_lt_of_pairwise {done l : List LineIx} {k : LineIx} (h : (done ++ k :: l).Pairwise (· < ·)) (p : LineIx → Bool) :
    ((done ++ k :: l).filter fun j => decide (j < k) && p j) = done.filter p := by
  obtain ⟨-, hl, hd⟩ := List.pairwise_append.mp h
  have before : (done.filter fun j => decide (j < k) && p j) = done.filter p :=
    List.filter_congr fun j hj => by rw [decide_eq_true (hd j hj k List.mem_cons_self), Bool.true_and]
  have after : ((k :: l).filter fun j => decide (j < k) && p j) = [] := by
    refine List.filter_eq_nil_iff.mpr fun j hj => ?_
    have hkj : ¬ j < k := by
      rcases List.mem_cons.mp hj with rfl | hj
      · exact lt_irrefl j
      · exact lt_asymm ((List.pairwise_cons.mp hl).1 j hj)
    simp [hkj]
  rw [List.filter_append, before, after, List.append_nil]

theorem State.saturateLine_slot (c : Computation) (cs : List (Dest × Int)) (s : State) (k : LineIx) (i : SlotIx) :
    (s.saturateLine c cs k).sru.slots[i] =
      if c.saturatesSlot cs i k then (s.sru.slots[i]).saturate c.written.windows else s.sru.slots[i] := by
  rw [State.saturateLine_sru]
  unfold Computation.saturatesSlot
  cases c.saturates cs k with
  | false => rfl
  | true =>
    simp only [if_true, updateAt_get, Bool.true_and, decide_eq_true_eq]

/-- The trips of the lines, one after another in ascending order. -/
theorem State.foldl_saturateLine_told (c : Computation) (cs : List (Dest × Int)) (z : SlotIx → Slot) (full l done : List LineIx)
    (hf : full = done ++ l) (hp : full.Pairwise (· < ·)) (s : State)
    (hs : ∀ i : SlotIx, ∃ a b d, s.sru.slots[i] =
      (Nat.repeat (Slot.hit c.written.windows) (done.filter (c.saturatesSlot cs i)).length (z i)).counting a b d) :
    (l.foldl (State.saturateLine c cs) s).told = (s.postEach c.stamp (l.filterMap (c.tripOf cs z full))).told := by
  induction l generalizing done s with
  | nil => rfl
  | cons k l ih =>
    have next (i : SlotIx) : ∃ a b d, (s.saturateLine c cs k).sru.slots[i] =
        (Nat.repeat (Slot.hit c.written.windows) ((done ++ [k]).filter (c.saturatesSlot cs i)).length (z i)).counting a b d := by
      obtain ⟨a, b, d, h⟩ := hs i
      rw [State.saturateLine_slot, List.filter_append, List.filter_singleton]
      cases c.saturatesSlot cs i k with
      | false => exact ⟨a, b, d, by simpa using h⟩
      | true => exact ⟨a + 1, b, d, by rw [if_pos rfl, h, Slot.saturate_counting]; simp [Nat.repeat]⟩
    have rest := ih (done ++ [k]) (by rw [hf]; simp) (s.saturateLine c cs k) next
    obtain ⟨a, b, d, h⟩ := hs (c.view.lines[k]).slot
    have trip : (s.saturateLine c cs k).told = (s.postEach c.stamp (c.tripOf cs z full k).toList).told := by
      subst hf
      rw [State.saturateLine_eq, Computation.tripOf, filter_lt_of_pairwise hp]
      cases c.saturates cs k with
      | false => simp [State.postEach]
      | true =>
        rw [if_pos rfl, State.reportSaturation_told, h]
        have same (x : Slot) : (x.counting a b d).trips c.written.windows = x.trips c.written.windows ∧
            (x.counting a b d).runaway = x.runaway := ⟨rfl, rfl⟩
        simp only [same, true_and]
        split <;> rfl
    rw [List.foldl_cons, rest, List.filterMap_cons]
    refine (State.postEach_told trip c.stamp _).trans ?_
    rw [← State.postEach_append]
    cases c.tripOf cs z full k <;> rfl

theorem State.saturateLines_told (c : Computation) (cs : List (Dest × Int)) (z : SlotIx → Slot) (s : State)
    (hs : ∀ i : SlotIx, ∃ a b d, s.sru.slots[i] = (z i).counting a b d) :
    (s.saturateLines c cs).told = (s.postEach c.stamp ((List.finRange 64).filterMap (c.tripOf cs z (List.finRange 64)))).told :=
  State.foldl_saturateLine_told c cs z _ _ [] rfl (List.pairwise_lt_finRange 64) s hs

/-! ## The master fade (R166) -/

/-- M at the completion. -/
def Computation.fadeAfter (c : Computation) (e : Engine) : Nat :=
  if c.written.fade then e.fade else (approach 1 c.view.fade e.goal).toNat

/-- Whether the completion ends a stop. -/
def Computation.endsStop (c : Computation) (e : Engine) : Bool := decide (e.engine = .stopping ∧ c.fadeAfter e = 0)

theorem State.advanceFade_eq (c : Computation) (s : State) :
    s.advanceFade c =
      if c.endsStop s.ec then
        ({ s with ec := { s.ec with
          fade := c.fadeAfter s.ec, engine := .stopped, clockAbsent := false, clockTimer := false } } : State).post c.stamp
            (.stopDone s.ec.counter)
      else { s with ec := { s.ec with fade := c.fadeAfter s.ec } } := by
  unfold State.advanceFade Computation.endsStop Computation.fadeAfter
  simp only [decide_eq_true_eq]

theorem State.advanceFade_ec (c : Computation) (s : State) :
    (s.advanceFade c).ec = { s.ec with
      fade := c.fadeAfter s.ec
      engine := if c.endsStop s.ec then .stopped else s.ec.engine
      clockAbsent := s.ec.clockAbsent && !c.endsStop s.ec
      clockTimer := s.ec.clockTimer && !c.endsStop s.ec } := by
  rw [State.advanceFade_eq]
  cases c.endsStop s.ec <;> simp

theorem State.advanceFade_told (c : Computation) (s : State) :
    (s.advanceFade c).told = (s.postEach c.stamp (if c.endsStop s.ec then [.stopDone s.ec.counter] else [])).told := by
  rw [State.advanceFade_eq]
  split <;> rfl

theorem State.advanceFade_gauges (c : Computation) (s : State) : (s.advanceFade c).gauges = s.gauges := by
  rw [State.advanceFade_eq]
  split <;> rfl

/-! ## The probe (R184) -/

/-- What the computation offers to the probe, unless a PROBE_SET was taken since the boundary. -/
def Computation.offered (c : Computation) (o : Vector TapOut 256) (cs : List (Dest × Int)) (p : Probe) : Option (Int × SnapPart) :=
  if c.written.probe then none else c.offer o cs p.point

/-- Whether a value trips the probe. -/
def Probe.tripped (p : Probe) (x : Int) : Bool := p.armed && decide (p.trip ≤ x.natAbs)

/-- What an offered value leaves of the probe. -/
def Probe.take (p : Probe) (n : Word32) (x : Int × SnapPart) : Probe :=
  { p with
    peak := max p.peak x.1.natAbs
    armed := p.armed && !p.tripped x.1
    snapshot := if p.tripped x.1 then some { stamp := n, value := x.1, part := x.2 } else p.snapshot }

theorem State.offerProbe_eq (c : Computation) (o : Vector TapOut 256) (cs : List (Dest × Int)) (s : State) :
    s.offerProbe c o cs = match c.offered o cs s.cu.probe with
      | none => s
      | some x => ({ s with cu := { s.cu with probe := s.cu.probe.take c.stamp x } } : State).postEach c.stamp
          (if s.cu.probe.tripped x.1 then [.probeTrip s.cu.probe.point x.1] else []) := by
  unfold State.offerProbe Computation.offered
  cases c.written.probe with
  | true => rfl
  | false =>
    rw [if_neg Bool.false_ne_true, if_neg Bool.false_ne_true]
    cases c.offer o cs s.cu.probe.point with
    | none => rfl
    | some x =>
      obtain ⟨v, part⟩ := x
      dsimp only
      unfold Probe.take Probe.tripped
      cases ht : s.cu.probe.armed && decide (s.cu.probe.trip ≤ v.natAbs) with
      | true => simp only [if_true, Bool.not_true, Bool.and_false]; rfl
      | false => simp only [Bool.false_eq_true, if_false, Bool.not_false, Bool.and_true]; rfl

theorem State.postEach_gauges (s : State) (n : Word32) (l : List Detail) : (s.postEach n l).gauges = s.gauges :=
  foldl_keeps State.gauges (fun u d => u.post n d) (fun _ _ => rfl) l s

theorem State.offerProbe_told (c : Computation) (o : Vector TapOut 256) (cs : List (Dest × Int)) (s : State) :
    (s.offerProbe c o cs).told = (s.postEach c.stamp (match c.offered o cs s.cu.probe with
      | none => []
      | some x => if s.cu.probe.tripped x.1 then [.probeTrip s.cu.probe.point x.1] else [])).told := by
  rw [State.offerProbe_eq]
  cases c.offered o cs s.cu.probe with
  | none => rfl
  | some x => exact State.postEach_told (s := { s with cu := { s.cu with probe := s.cu.probe.take c.stamp x } }) (t := s) rfl _ _

theorem State.offerProbe_gauges (c : Computation) (o : Vector TapOut 256) (cs : List (Dest × Int)) (s : State) :
    (s.offerProbe c o cs).gauges =
      ((c.offered o cs s.cu.probe).elim s.cu.probe (s.cu.probe.take c.stamp), s.cu.counters) := by
  rw [State.offerProbe_eq]
  cases c.offered o cs s.cu.probe with
  | none => rfl
  | some x => exact State.postEach_gauges _ _ _

/-! ## The modulators and the beat (R128, R142) -/

/-- Whether the beat phase wraps. -/
def Computation.wraps (c : Computation) (u : ModUnit) : Bool := !c.written.beatPhase && decide (u.tempo ≤ u.beatPhase + 1)

theorem State.advanceBeat_mu (c : Computation) (s : State) :
    (s.advanceBeat c).mu = { s.mu with
      beatPhase := if c.written.beatPhase then s.mu.beatPhase else if c.wraps s.mu then 0 else s.mu.beatPhase + 1
      mods := mapIx (fun _ m => if c.wraps s.mu = true ∧ m.beatSync = true then { m with phase := 0 } else m) s.mu.mods } := by
  have same : mapIx (fun _ m => m) s.mu.mods = s.mu.mods := Vector.ext fun i hi => mapIx_get (fun _ m => m) s.mu.mods ⟨i, hi⟩
  unfold State.advanceBeat Computation.wraps
  cases c.written.beatPhase with
  | true => simp [same]
  | false => by_cases h : s.mu.tempo ≤ s.mu.beatPhase + 1 <;> simp [h, same]

/-- What a completion leaves of a modulator before its beat. -/
def Computation.modAfter (c : Computation) (i : ModIx) (m : Modulator) : Modulator :=
  if c.written.modPhase[i] then m else m.advance (c.view.mods[i]).increment (c.view.mods[i]).phase

theorem State.advanceMods_mod (c : Computation) (s : State) (i : ModIx) :
    (s.advanceMods c).mu.mods[i] = c.modAfter i s.mu.mods[i] := mapIx_get _ _ _

end Sys2Proof.Machine
end

section
/-! SUPPORT. The completion of a computation as a whole (R104): what `finish` leaves of each block. -/

namespace Sys2Proof.Machine

/-! ## The advance of one tap -/

theorem Tap.startRetune_withGain (n : Nat) (g : Int) (t : Tap) :
    ({ t with gain := g } : Tap).startRetune n = { t.startRetune n with gain := g } := by
  unfold Tap.startRetune
  cases t.retuneMode <;> rfl

/-- The retune advance neither reads nor writes the gain. -/
theorem Tap.advanceRetune_withGain (g : Int) (t : Tap) :
    ({ t with gain := g } : Tap).advanceRetune = ({ t.advanceRetune.1 with gain := g }, t.advanceRetune.2) := by
  unfold Tap.advanceRetune
  dsimp only
  split
  · rfl
  · split
    · rfl
    · split
      · rfl
      · rename_i n _ _ _ _ p _; exact Prod.ext (Tap.startRetune_withGain p g { t with position := n, retune := .idle }) rfl
  · split <;> rfl

theorem Tap.startRetune_references (n : Nat) (t : Tap) (k : LineIx) : (t.startRetune n).references k = t.references k := by
  unfold Tap.startRetune
  cases t.retuneMode <;> rfl

theorem Tap.advanceRetune_references (t : Tap) (k : LineIx) : t.advanceRetune.1.references k = t.references k := by
  unfold Tap.advanceRetune
  cases t.retune with
  | idle => rfl
  | gliding step => dsimp only; split <;> rfl
  | fading n j F pending =>
    dsimp only
    split
    · rfl
    · cases pending with
      | none => rfl
      | some p => exact Tap.startRetune_references p { t with position := n, retune := .idle } k

/-- What the retune advance leaves of a tap, unless a trigger wrote its retune fields, and whether a retune started (R113, R120). -/
def Computation.moveOf (c : Computation) (t : TapIx) (x : Tap) : Tap × Bool :=
  if c.advancesTap t && !c.written.tapRetune[t] then x.advanceRetune else (x, false)

theorem Computation.advanceOf_eq (c : Computation) (t : TapIx) (x : Tap) :
    c.advanceOf t x =
      (if c.advancesTap t then c.stepGain t (c.moveOf t x).1 else x, (c.moveOf t x).2) := by
  unfold Computation.advanceOf Computation.moveOf
  cases c.advancesTap t with
  | false => rfl
  | true =>
    cases c.written.tapRetune[t] with
    | true => rfl
    | false => exact Tap.advanceRetune_withGain _ x

theorem Computation.advanceOf_references (c : Computation) (t : TapIx) (x : Tap) (k : LineIx) :
    (c.advanceOf t x).1.references k = x.references k := by
  unfold Computation.advanceOf
  split
  · split
    · rfl
    · exact Tap.advanceRetune_references (c.stepGain t x) k
  · rfl

/-- Whether the completion releases tap `t`: RELEASING in the view and at gain 0 after the step (R85). -/
def Computation.frees (c : Computation) (t : TapIx) : Bool :=
  c.advancesTap t && (c.view.taps[t]).state == .releasing && approach 64 (c.view.taps[t]).gain (c.view.taps[t]).gainTarget == 0

theorem Computation.releasesTap_of_advanced {c : Computation} {u : State} {t : TapIx} {x : Tap} (h : u.taps[t] = (c.advanceOf t x).1) :
    c.releasesTap u t = c.frees t := by
  unfold Computation.releasesTap Computation.frees
  rw [h, Computation.advanceOf_eq]
  cases c.advancesTap t <;> rfl

/-! ## The stages, composed -/

section
variable (c : Computation) (o : Vector TapOut 256) (cs : List (Dest × Int)) (s : State)

/-- Stages 3, 5 and 6: the faults, the stores, the buses. -/
def State.formed : State :=
  (((({ s with fe := { s.fe with computation := none } } : State).reportFaults c.stamp (o.toList.flatMap TapOut.faults)).storeLines
    c cs).deliverBuses c cs)

/-- The counts, the slots, the taps and the modulators that follow. -/
def State.advanced : State :=
  ((((((s.formed c o cs).countAllClamps c o).saturateLines c cs).advanceSlots c).advanceTaps c).advanceMods c).advanceBeat c

theorem State.formed_ec :
    (s.formed c o cs).ec = s.ec.faulted (c.stamp.toNat / s.ec.fs) (o.toList.flatMap TapOut.faults).length := by
  simp only [State.formed, State.deliverBuses_keeps, State.storeLines_keeps, State.reportFaults_ec]

theorem State.formed_keeps :
    (s.formed c o cs).taps = s.taps ∧ (s.formed c o cs).mu = s.mu ∧ (s.formed c o cs).sru = s.sru := by
  simp [State.formed]

theorem State.formed_dmc : (s.formed c o cs).dmc = (s.storeLines c cs).dmc := by
  simp only [State.formed, State.deliverBuses_keeps, State.storeLines_eq, State.reportFaults_keeps]

theorem State.told_of_cu_link {s t : State} (hc : s.cu = t.cu) (hl : s.link = t.link) : s.told = t.told := by
  rw [State.told, State.told, hc, hl]

theorem State.gauges_of_cu {s t : State} (hc : s.cu = t.cu) : s.gauges = t.gauges := by
  rw [State.gauges, State.gauges, hc]

theorem State.storeLines_told : (s.storeLines c cs).told = s.told := State.told_of_cu_link (by simp) (by simp)

theorem State.formed_told :
    (s.formed c o cs).told = (s.raiseEach c.stamp
      ((o.toList.flatMap TapOut.faults).zipIdx.flatMap (s.ec.faultDetails (c.stamp.toNat / s.ec.fs)) ++
        c.clips cs (List.finRange 16))).told := by
  rw [State.raiseEach_append, State.formed, State.deliverBuses_told]
  refine State.raiseEach_told ?_ _ _
  refine (State.storeLines_told _ _ _).trans ((State.reportFaults_told c.stamp _ _).trans ?_)
  exact State.raiseEach_told (s := { s with fe := { s.fe with computation := none } }) (t := s) rfl _ _

theorem State.formed_gauges :
    (s.formed c o cs).gauges = (s.cu.probe, { s.cu.counters with
      memFaults := s.cu.counters.memFaults + BitVec.ofNat 32 (o.toList.flatMap TapOut.faults).length
      clips := (List.finRange 16).foldl (fun v b => updateAt v b fun n =>
        n + if clampSample (c.busSum cs b) = c.busSum cs b then 0 else 1) s.cu.counters.clips }) := by
  have h := State.reportFaults_gauges c.stamp (o.toList.flatMap TapOut.faults)
    { s with fe := { s.fe with computation := none } }
  simp only [State.gauges, Prod.mk.injEq] at h
  obtain ⟨hp, hc⟩ := h
  rw [State.formed, State.deliverBuses_gauges, (State.storeLines_keeps _ c cs).2.2.2.2.2.2.2, hp, hc]

theorem State.advanced_keeps :
    (s.advanced c o cs).ec = (s.formed c o cs).ec ∧ (s.advanced c o cs).dmc = (s.formed c o cs).dmc := by
  simp [State.advanced]

theorem State.advanced_tap (j : TapIx) : (s.advanced c o cs).taps[j] = (c.advanceOf j s.taps[j]).1 := by
  simp only [State.advanced, State.advanceBeat_keeps, State.advanceMods_keeps, State.advanceTaps_tap, State.advanceSlots_keeps,
    State.saturateLines_keeps, State.countAllClamps_keeps, State.formed_keeps]

/-- The slots of the view's lines before the saturations are counted. -/
theorem State.countAllClamps_counting (i : SlotIx) :
    ∃ a b d, ((s.formed c o cs).countAllClamps c o).sru.slots[i] = (s.sru.slots[i]).counting a b d := by
  rw [State.countAllClamps_slot, (State.formed_keeps c o cs s).2.2]
  exact ⟨_, _, _, rfl⟩

/-- What a completion leaves of slot `i` (R94, R104, R124, R146 to R148). -/
def Computation.slotAfter (c : Computation) (o : Vector TapOut 256) (cs : List (Dest × Int)) (s : State) (i : SlotIx) : Slot :=
  let hits := ((List.finRange 64).filter (c.saturatesSlot cs i)).length
  let x := (Nat.repeat (Slot.hit c.written.windows) hits s.sru.slots[i]).window c.written.windows (s.ec.fs / 10)
  let n := (s.sru.slots[i]).counters
  Slot.counting (n.saturations + BitVec.ofNat 32 hits)
    (n.modClamps + BitVec.ofNat 32
      (((List.finRange 256).filter fun j : TapIx => decide ((c.view.taps[j]).slot = i)).map fun j => (o[j]).clamps).sum)
    (n.started + BitVec.ofNat 32
      ((List.finRange 256).filter fun j : TapIx => (c.moveOf j s.taps[j]).2 && decide ((c.view.taps[j]).slot = i)).length)
    { x with level := (approach 64 (c.view.slots[i]).level (c.view.slots[i]).effectiveTarget).toNat }

theorem Engine.faulted_fs (w n : Nat) (e : Engine) : (e.faulted w n).fs = e.fs := by
  unfold Engine.faulted
  (repeat' split) <;> rfl

theorem Slot.window_withLevel (kept : Bool) (W n : Nat) (x : Slot) :
    ({ x with level := n } : Slot).window kept W = { x.window kept W with level := n } := by
  unfold Slot.window Slot.advanceWindow
  (repeat' split) <;> rfl

theorem State.advanced_slot (i : SlotIx) : (s.advanced c o cs).sru.slots[i] = c.slotAfter o cs s i := by
  have started (j : TapIx) (x : Tap) : (c.advanceOf j x).2 = (c.moveOf j x).2 := by rw [Computation.advanceOf_eq]
  have fs : (s.formed c o cs).ec.windowLength = s.ec.fs / 10 := by
    rw [State.formed_ec, Engine.windowLength, Engine.faulted_fs]
  have clamped (n : Nat) (x : Slot) : x.clamped n =
      x.counting x.counters.saturations (x.counters.modClamps + BitVec.ofNat 32 n) x.counters.started := rfl
  simp only [State.advanced, State.advanceBeat_keeps, State.advanceMods_keeps, State.advanceTaps_slot, State.advanceSlots_slot,
    State.advanceSlots_keeps, State.saturateLines_slot, State.saturateLines_keeps, State.countAllClamps_slot,
    State.countAllClamps_keeps, State.formed_keeps, fs, started, clamped]
  rw [Slot.repeat_saturate, Slot.window_withLevel, Slot.window_counting]
  exact Slot.repeat_start _ _ _ _ { Slot.window _ _ _ with level := _ }

end

end Sys2Proof.Machine
end

section
/-! SUPPORT. The completion of a computation as a whole (R104), continued: from the advances to what `finish` leaves. -/

namespace Sys2Proof.Machine

section
variable (c : Computation) (o : Vector TapOut 256) (cs : List (Dest × Int)) (s : State)

/-! ## After the advances -/

theorem State.advanced_sru : (s.advanced c o cs).sru = { s.sru with slots := (s.advanced c o cs).sru.slots } := by
  have clamps : ((s.formed c o cs).countAllClamps c o).sru =
      { (s.formed c o cs).sru with slots := ((s.formed c o cs).countAllClamps c o).sru.slots } := by
    unfold State.countAllClamps
    rw [foldl_sru (g := fun v j => updateAt v (c.view.taps[j]).slot (Slot.clamped (o[j]).clamps)) (State.countClamps_sru c o)]
  have saturations (u : State) : (u.saturateLines c cs).sru = { u.sru with slots := (u.saturateLines c cs).sru.slots } := by
    unfold State.saturateLines
    rw [foldl_sru (g := fun v k => if c.saturates cs k then
      updateAt v (c.view.lines[k]).slot (Slot.saturate c.written.windows) else v) (State.saturateLine_sru c cs)]
  have taps (u : State) : (u.advanceTaps c).sru = { u.sru with slots := (u.advanceTaps c).sru.slots } := by
    unfold State.advanceTaps
    rw [State.foldl_advanceTap_sru c _ u (List.nodup_finRange 256)]
  have slots (u : State) : (u.advanceSlots c).sru = { u.sru with slots := (u.advanceSlots c).sru.slots } := rfl
  simp only [State.advanced, State.advanceBeat_keeps, State.advanceMods_keeps]
  rw [taps, slots, saturations, clamps, (State.formed_keeps c o cs s).2.2]

theorem State.advanced_told :
    (s.advanced c o cs).told = ((s.raiseEach c.stamp
      ((o.toList.flatMap TapOut.faults).zipIdx.flatMap (s.ec.faultDetails (c.stamp.toNat / s.ec.fs)) ++
        c.clips cs (List.finRange 16))).postEach c.stamp
      ((List.finRange 64).filterMap (c.tripOf cs (fun i => s.sru.slots[i]) (List.finRange 64)))).told := by
  have later : (s.advanced c o cs).told = (((s.formed c o cs).countAllClamps c o).saturateLines c cs).told :=
    State.told_of_cu_link (by simp [State.advanced]) (by simp [State.advanced])
  have counted : ((s.formed c o cs).countAllClamps c o).told = (s.formed c o cs).told :=
    State.told_of_cu_link (by simp) (by simp)
  rw [later, State.saturateLines_told c cs _ _ (State.countAllClamps_counting c o cs s)]
  exact State.postEach_told (counted.trans (State.formed_told c o cs s)) _ _

theorem State.advanced_gauges : (s.advanced c o cs).gauges = (s.formed c o cs).gauges := by
  have later : (s.advanced c o cs).gauges = (((s.formed c o cs).countAllClamps c o).saturateLines c cs).gauges :=
    State.gauges_of_cu (by simp [State.advanced])
  rw [later, State.saturateLines_gauges]
  exact State.gauges_of_cu (by simp)

theorem State.advanced_mu :
    (s.advanced c o cs).mu.tempo = s.mu.tempo ∧ (s.advanced c o cs).mu.tracker = s.mu.tracker ∧
      (s.advanced c o cs).mu.beatPhase =
        (if c.written.beatPhase then s.mu.beatPhase else if c.wraps s.mu then 0 else s.mu.beatPhase + 1) ∧
      ∀ i : ModIx, (s.advanced c o cs).mu.mods[i] =
        let m := c.modAfter i s.mu.mods[i]
        if c.wraps s.mu = true ∧ m.beatSync = true then { m with phase := 0 } else m := by
  have before : (State.advanceTaps c (State.advanceSlots c (State.saturateLines c cs (State.countAllClamps c o (s.formed c o cs))))).mu =
      s.mu := by simp [State.formed_keeps]
  unfold State.advanced
  generalize State.advanceTaps c _ = u at before
  have wraps : c.wraps (u.advanceMods c).mu = c.wraps s.mu := by rw [← before]; rfl
  have phase : (u.advanceMods c).mu.beatPhase = s.mu.beatPhase := by rw [← before]; rfl
  rw [State.advanceBeat_mu, wraps, phase]
  refine ⟨by rw [← before]; rfl, by rw [← before]; rfl, rfl, fun i => ?_⟩
  refine (mapIx_get _ _ i).trans ?_
  rw [State.advanceMods_mod, before]

/-! ## After the master fade and the probe -/

/-- All but the releases, the closes and the last alert test. -/
def State.probed : State := ((s.advanced c o cs).advanceFade c).offerProbe c o cs

theorem State.finishFrom_eq_probed : s.finishFrom c o cs = ((s.probed c o cs).completeReleases c).completeCloses := rfl

/-- The Engine Controller before the releases. -/
def Computation.engineAfter (c : Computation) (n : Nat) (e : Engine) : Engine :=
  let e1 := e.faulted (c.stamp.toNat / e.fs) n
  { e1 with
    fade := c.fadeAfter e1
    engine := if c.endsStop e1 then .stopped else e1.engine
    clockAbsent := e1.clockAbsent && !c.endsStop e1
    clockTimer := e1.clockTimer && !c.endsStop e1 }

theorem State.probed_ec : (s.probed c o cs).ec = c.engineAfter (o.toList.flatMap TapOut.faults).length s.ec := by
  simp only [State.probed, State.offerProbe_keeps, State.advanceFade_ec, State.advanced_keeps, State.formed_ec]
  rfl

theorem State.probed_tap (j : TapIx) : (s.probed c o cs).taps[j] = (c.advanceOf j s.taps[j]).1 := by
  simp only [State.probed, State.offerProbe_keeps, State.advanceFade_keeps, State.advanced_tap]

theorem State.probed_dmc : (s.probed c o cs).dmc = (s.storeLines c cs).dmc := by
  simp only [State.probed, State.offerProbe_keeps, State.advanceFade_keeps, State.advanced_keeps, State.formed_dmc]

theorem State.probed_sru : (s.probed c o cs).sru = (s.advanced c o cs).sru ∧ (s.probed c o cs).mu = (s.advanced c o cs).mu := by
  simp [State.probed]

/-- What the completion announces by posts alone, in its order (R147, R166, R184). -/
def Computation.completedDetails (c : Computation) (o : Vector TapOut 256) (cs : List (Dest × Int)) (s : State) : List Detail :=
  (List.finRange 64).filterMap (c.tripOf cs (fun i => s.sru.slots[i]) (List.finRange 64)) ++
    (if c.endsStop (s.ec.faulted (c.stamp.toNat / s.ec.fs) (o.toList.flatMap TapOut.faults).length) then
      [.stopDone s.ec.counter] else []) ++
    match c.offered o cs s.cu.probe with
    | none => []
    | some x => if s.cu.probe.tripped x.1 then [.probeTrip s.cu.probe.point x.1] else []

/-- What stages 3 and 6 announce, each with its alert test (R37, R102). -/
def Computation.reportedDetails (c : Computation) (o : Vector TapOut 256) (cs : List (Dest × Int)) (s : State) : List Detail :=
  (o.toList.flatMap TapOut.faults).zipIdx.flatMap (s.ec.faultDetails (c.stamp.toNat / s.ec.fs)) ++ c.clips cs (List.finRange 16)

theorem Engine.faulted_counter (w n : Nat) (e : Engine) : (e.faulted w n).counter = e.counter := by
  unfold Engine.faulted
  (repeat' split) <;> rfl

theorem State.probed_told :
    (s.probed c o cs).told = ((s.raiseEach c.stamp (c.reportedDetails o cs s)).postEach c.stamp (c.completedDetails o cs s)).told := by
  have fade := State.advanceFade_told c (s.advanced c o cs)
  rw [(State.advanced_keeps c o cs s).1, State.formed_ec, Engine.faulted_counter] at fade
  have probe : ((s.advanced c o cs).advanceFade c).cu.probe = s.cu.probe := by
    have h := (State.advanceFade_gauges c (s.advanced c o cs)).trans
      ((State.advanced_gauges c o cs s).trans (State.formed_gauges c o cs s))
    exact congrArg Prod.fst h
  rw [State.probed, State.offerProbe_told, probe, Computation.completedDetails, State.postEach_append, State.postEach_append]
  refine State.postEach_told (fade.trans (State.postEach_told ?_ _ _)) _ _
  exact State.advanced_told c o cs s

theorem State.probed_gauges :
    (s.probed c o cs).gauges =
      ((c.offered o cs s.cu.probe).elim s.cu.probe (s.cu.probe.take c.stamp), { s.cu.counters with
        memFaults := s.cu.counters.memFaults + BitVec.ofNat 32 (o.toList.flatMap TapOut.faults).length
        clips := (List.finRange 16).foldl (fun v b => updateAt v b fun n =>
          n + if clampSample (c.busSum cs b) = c.busSum cs b then 0 else 1) s.cu.counters.clips }) := by
  have h := (State.advanceFade_gauges c (s.advanced c o cs)).trans
    ((State.advanced_gauges c o cs s).trans (State.formed_gauges c o cs s))
  simp only [State.gauges, Prod.mk.injEq] at h
  obtain ⟨hp, hc⟩ := h
  rw [State.probed, State.offerProbe_gauges, hp, hc]

/-! ## What a completion leaves -/

/-- The lines of a completion before its closes (R50, R55, R100, R101). -/
def Computation.lineAfter (c : Computation) (cs : List (Dest × Int)) (s : State) (k : LineIx) : Line :=
  (c.storedLine cs k s.dmc.lines[k]).lower
    ((List.finRange 256).filter fun j : TapIx => c.frees j && (s.taps[j]).references k).length

theorem State.probed_releases (j : TapIx) : c.releasesTap (s.probed c o cs) j = c.frees j :=
  Computation.releasesTap_of_advanced (s.probed_tap c o cs j)

theorem State.released_line (k : LineIx) : ((s.probed c o cs).completeReleases c).dmc.lines[k] = c.lineAfter cs s k := by
  rw [State.completeReleases_line, State.probed_dmc, State.storeLines_line, Computation.lineAfter]
  simp only [State.probed_releases, State.probed_tap, Computation.advanceOf_references]

theorem State.finishFrom_line (k : LineIx) :
    (s.finishFrom c o cs).dmc.lines[k] =
      if (c.lineAfter cs s k).closeIsDone then Line.freeValue else c.lineAfter cs s k := by
  rw [State.finishFrom_eq_probed, State.completeCloses_line, State.released_line]

theorem State.finishFrom_tap (j : TapIx) :
    (s.finishFrom c o cs).taps[j] = if c.frees j then Tap.freeValue else (c.advanceOf j s.taps[j]).1 := by
  rw [State.finishFrom_eq_probed, (State.completeCloses_keeps _).2.2.1, State.completeReleases_tap, State.probed_releases,
    State.probed_tap]

theorem State.finishFrom_ec :
    (s.finishFrom c o cs).ec =
      let e := c.engineAfter (o.toList.flatMap TapOut.faults).length s.ec
      { e with budgetUsed := e.budgetUsed - 4 * ((List.finRange 256).filter c.frees).length
          - 2 * ((List.finRange 64).filter fun k : LineIx => (c.lineAfter cs s k).closeIsDone).length } := by
  have frees : c.releasesTap (s.probed c o cs) = c.frees := funext (s.probed_releases c o cs)
  rw [State.finishFrom_eq_probed, State.completeCloses_ec, State.completeReleases_ec, State.probed_ec, frees]
  simp only [State.released_line]

theorem State.finishFrom_memory : (s.finishFrom c o cs).dmc.memory = (s.storeLines c cs).dmc.memory := by
  rw [State.finishFrom_eq_probed, (State.completeCloses_keeps _).2.2.2.2.2.2.2.2.1, (State.completeReleases_keeps _ _).2.2.2.2.2.1,
    State.probed_dmc]

theorem State.finishFrom_sru : (s.finishFrom c o cs).sru = { s.sru with slots := (s.finishFrom c o cs).sru.slots } ∧
    ∀ i : SlotIx, (s.finishFrom c o cs).sru.slots[i] = c.slotAfter o cs s i := by
  have same : (s.finishFrom c o cs).sru = (s.advanced c o cs).sru := by
    simp [State.finishFrom_eq_probed, State.probed_sru]
  rw [same]
  exact ⟨s.advanced_sru c o cs, s.advanced_slot c o cs⟩

theorem State.finishFrom_mu : (s.finishFrom c o cs).mu = (s.advanced c o cs).mu := by
  simp [State.finishFrom_eq_probed, State.probed_sru]

theorem State.finishFrom_told :
    (s.finishFrom c o cs).told =
      ((s.raiseEach c.stamp (c.reportedDetails o cs s)).postEach c.stamp (c.completedDetails o cs s)).told := by
  have later : (s.finishFrom c o cs).told = (s.probed c o cs).told :=
    State.told_of_cu_link (by simp [State.finishFrom_eq_probed]) (by simp [State.finishFrom_eq_probed])
  rw [later, State.probed_told]

theorem State.finishFrom_gauges : (s.finishFrom c o cs).gauges = (s.probed c o cs).gauges :=
  State.gauges_of_cu (by simp [State.finishFrom_eq_probed])

/-- The DMC but for the lines and the memory. -/
def State.queues (s : State) : List Page × List Page × Option Page × List LineIx × LineIx :=
  (s.dmc.clean, s.dmc.dirty, s.dmc.scrubber, s.dmc.waitList, s.dmc.roundRobin)

theorem State.completeReleases_queues : (s.completeReleases c).queues = s.queues :=
  foldl_keeps State.queues (State.completeRelease c)
    (fun u t => by
      unfold State.completeRelease
      split
      · rw [State.removeTap_eq]; rfl
      · rfl) (List.finRange 256) s

theorem State.released_queues : ((s.probed c o cs).completeReleases c).queues = s.queues := by
  rw [State.completeReleases_queues]
  unfold State.queues
  rw [State.probed_dmc, State.storeLines_eq]

theorem State.finishFrom_pool :
    (s.finishFrom c o cs).dmc.clean = s.dmc.clean ∧ (s.finishFrom c o cs).dmc.waitList = s.dmc.waitList ∧
      (s.finishFrom c o cs).dmc.roundRobin = s.dmc.roundRobin := by
  have h := s.released_queues c o cs
  simp only [State.queues, Prod.mk.injEq] at h
  obtain ⟨hclean, -, -, hwait, hround⟩ := h
  obtain ⟨clean, wait, round⟩ := State.completeCloses_rest ((s.probed c o cs).completeReleases c)
  rw [State.finishFrom_eq_probed]
  exact ⟨clean.trans hclean, wait.trans hwait, round.trans hround⟩

theorem Computation.lineAfter_pages (k : LineIx) : (c.lineAfter cs s k).pages = (s.dmc.lines[k]).pages := by
  unfold Computation.lineAfter Computation.storedLine
  split <;> rfl

/-- Only a reset makes the engine UNCONFIGURED (R30). -/
theorem State.released_engine :
    ((s.probed c o cs).completeReleases c).ec.engine = .unconfigured ↔ s.ec.engine = .unconfigured := by
  rw [(State.completeReleases_keeps _ _).2.2.2.2.2.2]
  have h := (State.IdlesWith.advanceFade c (s.advanced c o cs)).engine
  rw [State.probed, (State.offerProbe_keeps _ _ _ _).2.1, h, (s.advanced_keeps c o cs).1, State.formed,
    (State.deliverBuses_keeps _ _ _).1, (State.storeLines_keeps _ _ _).2.1]
  exact (State.IdlesWith.foldl (fun u f => State.IdlesWith.reportFault c.stamp f u) _ _).engine

theorem State.finishFrom_queue :
    ((s.finishFrom c o cs).dmc.scrubber, (s.finishFrom c o cs).dmc.dirty) = s.ec.engine.nextClear s.dmc.scrubber
      (s.dmc.dirty ++ ((List.finRange 64).filter fun k : LineIx => (c.lineAfter cs s k).closeIsDone).flatMap
        fun k => (s.dmc.lines[k]).pages) := by
  have h := s.released_queues c o cs
  simp only [State.queues, Prod.mk.injEq] at h
  obtain ⟨-, hdirty, hscrub, -, -⟩ := h
  rw [State.finishFrom_eq_probed, State.completeCloses_queue, hscrub, hdirty,
    EngineState.nextClear_congr (s.released_engine c o cs)]
  simp only [State.released_line, Computation.lineAfter_pages]

end

end Sys2Proof.Machine
end

section
/-! SUPPORT. The Engine Controller at the completion of a computation, field by field (R37, R166, R169). -/

namespace Sys2Proof.Machine

theorem EngineState.computes_eq (e : EngineState) : e.computes = decide (e = .running ∨ e = .stopping) := by
  cases e <;> rfl

theorem EngineState.computes_or_halted (b : Bool) (e : EngineState) :
    (b && (e.computes || e == .halted)) = decide (b = true ∧ (e = .running ∨ e = .stopping ∨ e = .halted)) := by
  cases b <;> cases e <;> rfl

/-- Whether `n` faults in the second `w` are a halt cause (R37). -/
def Engine.faultsHalt (w n : Nat) (e : Engine) : Bool := decide (n ≠ 0 ∧ 8 ≤ e.tallied w + n)

theorem Engine.faulted_eq (w n : Nat) (e : Engine) :
    let e1 : Engine := { e with tally := if n = 0 then e.tally else { window := some w, count := e.tallied w + n } }
    e.faulted w n = if e.faultsHalt w n then e1.memoryHalt else e1 := by
  unfold Engine.faulted Engine.faultsHalt
  by_cases hn : n = 0
  · simp [hn]
  · simp [hn]

theorem Engine.faulted_engine (w n : Nat) (e : Engine) :
    (e.faulted w n).engine = if e.faultsHalt w n && e.engine.computes then .halted else e.engine := by
  rw [Engine.faulted_eq]
  cases e.faultsHalt w n <;> rfl

theorem Computation.fadeAfter_faulted (c : Computation) (w n : Nat) (e : Engine) : c.fadeAfter (e.faulted w n) = c.fadeAfter e := by
  rw [Engine.faulted_eq]
  cases e.faultsHalt w n <;> rfl

/-- A stop ends unless the computation's own faults halt the engine (R166, R167). -/
theorem Computation.endsStop_faulted (c : Computation) (w n : Nat) (e : Engine) :
    c.endsStop (e.faulted w n) = (!(e.faultsHalt w n && e.engine.computes) && c.endsStop e) := by
  unfold Computation.endsStop
  rw [Computation.fadeAfter_faulted, Engine.faulted_engine]
  cases e.faultsHalt w n && e.engine.computes <;> simp

/-- The Engine Controller after `n` faults and the step of the master fade. -/
theorem Computation.engineAfter_eq (c : Computation) (n : Nat) (e : Engine) :
    let w := c.stamp.toNat / e.fs
    let cause : Bool := e.faultsHalt w n
    let halts : Bool := cause && e.engine.computes
    let stops : Bool := !halts && c.endsStop e
    c.engineAfter n e = { e with
      engine := if halts then .halted else if stops then .stopped else e.engine
      reasons := if cause && (e.engine.computes || e.engine == .halted) then e.reasons.add .memory else e.reasons
      clockAbsent := e.clockAbsent && !halts && !stops
      clockTimer := e.clockTimer && !halts && !stops
      fade := c.fadeAfter e
      tally := if n = 0 then e.tally else { window := some w, count := e.tallied w + n } } := by
  simp only [Computation.engineAfter, Computation.endsStop_faulted, Computation.fadeAfter_faulted, Engine.faulted_engine]
  rw [Engine.faulted_eq]
  cases e.faultsHalt (c.stamp.toNat / e.fs) n with
  | false => simp
  | true => cases hc : e.engine.computes <;> simp [Engine.memoryHalt, hc]

end Sys2Proof.Machine
end

section
/-! SUPPORT. A frame computation writes its results (R104): the results as one summary, and then in the words of O53. -/

namespace Sys2Proof.Machine

/-! ## The results as one summary -/

/-- What a completion leaves, block by block, from what its taps give (`o`) and contribute (`cs`). -/
structure Computation.Results (c : Computation) (o : Vector TapOut 256) (cs : List (Dest × Int)) (s t : State) : Prop where
  values  : t.fe.busValues = c.busValues cs
  port    : t.port = { s.port with held := c.busValues cs }
  line    : ∀ k : LineIx, t.dmc.lines[k] =
    if (c.lineAfter cs s k).closeIsDone then Line.freeValue else c.lineAfter cs s k
  queue   : (t.dmc.scrubber, t.dmc.dirty) = s.ec.engine.nextClear s.dmc.scrubber
    (s.dmc.dirty ++ ((List.finRange 64).filter fun k : LineIx => (c.lineAfter cs s k).closeIsDone).flatMap
      fun k => (s.dmc.lines[k]).pages)
  pool    : t.dmc.clean = s.dmc.clean ∧ t.dmc.waitList = s.dmc.waitList ∧ t.dmc.roundRobin = s.dmc.roundRobin
  memory  : t.dmc.memory =
    (List.finRange 64).foldl (fun m k => (c.storedAt cs k).elim m fun x => m.store x.1 x.2) s.dmc.memory
  tap     : ∀ j : TapIx, t.taps[j] = if c.frees j then Tap.freeValue else (c.advanceOf j s.taps[j]).1
  lists   : t.sru = { s.sru with slots := t.sru.slots }
  slot    : ∀ i : SlotIx, t.sru.slots[i] = c.slotAfter o cs s i
  tempo   : t.mu.tempo = s.mu.tempo ∧ t.mu.tracker = s.mu.tracker
  phase   : t.mu.beatPhase = if c.written.beatPhase then s.mu.beatPhase else if c.wraps s.mu then 0 else s.mu.beatPhase + 1
  mod     : ∀ i : ModIx, t.mu.mods[i] =
    let m := c.modAfter i s.mu.mods[i]
    if c.wraps s.mu = true ∧ m.beatSync = true then { m with phase := 0 } else m
  engine  : t.ec =
    let e := c.engineAfter (o.toList.flatMap TapOut.faults).length s.ec
    { e with budgetUsed := e.budgetUsed - 4 * ((List.finRange 256).filter c.frees).length
        - 2 * ((List.finRange 64).filter fun k : LineIx => (c.lineAfter cs s k).closeIsDone).length }
  probe   : t.cu.probe = (c.offered o cs s.cu.probe).elim s.cu.probe (s.cu.probe.take c.stamp)
  counts  : t.cu.counters = { s.cu.counters with
    memFaults := s.cu.counters.memFaults + BitVec.ofNat 32 (o.toList.flatMap TapOut.faults).length
    clips := (List.finRange 16).foldl (fun v b => updateAt v b fun n =>
      n + if clampSample (c.busSum cs b) = c.busSum cs b then 0 else 1) s.cu.counters.clips }
  told    : t.told =
    ((s.raiseEach c.stamp (c.reportedDetails o cs s)).postEach c.stamp (c.completedDetails o cs s)).alertTest.told

theorem State.finish_results {s : State} {c : Computation} {o : Vector TapOut 256} {cs : List (Dest × Int)}
    (ho : o = c.tapOuts s.dmc.memory) (hcs : cs = c.contributions o) : c.Results o cs s (s.finish c) := by
  have hfin : s.finish c = (s.finishFrom c o cs).alertTest := by rw [hcs, ho]; exact s.finish_eq c
  obtain ⟨hec, -, hdmc, htaps, hmu, -, hsru, -, -⟩ := State.alertTest_keeps (s.finishFrom c o cs)
  rw [← hfin] at hec hdmc htaps hmu hsru
  have hgauges : (s.finish c).gauges = (s.probed c o cs).gauges := by
    rw [hfin, State.alertTest_gauges, State.finishFrom_gauges]
  have hgauges := hgauges.trans (s.probed_gauges c o cs)
  simp only [State.gauges, Prod.mk.injEq] at hgauges
  obtain ⟨hprobe, hcounts⟩ := hgauges
  have hbuses := s.finish_buses c
  rw [← ho, ← hcs] at hbuses
  obtain ⟨hvalues, hport⟩ := hbuses
  obtain ⟨hlists, hslots⟩ := s.finishFrom_sru c o cs
  obtain ⟨htempo, htracker, hphase, hmods⟩ := s.advanced_mu c o cs
  rw [← State.finishFrom_mu, ← hmu] at htempo htracker hphase hmods
  exact
    { values := hvalues, port := hport
      line := by rw [hdmc]; exact s.finishFrom_line c o cs
      queue := by rw [hdmc]; exact s.finishFrom_queue c o cs
      pool := by rw [hdmc]; exact s.finishFrom_pool c o cs
      memory := by rw [hdmc, State.finishFrom_memory, State.storeLines_eq]
      tap := by rw [htaps]; exact s.finishFrom_tap c o cs
      lists := by rw [hsru]; exact hlists
      slot := by rw [hsru]; exact hslots
      tempo := ⟨htempo, htracker⟩, phase := hphase, mod := hmods
      engine := hec.trans (s.finishFrom_ec c o cs)
      probe := hprobe, counts := hcounts
      told := by rw [hfin]; exact State.alertTest_told (s.finishFrom_told c o cs) }

/-! ## The parts in the words of the statement -/

theorem View.readable_eq (v : View) (j : TapIx) :
    v.readable j = decide ((v.taps[j]).state ≠ .unused ∧
      ((v.lines[(v.taps[j]).source]).state = .active ∨ (v.lines[(v.taps[j]).source]).state = .closing)) := by
  rw [View.readable, Tap.takesPart_eq, Line.isWritten_eq, ← Bool.decide_and]

theorem Slot.effectiveTarget_cast (x : Slot) : (x.effectiveTarget : Int) = if x.mute then 0 else (x.levelTarget : Int) := by
  unfold Slot.effectiveTarget
  cases x.mute <;> rfl

theorem Slot.window_eq (kept : Bool) (W : Nat) (x : Slot) :
    x.window kept W =
      if kept then x
      else if 1 < x.windowLeft then { x with windowLeft := x.windowLeft - 1 }
      else { x with
        runaway := if x.windowSaturated then x.runaway else x.runaway - 1
        windowCount := 0, windowSaturated := false, windowLeft := W } := by
  unfold Slot.window Slot.advanceWindow
  cases x.windowSaturated <;> rfl

theorem Engine.faultDetails_eq (w : Nat) (e : Engine) (f : (LineIx × Nat) × Nat) :
    e.faultDetails w f = .memFault f.1.1 f.1.2 ::
      if f.2 = 7 - e.tallied w ∧ (e.engine = .running ∨ e.engine = .stopping ∨ e.engine = .halted ∧ e.reasons.memory = false)
      then [.halted (e.reasons.add .memory)] else [] := by
  simp only [Engine.faultDetails, Engine.memoryHalts, ← Bool.decide_and, decide_eq_true_eq]

/-- Settles O53: with no computation in progress by definition; otherwise the summary of the completion is read part by part in the
words of the statement, each of whose abbreviations is shown equal to the model's own function first. -/
theorem computationWritesItsResults : Obligations.ComputationWritesItsResults := by
  refine ⟨fun s l h => ?_, fun s l => ⟨?_, ?_⟩, fun s c hc hm => ?_⟩
  · show Host.Outcome.next (s.completeComputation l) = _
    simp only [State.completeComputation, h]
  · exact ⟨_, rfl, State.Idle.completeComputation s l⟩
  · rfl
  · intro v clamp toward out sum advances gain releases moved bus formed stores y stored saturates lowered line closes dirty
      ofSlot trips hit hits window slot faults second before tally e cause halts reasons fade stops offered tripped reported
      completed told
    obtain ⟨o, ho⟩ : ∃ o, o = c.tapOuts s.dmc.memory := ⟨_, rfl⟩
    obtain ⟨cs, hcs⟩ : ∃ cs, cs = c.contributions o := ⟨_, rfl⟩
    have hsum (d : Dest) : sum d = sumFor d cs := by
      rw [hcs, ho]; exact (Computation.sumFor_eq c s.dmc.memory d).symm
    have hbus (b : BusIx) : bus b = c.busSum cs b := congrArg (c.busSums[b] + ·) (hsum (.bus b))
    have hvalue (b : BusIx) : (c.busValues cs)[b] = clamp (bus b) := by rw [hbus]; exact mapIx_get _ _ _
    have hformed (k : LineIx) : formed k = c.view.formedValue k (c.lineSums[k] + sumFor (.line k) cs) := by
      show _ + (c.lineSums[k] + sum (.line k)) = _
      rw [hsum]
      unfold View.formedValue
      cases (c.view.lines[k]).source <;> rfl
    have hstored (k : LineIx) : c.stored cs k = if stores k then some (y k, decide (clamp (formed k) ≠ formed k)) else none := by
      simp only [Computation.stored, ← hformed, Line.isWritten_eq]
      rfl
    have hsat (k : LineIx) : c.saturates cs k = saturates k := by
      rw [Computation.saturates, hstored]
      show _ = (stores k && decide (clamp (formed k) ≠ formed k))
      cases stores k <;> rfl
    have hstoredAt (k : LineIx) : c.storedAt cs k = (stored k).map fun a => (a, y k) := by
      rw [Computation.storedAt, hstored]
      show _ = Option.map _ (if stores k then _ else none)
      cases stores k with
      | false => rfl
      | true => rfl
    have hadv (j : TapIx) : c.advancesTap j = advances j := by
      rw [Computation.advancesTap, Tap.takesPart_eq]
    have hfree (j : TapIx) : c.frees j = releases j := by
      rw [Computation.frees, hadv, Bool.and_assoc, beq_eq_decide, beq_eq_decide, ← Bool.decide_and]
      rfl
    have hmove (j : TapIx) : c.moveOf j s.taps[j] = moved j := by
      rw [Computation.moveOf, hadv]
    have hline (k : LineIx) : c.lineAfter cs s k = line k := by
      have fewer : ((List.finRange 256).filter fun j : TapIx => c.frees j && (s.taps[j]).references k).length = lowered k := by
        simp only [hfree]
        rfl
      rw [Computation.lineAfter, Computation.storedLine, hstored, fewer]
      show _ = Line.mk _ _ _ _ _ _ _ _ _ _ _ _ _ _
      cases stores k <;> rfl
    have hcloses (k : LineIx) : (c.lineAfter cs s k).closeIsDone = closes k := by rw [hline]; rfl
    have hslot (i : SlotIx) : c.slotAfter o cs s i = slot i := by
      have hhits : ((List.finRange 64).filter (c.saturatesSlot cs i)).length = hits i := by
        have same : c.saturatesSlot cs i = ofSlot i := funext fun k => by rw [Computation.saturatesSlot, hsat]
        rw [same]
      have hwindow (x : Slot) : x.window c.written.windows (s.ec.fs / 10) = window x := Slot.window_eq _ _ x
      have hclamps : (((List.finRange 256).filter fun j : TapIx => decide ((c.view.taps[j]).slot = i)).map fun j => (o[j]).clamps) =
          ((List.finRange 256).filter fun j : TapIx => decide ((v.taps[j]).slot = i)).map fun j => (out j).clamps := by
        simp only [ho, Computation.tapOuts_get]
        rfl
      have hstarts : ((List.finRange 256).filter fun j : TapIx => (c.moveOf j s.taps[j]).2 && decide ((c.view.taps[j]).slot = i)) =
          (List.finRange 256).filter fun j : TapIx => (moved j).2 && decide ((v.taps[j]).slot = i) := by
        simp only [hmove]
        rfl
      rw [Computation.slotAfter, hhits, hwindow, hclamps, hstarts, Slot.effectiveTarget_cast]
      rfl
    have hfaults : o.toList.flatMap TapOut.faults = faults := by rw [ho]; exact c.faults_eq s.dmc.memory
    have hcause : s.ec.faultsHalt (c.stamp.toNat / s.ec.fs) faults.length = cause := by
      have hlen : faults.length ≠ 0 ↔ faults ≠ [] := not_congr List.length_eq_zero_iff
      simp only [Engine.faultsHalt, hlen]
      rfl
    have hhalts : (cause && s.ec.engine.computes) = halts := by rw [EngineState.computes_eq]
    have hends : (!halts && c.endsStop s.ec) = stops := rfl
    have hstops : c.endsStop (s.ec.faulted (c.stamp.toNat / s.ec.fs) faults.length) = stops := by
      rw [Computation.endsStop_faulted, hcause, hhalts, hends]
    have hengine : c.engineAfter faults.length s.ec = { s.ec with
        engine := if halts then .halted else if stops then .stopped else e
        reasons := if cause = true ∧ (e = .running ∨ e = .stopping ∨ e = .halted) then reasons else s.ec.reasons
        clockAbsent := s.ec.clockAbsent && !halts && !stops
        clockTimer := s.ec.clockTimer && !halts && !stops
        fade := fade
        tally := if faults = [] then s.ec.tally else { window := some second, count := tally } } := by
      have hlen : faults.length = 0 ↔ faults = [] := List.length_eq_zero_iff
      rw [Computation.engineAfter_eq, hcause]
      simp only [hhalts, hends, EngineState.computes_or_halted, hlen, decide_eq_true_eq]
      rfl
    have hoffered : c.offered o cs s.cu.probe = offered := by
      show _ = if c.written.probe then none else _
      unfold Computation.offered Computation.offer
      cases s.cu.probe.point with
      | off => rfl
      | tap j =>
        simp only [ho, Computation.tapOuts_get, View.readable_eq, decide_eq_true_eq]
        rfl
      | line k =>
        dsimp only
        rw [hstored]
        cases stores k <;> rfl
      | bus b =>
        dsimp only
        rw [hvalue]
    have hreported : c.reportedDetails o cs s = reported := by
      show _ = (faults.zipIdx.flatMap fun f => _) ++ _
      rw [Computation.reportedDetails, hfaults]
      simp only [hbus]
      exact congrArg₂ (· ++ ·) (List.flatMap_congr fun f _ => Engine.faultDetails_eq _ _ f) rfl
    have hcompleted : c.completedDetails o cs s = completed := by
      rw [Computation.completedDetails, hfaults, hstops, hoffered]
      refine congrArg₂ (· ++ ·) (congrArg (· ++ _) (List.filterMap_congr fun k _ => ?_)) (by cases offered <;> rfl)
      simp only [Computation.tripOf, Computation.saturatesSlot, hsat]
      rfl
    have hqueue : s.dmc.dirty ++ ((List.finRange 64).filter fun k : LineIx => (c.lineAfter cs s k).closeIsDone).flatMap
        (fun k => (s.dmc.lines[k]).pages) = dirty := by
      simp only [hcloses]
      rfl
    have hat (k : LineIx) (a : Nat) (x : Int) (h : c.storedAt cs k = some (a, x)) : stored k = some a := by
      rw [hstoredAt, Option.map_eq_some_iff] at h
      obtain ⟨a', ha, hx⟩ := h
      exact ha.trans (congrArg (some ∘ Prod.fst) hx)
    have h := State.finish_results ho hcs
    obtain ⟨hclean, hwait, hround⟩ := h.pool
    obtain ⟨htempo, htracker⟩ := h.tempo
    have htold : (s.finish c).told = told.told := by rw [h.told, hreported, hcompleted]; rfl
    obtain ⟨hconditions, hlatch, hlink⟩ := State.told_inj htold
    refine ⟨s.finish c, ?_, State.Idle.finish s c, (s.finish_keeps c).2, (s.finish_keeps c).1, fun b => ?_, ?_, fun k => ?_, ?_,
      hclean, hwait, hround, fun a ha => ?_, fun k a ha hb => ?_, fun j => ?_, fun i => (h.slot i).trans (hslot i), h.lists,
      ⟨htempo, htracker, h.phase, h.mod⟩, ?_, ?_, ?_, ?_, ?_, fun b => ?_, hconditions, hlatch, hlink⟩
    · exact congrArg Host.Outcome.next (by simp only [State.completeComputation, hc, List.foldl_nil])
    · rw [h.values, h.port]; exact ⟨hvalue b, hvalue b⟩
    · rw [h.port]
    · rw [h.line, hcloses, hline]
    · rw [h.queue, hqueue]
      generalize dirty = d
      cases s.dmc.scrubber <;> cases d <;> rfl
    · rw [h.memory]
      exact Memory.read_stores_other _ (fun k _ x hk => ha k (hat k a x hk)) _
    · rw [h.memory]
      exact Memory.read_stores_same _ (fun _ _ => Computation.storedAt_lt) (List.mem_finRange k)
        (by rw [hstoredAt, ha]; rfl) (fun j hj x hk => hb j hj (hat j a x hk)) _ hm
    · rw [h.tap, hfree, Computation.advanceOf_eq, hadv, hmove]
      rfl
    · have hfrees : c.frees = releases := funext hfree
      rw [h.engine, hfaults, hengine, hfrees]
      simp only [hcloses]
    · rw [h.probe, hoffered]
      cases offered <;> rfl
    · rw [h.counts, hfaults]
    · rw [h.counts]
    · rw [h.counts]
    · rw [h.counts]
      refine (foldl_updateAt_own (fun b n => n + if clampSample (c.busSum cs b) = c.busSum cs b then 0 else 1) _ b).trans ?_
      rw [← hbus]
      rfl

end Sys2Proof.Machine
end

section
/-! SUPPORT. The accounts: what the budget ledger (R105) and the reference counts (R55, R68) turn on, as sums over the tables, and
the operations that leave it alone. -/

namespace Sys2Proof.Machine

/-! ## The fields of a record that the accounts turn on -/

/-- Whether a line is not FREE, its slot and its reference count. -/
def Line.account (l : Line) : Bool × SlotIx × Nat := (l.isNotFree, l.slot, l.refs)

/-- Whether a tap is in use, its slot and its lines. -/
def Tap.account (t : Tap) : Bool × SlotIx × LineIx × Dest := (t.takesPart, t.slot, t.source, t.dest)

/-- The taps that the computation in progress, if any, will advance. -/
def FrameEngine.advances (e : FrameEngine) : Option (TapIx → Bool) := e.computation.map Computation.advancesTap

/-- What the ledger and the reference counts are about. -/
def State.accounts (s : State) :
    Nat × Option Rate × (LineIx → Bool × SlotIx × Nat) × (TapIx → Bool × SlotIx × LineIx × Dest) × Option (TapIx → Bool) :=
  (s.ec.budgetUsed, s.ec.rate, fun k => (s.dmc.lines[k]).account, fun j => (s.taps[j]).account, s.fe.advances)

theorem Line.isNotFree_iff (l : Line) : l.isNotFree = true ↔ l.state ≠ .free := by simp [Line.isNotFree]

theorem Tap.takesPart_iff (t : Tap) : t.takesPart = true ↔ t.state ≠ .unused := by simp [Tap.takesPart]

theorem Tap.references_iff (t : Tap) (k : LineIx) : t.references k = true ↔ t.source = k ∨ t.dest = .line k := by
  simp [Tap.references]

/-- The units that a line holds (R105). -/
def Line.units (l : Line) : Nat := if l.isNotFree then 2 else 0

/-- The units that a tap holds (R105). -/
def Tap.units (t : Tap) : Nat := if t.takesPart then 4 else 0

/-- How often a tap counts for the references of a line (R55). -/
def Tap.naming (k : LineIx) (t : Tap) : Nat := if t.takesPart && t.references k then 1 else 0

theorem length_filter_eq_sum {α : Type} (p : α → Bool) (l : List α) :
    (l.filter p).length = (l.map fun a => if p a then 1 else 0).sum := by
  induction l with
  | nil => rfl
  | cons a l ih => cases h : p a <;> simp [h, ih, Nat.add_comm]

theorem sum_map_finRange {n : Nat} (f : Fin n → Nat) : ((List.finRange n).map f).sum = ∑ i : Fin n, f i := by
  rw [← List.ofFn_eq_map, List.sum_ofFn]

theorem State.unitsHeld_eq_sum (s : State) :
    s.unitsHeld = (∑ k : LineIx, (s.dmc.lines[k]).units) + ∑ j : TapIx, (s.taps[j]).units := by
  have line : Line.units = fun l => 2 * if l.isNotFree then 1 else 0 := funext fun l => by unfold Line.units; split <;> rfl
  have tap : Tap.units = fun t => 4 * if t.takesPart then 1 else 0 := funext fun t => by unfold Tap.units; split <;> rfl
  rw [State.unitsHeld, length_filter_eq_sum, length_filter_eq_sum, sum_map_toList, sum_map_toList, line, tap, Finset.mul_sum,
    Finset.mul_sum]

theorem State.naming_eq_sum (s : State) (k : LineIx) :
    ((List.finRange 256).filter fun j : TapIx => (s.taps[j]).takesPart && (s.taps[j]).references k).length =
      ∑ j : TapIx, (s.taps[j]).naming k := by
  rw [length_filter_eq_sum, sum_map_finRange]
  rfl

section
variable {s u : State}

theorem State.account_of_accounts (he : u.accounts = s.accounts) :
    u.ec.budgetUsed = s.ec.budgetUsed ∧ u.ec.rate = s.ec.rate ∧
      (∀ k : LineIx, (u.dmc.lines[k]).account = (s.dmc.lines[k]).account) ∧
      (∀ j : TapIx, (u.taps[j]).account = (s.taps[j]).account) ∧ u.fe.advances = s.fe.advances := by
  simp only [State.accounts, Prod.mk.injEq] at he
  obtain ⟨hb, hr, hl, ht, hc⟩ := he
  exact ⟨hb, hr, congrFun hl, congrFun ht, hc⟩

/-- The ledger is exact in a state with the same accounts. -/
theorem State.LedgerExact.of_accounts (h : s.LedgerExact) (he : u.accounts = s.accounts) : u.LedgerExact := by
  obtain ⟨hb, hr, hl, ht, hc⟩ := State.account_of_accounts he
  have line (k : LineIx) : (u.dmc.lines[k]).isNotFree = (s.dmc.lines[k]).isNotFree := congrArg Prod.fst (hl k)
  have tap (j : TapIx) : (u.taps[j]).takesPart = (s.taps[j]).takesPart := congrArg Prod.fst (ht j)
  refine ⟨?_, ?_, fun c hu j hj => ?_⟩
  · rw [hb, h.used, State.unitsHeld_eq_sum, State.unitsHeld_eq_sum]
    simp only [Line.units, Tap.units, line, tap]
  · rw [hb, Engine.capacity, hr]
    exact h.fits
  · have hs : s.fe.computation.map Computation.advancesTap = some c.advancesTap := hc.symm.trans (congrArg (Option.map _) hu)
    obtain ⟨d, hd, hcd⟩ := Option.map_eq_some_iff.mp hs
    rw [tap]
    exact h.view d hd j (by rw [hcd]; exact hj)

/-- The reference counts are exact in a state with the same accounts. -/
theorem State.ReferencesExact.of_accounts (h : s.ReferencesExact) (he : u.accounts = s.accounts) : u.ReferencesExact := by
  obtain ⟨-, -, hl, ht, -⟩ := State.account_of_accounts he
  have line (k : LineIx) : (u.dmc.lines[k]).isNotFree = (s.dmc.lines[k]).isNotFree ∧
      (u.dmc.lines[k]).slot = (s.dmc.lines[k]).slot ∧ (u.dmc.lines[k]).refs = (s.dmc.lines[k]).refs := by
    simpa only [Line.account, Prod.mk.injEq] using hl k
  have tap (j : TapIx) : (u.taps[j]).takesPart = (s.taps[j]).takesPart ∧ (u.taps[j]).slot = (s.taps[j]).slot ∧
      (u.taps[j]).source = (s.taps[j]).source ∧ (u.taps[j]).dest = (s.taps[j]).dest := by
    simpa only [Tap.account, Prod.mk.injEq] using ht j
  constructor
  · intro k
    simp only [Tap.references, (line k).2.2, fun j => (tap j).1, fun j => (tap j).2.2.1, fun j => (tap j).2.2.2]
    exact h.counts k
  · intro j k hj hk
    obtain ⟨htp, hslot, hsource, hdest⟩ := tap j
    obtain ⟨hfree, hlslot, -⟩ := line k
    rw [← Tap.takesPart_iff, htp, Tap.takesPart_iff] at hj
    rw [hsource, hdest] at hk
    rw [← Line.isNotFree_iff, hfree, Line.isNotFree_iff, hlslot, hslot]
    exact h.lines j k hj hk

end

end Sys2Proof.Machine
end

section
/-! SUPPORT. The accounts under the operations that change them (R43, R55, R60, R68, R73, R85, R105): a line that is opened or
becomes FREE, a tap that enters or becomes UNUSED, the beginning of a computation. -/

namespace Sys2Proof.Machine

/-! ## Units -/

/-- The units held after one line record was changed. -/
theorem State.mapLine_unitsHeld (s : State) (k : LineIx) (f : Line → Line) :
    (s.mapLine k f).unitsHeld + (s.dmc.lines[k]).units = s.unitsHeld + (f s.dmc.lines[k]).units := by
  have sum : (∑ j : LineIx, ((s.mapLine k f).dmc.lines[j]).units) + (s.dmc.lines[k]).units =
      (∑ j : LineIx, (s.dmc.lines[j]).units) + (f s.dmc.lines[k]).units := sum_updateAt Line.units s.dmc.lines k f
  rw [State.unitsHeld_eq_sum, State.unitsHeld_eq_sum, State.mapLine_taps]
  omega

/-- The units held after one tap record was changed. -/
theorem State.mapTap_unitsHeld (s : State) (j : TapIx) (f : Tap → Tap) :
    (s.mapTap j f).unitsHeld + (s.taps[j]).units = s.unitsHeld + (f s.taps[j]).units := by
  have sum : (∑ i : TapIx, ((s.mapTap j f).taps[i]).units) + (s.taps[j]).units =
      (∑ i : TapIx, (s.taps[i]).units) + (f s.taps[j]).units := sum_updateAt Tap.units s.taps j f
  rw [State.unitsHeld_eq_sum, State.unitsHeld_eq_sum, State.mapTap_dmc]
  omega

/-- A change of reference counts alone. -/
theorem State.unitsHeld_of_lines {s u : State} (hl : ∀ k : LineIx, (u.dmc.lines[k]).isNotFree = (s.dmc.lines[k]).isNotFree)
    (ht : u.taps = s.taps) : u.unitsHeld = s.unitsHeld := by
  simp only [State.unitsHeld_eq_sum, Line.units, hl, ht]

theorem Line.units_of_notFree {l : Line} (h : l.state ≠ .free) : l.units = 2 := if_pos ((Line.isNotFree_iff l).mpr h)

theorem Line.units_of_free {l : Line} (h : l.state = .free) : l.units = 0 := if_neg (by simp [Line.isNotFree, h])

theorem Tap.units_of_used {t : Tap} (h : t.state ≠ .unused) : t.units = 4 := if_pos ((Tap.takesPart_iff t).mpr h)

theorem Tap.units_of_unused {t : Tap} (h : t.state = .unused) : t.units = 0 := if_neg (by simp [Tap.takesPart, h])

theorem Tap.naming_of_used {t : Tap} (h : t.state ≠ .unused) (k : LineIx) : t.naming k = if t.references k then 1 else 0 := by
  simp [Tap.naming, (Tap.takesPart_iff t).mpr h]

theorem Tap.naming_of_unused {t : Tap} (h : t.state = .unused) (k : LineIx) : t.naming k = 0 := by
  simp [Tap.naming, Tap.takesPart, h]

/-! ## The marks -/

/-- A mark that is not about taps that left their life leaves the taps that a computation will advance (R104). -/
theorem State.note_advances (s : State) {f : Written → Written} (hf : ∀ w, (f w).tapLeft = w.tapLeft) :
    (s.note f).fe.advances = s.fe.advances := by
  have same (c : Computation) : Computation.advancesTap { c with written := f c.written } = c.advancesTap :=
    funext fun j => by simp only [Computation.advancesTap, hf]
  simp only [FrameEngine.advances, State.note_fe, Option.map_map]
  exact congrArg (Option.map · s.fe.computation) (funext same)

/-- A tap that leaves its life is not advanced (R104). -/
theorem Computation.advancesTap_leaveTap (c : Computation) (i j : TapIx) :
    Computation.advancesTap { c with written := c.written.leaveTap i } j = if i = j then false else c.advancesTap j := by
  simp only [Computation.advancesTap, Written.leaveTap]
  by_cases h : i = j
  · subst h; simp
  · have : (i : Nat) ≠ j := fun hv => h (Fin.ext hv)
    simp [h, this]

/-! ## The ledger -/

namespace State.LedgerExact
variable {s : State}

/-- The taps that a computation in progress will advance are in use in a state that has as many of them in use. -/
theorem view_of_advances {u : State} (h : s.LedgerExact) (hc : u.fe.advances = s.fe.advances)
    (ht : ∀ j : TapIx, (s.taps[j]).takesPart = true → (u.taps[j]).takesPart = true) (c : Computation) (hu : u.fe.computation = some c)
    (j : TapIx) (hj : c.advancesTap j = true) : (u.taps[j]).takesPart = true := by
  have hs : s.fe.computation.map Computation.advancesTap = some c.advancesTap := hc.symm.trans (congrArg (Option.map _) hu)
  obtain ⟨d, hd, hcd⟩ := Option.map_eq_some_iff.mp hs
  exact ht j (h.view d hd j (by rw [hcd]; exact hj))

/-- A line that is not FREE becomes FREE and its 2 units return (R43). -/
theorem freeLine (h : s.LedgerExact) {k : LineIx} (hk : (s.dmc.lines[k]).state ≠ .free) : (s.freeLine k).LedgerExact := by
  have held := s.mapLine_unitsHeld k fun _ => Line.freeValue
  rw [Line.units_of_notFree hk, Line.units_of_free (l := Line.freeValue) rfl] at held
  have used := h.used
  have fits := h.fits
  refine ⟨?_, ?_, h.view_of_advances (State.note_advances _ fun _ => rfl) fun _ hj => hj⟩
  · show s.ec.budgetUsed - 2 = (s.mapLine k fun _ => Line.freeValue).unitsHeld
    omega
  · show s.ec.budgetUsed - 2 ≤ s.ec.capacity
    omega

/-- A FREE line is opened and charged 2 units, which the ledger admits (R43, R46). -/
theorem openLine (h : s.LedgerExact) {k : LineIx} (hk : (s.dmc.lines[k]).state = .free) {l : Line} (hl : l.state ≠ .free)
    (hb : s.budgetAdmits 2 = true) : ((s.mapLine k fun _ => l).charge 2).LedgerExact := by
  have held := s.mapLine_unitsHeld k fun _ => l
  rw [Line.units_of_free hk, Line.units_of_notFree hl] at held
  have used := h.used
  refine ⟨?_, of_decide_eq_true hb, h.view⟩
  show s.ec.budgetUsed + 2 = (s.mapLine k fun _ => l).unitsHeld
  omega

/-- A tap in use becomes UNUSED and its 4 units return (R85). -/
theorem removeTap (h : s.LedgerExact) {i : TapIx} (hi : (s.taps[i]).state ≠ .unused) : (s.removeTap i).LedgerExact := by
  have held := s.mapTap_unitsHeld i fun _ => Tap.freeValue
  rw [Tap.units_of_used hi, Tap.units_of_unused (t := Tap.freeValue) rfl] at held
  have same : (s.removeTap i).unitsHeld = (s.mapTap i fun _ => Tap.freeValue).unitsHeld := by
    refine State.unitsHeld_of_lines (fun k => ?_) (by rw [State.removeTap_eq]; rfl)
    rw [State.removeTap_line]
    split <;> rfl
  have ec : (s.removeTap i).ec = { s.ec with budgetUsed := s.ec.budgetUsed - 4 } := by rw [State.removeTap_eq]; rfl
  have used := h.used
  have fits := h.fits
  refine ⟨?_, ?_, fun c hc j hj => ?_⟩
  · rw [ec, same]
    dsimp only
    omega
  · rw [ec]
    show s.ec.budgetUsed - 4 ≤ s.ec.capacity
    omega
  · have hfe : (s.removeTap i).fe.computation = s.fe.computation.map fun c => { c with written := c.written.leaveTap i } := by
      rw [State.removeTap_eq]; rfl
    obtain ⟨d, hd, rfl⟩ := Option.map_eq_some_iff.mp (hfe.symm.trans hc)
    rw [Computation.advancesTap_leaveTap] at hj
    by_cases hij : i = j
    · rw [if_pos hij] at hj; cases hj
    · rw [if_neg hij] at hj
      rw [State.removeTap_tap, if_neg hij]
      exact h.view d hd j hj

end State.LedgerExact

/-! ## The references -/

namespace State.ReferencesExact
variable {s : State}

/-- A FREE line is referenced by no tap in use (R68). -/
theorem unreferenced_of_free (h : s.ReferencesExact) {k : LineIx} (hk : (s.dmc.lines[k]).state = .free) (j : TapIx)
    (hj : (s.taps[j]).state ≠ .unused) : (s.taps[j]).references k = false := by
  rw [Bool.eq_false_iff, Ne, Tap.references_iff]
  exact fun hr => (h.lines j k hj hr).1 hk

/-- A line with reference count 0 is referenced by no tap in use (R55). -/
theorem unreferenced_of_refs (h : s.ReferencesExact) {k : LineIx} (hk : (s.dmc.lines[k]).refs = 0) (j : TapIx)
    (hj : (s.taps[j]).state ≠ .unused) : (s.taps[j]).references k = false := by
  have none := List.filter_eq_nil_iff.mp (List.length_eq_zero_iff.mp ((h.counts k).symm.trans hk)) j (List.mem_finRange j)
  rw [(Tap.takesPart_iff _).mpr hj] at none
  simpa using none

/-- A line that no tap in use references takes a record with reference count 0. -/
theorem setLine (h : s.ReferencesExact) {k : LineIx}
    (hk : ∀ j : TapIx, (s.taps[j]).state ≠ .unused → (s.taps[j]).references k = false) {l : Line} (hl : l.refs = 0) :
    (s.mapLine k fun _ => l).ReferencesExact := by
  constructor
  · intro i
    rw [State.mapLine_dmc, updateAt_get, State.mapLine_taps]
    split
    · rename_i hi
      subst hi
      rw [hl, eq_comm, List.length_eq_zero_iff, List.filter_eq_nil_iff]
      intro j _ hj
      obtain ⟨hj, hr⟩ := (Bool.and_eq_true _ _).mp hj
      rw [hk j ((Tap.takesPart_iff _).mp hj)] at hr
      cases hr
    · exact h.counts i
  · intro j i hj hi
    rw [State.mapLine_taps] at hj hi ⊢
    have hr := hk j hj
    rw [State.mapLine_dmc, updateAt_get, if_neg]
    · exact h.lines j i hj hi
    · rintro rfl
      rw [(Tap.references_iff _ _).mpr hi] at hr
      cases hr

theorem freeLine (h : s.ReferencesExact) {k : LineIx}
    (hk : ∀ j : TapIx, (s.taps[j]).state ≠ .unused → (s.taps[j]).references k = false) : (s.freeLine k).ReferencesExact :=
  ⟨(h.setLine hk (l := Line.freeValue) rfl).counts, (h.setLine hk (l := Line.freeValue) rfl).lines⟩

/-- A tap in use becomes UNUSED and its lines lose a reference (R55, R85). -/
theorem removeTap (h : s.ReferencesExact) {i : TapIx} (hi : (s.taps[i]).state ≠ .unused) : (s.removeTap i).ReferencesExact := by
  have taps : (s.removeTap i).taps = updateAt s.taps i fun _ => Tap.freeValue := by rw [State.removeTap_eq]; rfl
  constructor
  · intro k
    have sum : (∑ j : TapIx, ((s.removeTap i).taps[j]).naming k) + (s.taps[i]).naming k =
        (∑ j : TapIx, (s.taps[j]).naming k) + Tap.freeValue.naming k := by rw [taps]; exact sum_updateAt (Tap.naming k) s.taps i _
    have count := h.counts k
    rw [State.naming_eq_sum] at count ⊢
    rw [Tap.naming_of_used hi, Tap.naming_of_unused (t := Tap.freeValue) rfl] at sum
    rw [State.removeTap_line]
    split <;> rename_i hr
    · rw [if_pos hr] at sum; show (s.dmc.lines[k]).refs - 1 = _; omega
    · rw [if_neg hr] at sum; omega
  · intro j k hj hk
    rw [State.removeTap_tap] at hj hk ⊢
    split at hj
    · exact absurd rfl hj
    · rename_i hij
      rw [if_neg hij] at hk ⊢
      have hl := h.lines j k hj hk
      rw [State.removeTap_line]
      split <;> exact hl

end State.ReferencesExact

/-! ## A tap that enters -/

theorem foldl_updateAt_mem {α : Type} {n : Nat} (f : α → α) (l : List (Fin n)) (hl : l.Nodup) (v : Vector α n) (k : Fin n) :
    (l.foldl (fun v j => updateAt v j f) v)[k] = if k ∈ l then f v[k] else v[k] := by
  induction l generalizing v with
  | nil => rfl
  | cons j l ih =>
    obtain ⟨hj, hl⟩ := List.nodup_cons.mp hl
    rw [List.foldl_cons, ih hl, updateAt_get]
    by_cases hk : j = k
    · subst hk; simp [hj]
    · simp [hk, Ne.symm hk]

/-- A line that has one more reference. -/
def Line.raiseRefs (l : Line) : Line := { l with refs := l.refs + 1 }

/-- A tap that takes its record, charges 4 units and raises the counts of its lines (R73). -/
theorem State.enterTap_eq (s : State) (i : TapIx) (x : Tap) :
    s.enterTap i x = { s with
      dmc := { s.dmc with lines := x.lines.foldl (fun v k => updateAt v k Line.raiseRefs) s.dmc.lines }
      taps := updateAt s.taps i fun _ => x
      ec := { s.ec with budgetUsed := s.ec.budgetUsed + 4 } } :=
  congrArg (State.charge 4) (foldl_mapLine Line.raiseRefs x.lines (s.mapTap i fun _ => x))

theorem State.enterTap_line (s : State) (i : TapIx) (x : Tap) (k : LineIx) :
    (s.enterTap i x).dmc.lines[k] = if x.references k then (s.dmc.lines[k]).raiseRefs else s.dmc.lines[k] := by
  rw [State.enterTap_eq]
  simp only [foldl_updateAt_mem _ _ x.lines_nodup, Tap.mem_lines]

theorem State.enterTap_tap (s : State) (i : TapIx) (x : Tap) (j : TapIx) :
    (s.enterTap i x).taps[j] = if i = j then x else s.taps[j] := by
  rw [State.enterTap_eq]; exact updateAt_get _ _ _ _

/-- An UNUSED record takes a tap and 4 units are charged, which the ledger admits (R71, R73). -/
theorem State.LedgerExact.enterTap {s : State} (h : s.LedgerExact) {i : TapIx} (hi : (s.taps[i]).state = .unused) {x : Tap}
    (hx : x.state ≠ .unused) (hb : s.budgetAdmits 4 = true) : (s.enterTap i x).LedgerExact := by
  have held := s.mapTap_unitsHeld i fun _ => x
  rw [Tap.units_of_unused hi, Tap.units_of_used hx] at held
  have same : (s.enterTap i x).unitsHeld = (s.mapTap i fun _ => x).unitsHeld := by
    refine State.unitsHeld_of_lines (fun k => ?_) (by rw [State.enterTap_eq]; rfl)
    rw [State.enterTap_line]
    split <;> rfl
  have ec : (s.enterTap i x).ec = { s.ec with budgetUsed := s.ec.budgetUsed + 4 } := by rw [State.enterTap_eq]
  have used := h.used
  refine ⟨?_, by rw [ec]; exact of_decide_eq_true hb, h.view_of_advances (by simp) fun j hj => ?_⟩
  · rw [ec, same]
    dsimp only
    omega
  · rw [State.enterTap_tap]
    split
    · exact (Tap.takesPart_iff x).mpr hx
    · exact hj

/-- A tap that enters references lines of its slot that are not FREE (R68, R71, R73). -/
theorem State.ReferencesExact.enterTap {s : State} (h : s.ReferencesExact) {i : TapIx} (hi : (s.taps[i]).state = .unused) {x : Tap}
    (hx : x.state ≠ .unused)
    (hl : ∀ k : LineIx, x.references k = true → (s.dmc.lines[k]).state ≠ .free ∧ (s.dmc.lines[k]).slot = x.slot) :
    (s.enterTap i x).ReferencesExact := by
  have line (k : LineIx) : ((s.enterTap i x).dmc.lines[k]).state = (s.dmc.lines[k]).state ∧
      ((s.enterTap i x).dmc.lines[k]).slot = (s.dmc.lines[k]).slot := by
    rw [State.enterTap_line]; split <;> exact ⟨rfl, rfl⟩
  have taps : (s.enterTap i x).taps = updateAt s.taps i fun _ => x := by rw [State.enterTap_eq]
  constructor
  · intro k
    have sum : (∑ j : TapIx, ((s.enterTap i x).taps[j]).naming k) + (s.taps[i]).naming k =
        (∑ j : TapIx, (s.taps[j]).naming k) + x.naming k := by rw [taps]; exact sum_updateAt (Tap.naming k) s.taps i _
    have count := h.counts k
    rw [State.naming_eq_sum] at count ⊢
    rw [Tap.naming_of_unused hi, Tap.naming_of_used hx] at sum
    rw [State.enterTap_line]
    split <;> rename_i hr
    · rw [if_pos hr] at sum; show (s.dmc.lines[k]).refs + 1 = _; omega
    · rw [if_neg hr] at sum; omega
  · intro j k hj hk
    rw [(line k).1, (line k).2]
    rw [State.enterTap_tap] at hj hk ⊢
    split at hj
    · rename_i hij
      rw [if_pos hij] at hk ⊢
      exact hl k ((Tap.references_iff _ _).mpr hk)
    · rename_i hij
      rw [if_neg hij] at hk ⊢
      exact h.lines j k hj hk

end Sys2Proof.Machine
end

section
/-! SUPPORT. The operations that leave the accounts alone. -/

namespace Sys2Proof.Machine

/-! ## One record -/

theorem State.accounts_congr {s u : State} (hb : u.ec.budgetUsed = s.ec.budgetUsed) (hr : u.ec.rate = s.ec.rate) (hd : u.dmc = s.dmc)
    (ht : u.taps = s.taps) (hc : u.fe.advances = s.fe.advances) : u.accounts = s.accounts := by
  simp only [State.accounts, hb, hr, hd, ht, hc]

theorem State.accounts_of_tables {s u : State} (h : u.tables = s.tables) : u.accounts = s.accounts := by
  simp only [State.tables, Prod.mk.injEq] at h
  obtain ⟨he, -, hd, ht, -, hf, -⟩ := h
  exact State.accounts_congr (by rw [he]) (by rw [he]) hd ht (by rw [hf])

theorem State.mapLine_accounts (s : State) {k : LineIx} {f : Line → Line} (hf : (f s.dmc.lines[k]).account = (s.dmc.lines[k]).account) :
    (s.mapLine k f).accounts = s.accounts := by
  have line : (fun j : LineIx => ((s.mapLine k f).dmc.lines[j]).account) = fun j : LineIx => (s.dmc.lines[j]).account := by
    funext j
    rw [State.mapLine_dmc, updateAt_get]
    split
    · rename_i hj; subst hj; exact hf
    · rfl
  rw [State.accounts, line]
  rfl

theorem State.mapTap_accounts (s : State) (j : TapIx) {f : Tap → Tap} (hf : ∀ x, (f x).account = x.account) :
    (s.mapTap j f).accounts = s.accounts := by
  have tap : (fun i : TapIx => ((s.mapTap j f).taps[i]).account) = fun i : TapIx => (s.taps[i]).account := by
    funext i
    rw [State.mapTap_taps, updateAt_get]
    split
    · exact hf _
    · rfl
  rw [State.accounts, tap]
  rfl

theorem State.note_accounts (s : State) (f : Written → Written) (hf : ∀ w, (f w).tapLeft = w.tapLeft) :
    (s.note f).accounts = s.accounts :=
  State.accounts_congr rfl rfl rfl rfl (s.note_advances hf)

/-- A tap that is asked to release stays in use (R57). -/
theorem Tap.release_account (t : Tap) : t.release.account = t.account := by
  unfold Tap.release
  split
  · rename_i h; simp only [Tap.account, Tap.takesPart, h]; rfl
  · rfl

theorem Tap.startRetune_account (n : Nat) (t : Tap) : (t.startRetune n).account = t.account := by
  unfold Tap.startRetune; split <;> rfl

theorem Tap.retarget_account (n : Nat) (t : Tap) : (t.retarget n).1.account = t.account := by
  unfold Tap.retarget
  (repeat' split) <;> first | rfl | exact Tap.startRetune_account n t

theorem Tap.advanceRetune_account (t : Tap) : t.advanceRetune.1.account = t.account := by
  unfold Tap.advanceRetune
  dsimp only
  (repeat' split) <;> first | rfl | exact Tap.startRetune_account _ _

theorem Tap.write_account (p : TapParts) (t : Tap) : (t.write p).account = t.account := rfl

theorem Line.write_account (p : LineParts) (l : Line) : (l.write p).account = l.account := rfl

/-! ## The operations on taps -/

section
variable (s : State)

@[simp] theorem State.countSlot_accounts (i : SlotIx) (f : SlotCounters → SlotCounters) : (s.countSlot i f).accounts = s.accounts := rfl

@[simp] theorem State.countDelayClamp_accounts (i : SlotIx) (b : Bool) : (s.countDelayClamp i b).accounts = s.accounts :=
  State.accounts_congr (by simp) (by simp) (by simp) (by simp) (by simp)

@[simp] theorem State.handTarget_accounts (j : TapIx) (n : Nat) : (s.handTarget j n).accounts = s.accounts := by
  have retargeted : (s.mapTap j fun x => (x.retarget n).1).accounts = s.accounts := s.mapTap_accounts j (Tap.retarget_account n)
  unfold State.handTarget
  dsimp only
  split
  · rfl
  · exact (State.note_accounts _ (Written.retuneTap j) fun _ => rfl).trans retargeted
  · exact (State.note_accounts _ (Written.retuneTap j) fun _ => rfl).trans retargeted
  · exact (State.note_accounts _ (Written.retuneTap j) fun _ => rfl).trans retargeted

@[simp] theorem State.formTarget_accounts (j : TapIx) : (s.formTarget j).accounts = s.accounts := by simp [State.formTarget]

@[simp] theorem State.followTempo_accounts (j : TapIx) : (s.followTempo j).accounts = s.accounts := by
  unfold State.followTempo; split <;> simp

theorem State.withMu_accounts (u : ModUnit) : ({ s with mu := u } : State).accounts = s.accounts := rfl

@[simp] theorem State.setTempo_accounts (b : Nat) : (s.setTempo b).accounts = s.accounts := by
  have follow (l : List TapIx) (u : State) : (l.foldl State.followTempo u).accounts = u.accounts :=
    foldl_keeps State.accounts _ State.followTempo_accounts l u
  unfold State.setTempo
  dsimp only
  (repeat' split)
  · rfl
  · rw [State.note_accounts _ Written.setBeatPhase fun _ => rfl, State.withMu_accounts, follow, State.withMu_accounts]
  · rw [follow, State.withMu_accounts]

@[simp] theorem State.applyTapSet_accounts (j : TapIx) (p : TapParts) : (s.applyTapSet j p).accounts = s.accounts := by
  have written : (s.mapTap j (Tap.write p)).accounts = s.accounts := s.mapTap_accounts j (Tap.write_account p)
  unfold State.applyTapSet
  dsimp only
  split
  · rw [State.formTarget_accounts, written]
  · exact written

@[simp] theorem State.fillTap_accounts (f : FillField) (j : TapIx) : (s.fillTap f j).accounts = s.accounts := by
  unfold State.fillTap
  split
  · exact s.mapTap_accounts j fun _ => rfl
  · rw [State.formTarget_accounts]; exact s.mapTap_accounts j fun _ => rfl
  · exact s.mapTap_accounts j fun _ => rfl

@[simp] theorem State.applyTapFill_accounts (i : SlotIx) (a b : TapIx) (f : FillField) :
    (s.applyTapFill i a b f).accounts = s.accounts :=
  foldl_keeps State.accounts _ (fun u j => u.fillTap_accounts f j) _ s

/-! ## Entries and lists -/

@[simp] theorem State.fillMap_accounts (i j : EntryIx) (st : Bool) (e : MapEntry) : (s.fillMap i j st e).accounts = s.accounts :=
  State.accounts_congr (by simp) (by simp) (by simp) (by simp) (by simp)

@[simp] theorem State.raise_accounts (d : Detail) : (s.raise d).accounts = s.accounts := State.accounts_of_tables (s.raise_tables d)

@[simp] theorem State.alertTest_accounts : s.alertTest.accounts = s.accounts := State.accounts_of_tables s.alertTest_tables

@[simp] theorem State.beatOccurs_accounts : s.beatOccurs.accounts = s.accounts := State.note_accounts _ _ fun _ => rfl

@[simp] theorem State.markBeat_accounts : s.markBeat.accounts = s.accounts :=
  (State.beatOccurs_accounts _).trans (State.note_accounts _ Written.setBeatPhase fun _ => rfl)

@[simp] theorem State.acceptMark_accounts (i : Nat) : (s.acceptMark i).accounts = s.accounts := by
  unfold State.acceptMark; dsimp only; rw [State.markBeat_accounts, State.setTempo_accounts]; rfl

@[simp] theorem Entry.apply_accounts (e : Entry) : (e.apply s).accounts = s.accounts := by
  cases e with
  | lineSet k p i => exact s.mapLine_accounts (Line.write_account p _)
  | tapSet j p i => exact s.applyTapSet_accounts j p
  | tapFill i a b f => exact s.applyTapFill_accounts i a b f
  | tempoSet b => exact s.setTempo_accounts b
  | slotSet | modSet | outmapSet => rfl
  | outmapFill i j st v => exact s.fillMap_accounts i j st v

@[simp] theorem handleEntry_accounts (x : State × Tallied) (e : Entry) : (handleEntry x e).1.accounts = x.1.accounts := by
  unfold handleEntry
  (repeat' split)
  · cases e.slot <;> rfl
  · cases e.slot <;> rfl
  · exact Entry.apply_accounts _ e

@[simp] theorem applyList_accounts (l : List Entry) : (applyList l s).1.accounts = s.accounts := by
  have fold (n : Tallied) : (l.foldl handleEntry (s, n)).1.accounts = s.accounts :=
    foldl_keeps (fun x : State × Tallied => x.1.accounts) _ handleEntry_accounts l (s, n)
  unfold applyList
  dsimp only
  split <;> simp [fold]

@[simp] theorem State.applyAction_accounts (a : Action) : (s.applyAction a).accounts = s.accounts := by
  unfold State.applyAction
  dsimp only
  rw [applyList_accounts]
  split
  · rfl
  · rw [State.raise_accounts]; rfl

@[simp] theorem State.applyDueWork_accounts : s.applyDueWork.accounts = s.accounts := by
  unfold State.applyDueWork
  dsimp only
  rw [applyList_accounts, foldl_keeps State.accounts _ State.applyAction_accounts]
  rfl

/-! ## Engine and pages -/

@[simp] theorem State.haltCause_accounts (n : Word32) (w : HaltReason) : (s.haltCause n w).accounts = s.accounts :=
  State.accounts_congr (by simp) (by simp) (by simp) (by simp) (by simp)

/-- A request or the return of the clock sets the master fade (R165, R170). -/
theorem State.setFade_accounts (m g : Nat) : (s.setFade m g).accounts = s.accounts := State.note_accounts _ _ fun _ => rfl

@[simp] theorem State.clockBack_accounts : s.clockBack.accounts = s.accounts := by
  unfold State.clockBack
  split
  · exact (State.raise_accounts _ _).trans (State.setFade_accounts _ _ _)
  · rfl

@[simp] theorem State.beginWindows_accounts : s.beginWindows.accounts = s.accounts := State.note_accounts _ _ fun _ => rfl

@[simp] theorem State.startScrub_accounts : s.startScrub.accounts = s.accounts := by
  unfold State.startScrub; (repeat' split) <;> rfl

@[simp] theorem State.memoryClean_accounts : s.memoryClean.accounts = s.accounts := by
  unfold State.memoryClean
  split
  · exact State.raise_accounts _ _
  · rfl

/-- Releasing the taps of a line leaves them in use (R57). -/
@[simp] theorem State.releaseTapsOf_accounts (k : LineIx) : (s.releaseTapsOf k).accounts = s.accounts := by
  have tap : (fun j : TapIx => ((s.releaseTapsOf k).taps[j]).account) = fun j : TapIx => (s.taps[j]).account := by
    funext j
    rw [State.releaseTapsOf_taps, mapIx_get]
    split
    · exact Tap.release_account _
    · rfl
  rw [State.accounts, tap]
  rfl

/-- A line that is not FREE becomes CLOSING (R59). -/
theorem State.beginClose_accounts {k : LineIx} (hk : (s.dmc.lines[k]).state ≠ .free) : (s.beginClose k).accounts = s.accounts := by
  refine (State.mapLine_accounts (s.releaseTapsOf k) ?_).trans (s.releaseTapsOf_accounts k)
  have free := (Line.isNotFree_iff _).mpr hk
  simp only [Line.account, State.releaseTapsOf_dmc, free]
  rfl

/-- A line that is not FREE becomes ACTIVE (R48). -/
theorem State.activateLine_accounts {k : LineIx} (hk : (s.dmc.lines[k]).state ≠ .free) : (s.activateLine k).accounts = s.accounts := by
  have free := (Line.isNotFree_iff _).mpr hk
  exact State.mapLine_accounts (f := Line.activate (s.dmc.clean.take (s.dmc.lines[k]).pageCount)) s (by
    simp only [Line.account, free]; rfl)

end

/-- The lines that wait-list service activates are WAITING (R47, R48). -/
theorem State.Paged.serveUpTo_accounts (n : Nat) {s : State} (h : s.Paged) : (Machine.serveUpTo n s).accounts = s.accounts := by
  induction n generalizing s with
  | zero => rfl
  | succ n ih =>
    unfold Machine.serveUpTo
    split
    · rfl
    · rename_i k rest hw
      split
      · rename_i hp
        have h1 : State.Paged (({ s with dmc := { s.dmc with waitList := rest } } : State).activateLine k) :=
          Dmc.Partitioned.activateHead h hw hp
        have hk : (s.dmc.lines[k]).state = .waiting := (h.waiting k).mp (hw ▸ List.mem_cons_self)
        dsimp only
        rw [ih (h1.of_pool (State.raise_pool _ _)), State.raise_accounts]
        exact State.activateLine_accounts { s with dmc := { s.dmc with waitList := rest } } (by rw [hk]; nofun)
      · rfl

theorem State.Paged.serveWaitList_accounts {s : State} (h : s.Paged) : s.serveWaitList.accounts = s.accounts :=
  h.serveUpTo_accounts _

end Sys2Proof.Machine
end

section
/-! SUPPORT. The closes of lines, as what they leave of lines, taps, pages and units (R57, R58, R59, R61, R86). -/

namespace Sys2Proof.Machine

/-! ## The taps of a WAITING line -/

/-- A tap in use that references one of the lines (R86). -/
def Tap.usesAny (l : List LineIx) (t : Tap) : Bool := t.takesPart && l.any fun k => t.references k

theorem Tap.usesAny_freeValue (l : List LineIx) : Tap.freeValue.usesAny l = false := rfl

theorem Tap.usesAny_nil (t : Tap) : t.usesAny [] = false := Bool.and_false _

theorem Tap.usesAny_singleton (k : LineIx) (t : Tap) : t.usesAny [k] = (t.takesPart && t.references k) := by
  simp [Tap.usesAny]

theorem Tap.usesAny_cons (k : LineIx) (l : List LineIx) (t : Tap) : t.usesAny (k :: l) = (t.usesAny [k] || t.usesAny l) := by
  simp [Tap.usesAny, Bool.and_or_distrib_left]

theorem State.removeTapOf_eq (k : LineIx) (s : State) (j : TapIx) :
    s.removeTapOf k j = if (s.taps[j]).usesAny [k] then s.removeTap j else s := by
  rw [Tap.usesAny_singleton]
  simp only [State.removeTapOf, Bool.and_eq_true, Tap.takesPart_iff]

/-- The taps that become UNUSED are those of the state at which the first is tested. -/
theorem State.removeTapsOf_eq (k : LineIx) (s : State) :
    s.removeTapsOf k = ((List.finRange 256).filter fun j : TapIx => (s.taps[j]).usesAny [k]).foldl (fun u j => u.removeTap j) s := by
  have step : State.removeTapOf k = fun (u : State) (j : TapIx) => if (u.taps[j]).usesAny [k] then u.removeTap j else u :=
    funext fun u => funext fun j => State.removeTapOf_eq k u j
  rw [State.removeTapsOf, step]
  exact foldl_handled (fun (u : State) (j : TapIx) => (u.taps[j]).usesAny [k]) (fun u j => u.removeTap j)
    (fun u a b hab => by rw [State.removeTap_tap, if_neg hab]) _ (List.nodup_finRange 256) s

/-- The taps in use that reference one of the lines (R55). -/
def State.usersOf (l : List LineIx) (s : State) : List TapIx := (List.finRange 256).filter fun j : TapIx => (s.taps[j]).usesAny l

/-- How many of those reference line `i`: the references that it loses with them. -/
def State.lostRefs (l : List LineIx) (s : State) (i : LineIx) : Nat :=
  ((List.finRange 256).filter fun j : TapIx => (s.taps[j]).usesAny l && (s.taps[j]).references i).length

section
variable (s : State) (k : LineIx)

theorem State.removeTapsOf_tap (j : TapIx) :
    (s.removeTapsOf k).taps[j] = if (s.taps[j]).usesAny [k] then Tap.freeValue else s.taps[j] := by
  rw [State.removeTapsOf_eq, State.removeTaps_tap _ ((List.nodup_finRange 256).filter _)]
  simp only [List.mem_filter, List.mem_finRange, true_and]

theorem State.removeTapsOf_line (i : LineIx) : (s.removeTapsOf k).dmc.lines[i] = (s.dmc.lines[i]).lower (s.lostRefs [k] i) := by
  rw [State.removeTapsOf_eq, State.removeTaps_line _ ((List.nodup_finRange 256).filter _), List.filter_filter]
  simp only [Bool.and_comm, State.lostRefs]

theorem State.removeTapsOf_ec :
    (s.removeTapsOf k).ec = { s.ec with budgetUsed := s.ec.budgetUsed - 4 * (s.usersOf [k]).length } := by
  rw [State.removeTapsOf_eq, State.removeTaps_ec, State.usersOf]

/-! ## A WAITING line dropped -/

/-- The line leaves the wait list (R58). -/
def State.leaveWaitList (k : LineIx) (s : State) : State :=
  { s with dmc := { s.dmc with waitList := s.dmc.waitList.filter (· ≠ k) } }

theorem State.dropWaiting_eq : s.dropWaiting k = ((s.leaveWaitList k).removeTapsOf k).freeLine k := rfl

@[simp] theorem State.leaveWaitList_taps : (s.leaveWaitList k).taps = s.taps := rfl

@[simp] theorem State.leaveWaitList_ec : (s.leaveWaitList k).ec = s.ec := rfl

@[simp] theorem State.leaveWaitList_lines : (s.leaveWaitList k).dmc.lines = s.dmc.lines := rfl

theorem State.leaveWaitList_lostRefs (l : List LineIx) (i : LineIx) : (s.leaveWaitList k).lostRefs l i = s.lostRefs l i := by
  simp only [State.lostRefs, State.leaveWaitList_taps]

theorem State.leaveWaitList_usersOf (l : List LineIx) : (s.leaveWaitList k).usersOf l = s.usersOf l := by
  simp only [State.usersOf, State.leaveWaitList_taps]

/-- A line that is dropped is FREE, and every other loses the references of the taps that go with it (R58, R86). -/
theorem State.dropWaiting_line (i : LineIx) :
    (s.dropWaiting k).dmc.lines[i] = if k = i then Line.freeValue else (s.dmc.lines[i]).lower (s.lostRefs [k] i) := by
  rw [State.dropWaiting_eq, State.freeLine_dmc, updateAt_get]
  split
  · rfl
  · rw [State.removeTapsOf_line, State.leaveWaitList_lostRefs, State.leaveWaitList_lines]

theorem State.dropWaiting_tap (j : TapIx) :
    (s.dropWaiting k).taps[j] = if (s.taps[j]).usesAny [k] then Tap.freeValue else s.taps[j] := by
  rw [State.dropWaiting_eq, State.freeLine_taps, State.removeTapsOf_tap, State.leaveWaitList_taps]

theorem State.dropWaiting_ec :
    (s.dropWaiting k).ec = { s.ec with budgetUsed := s.ec.budgetUsed - 4 * (s.usersOf [k]).length - 2 } := by
  rw [State.dropWaiting_eq, State.freeLine_ec, State.removeTapsOf_ec, State.leaveWaitList_usersOf, State.leaveWaitList_ec]

end

/-! ## Several WAITING lines dropped, each once -/

/-- The lines are dropped one after another (R58, R61). -/
def State.dropAll (l : List LineIx) (s : State) : State := l.foldl (fun u k => u.dropWaiting k) s

section
variable (l : List LineIx) (s : State)

theorem State.dropAll_cons (k : LineIx) : s.dropAll (k :: l) = (s.dropWaiting k).dropAll l := by
  simp only [State.dropAll, List.foldl_cons]

/-- A drop leaves the taps that reference others of the lines alone. -/
theorem State.usesAny_dropWaiting (k : LineIx) (j : TapIx) :
    ((s.dropWaiting k).taps[j]).usesAny l = (!(s.taps[j]).usesAny [k] && (s.taps[j]).usesAny l) := by
  rw [State.dropWaiting_tap]
  cases h : (s.taps[j]).usesAny [k] <;> simp [Tap.usesAny_freeValue]

theorem State.dropAll_tap (j : TapIx) :
    (s.dropAll l).taps[j] = if (s.taps[j]).usesAny l then Tap.freeValue else s.taps[j] := by
  induction l generalizing s with
  | nil => rw [Tap.usesAny_nil]; rfl
  | cons k l ih =>
    rw [State.dropAll_cons, ih, State.usesAny_dropWaiting, State.dropWaiting_tap, Tap.usesAny_cons k l]
    cases (s.taps[j]).usesAny [k] <;> cases (s.taps[j]).usesAny l <;> rfl

/-- What meets the first of two conditions, and of the rest what meets the second, meets one of them. -/
theorem length_filter_or {α : Type} (p q : α → Bool) (l : List α) :
    (l.filter p).length + (l.filter fun a => !p a && q a).length = (l.filter fun a => p a || q a).length := by
  induction l with
  | nil => rfl
  | cons a l ih => cases hp : p a <;> cases hq : q a <;> simp [hp, hq] <;> omega

theorem State.lostRefs_dropWaiting (k i : LineIx) :
    s.lostRefs [k] i + (s.dropWaiting k).lostRefs l i = s.lostRefs (k :: l) i := by
  have kept (j : TapIx) : (((s.dropWaiting k).taps[j]).usesAny l && ((s.dropWaiting k).taps[j]).references i) =
      (!((s.taps[j]).usesAny [k] && (s.taps[j]).references i) && ((s.taps[j]).usesAny l && (s.taps[j]).references i)) := by
    rw [State.usesAny_dropWaiting, State.dropWaiting_tap]
    cases (s.taps[j]).usesAny [k] with
    | false => simp only [Bool.false_eq_true, if_false, Bool.false_and, Bool.not_false, Bool.true_and]
    | true => cases (s.taps[j]).usesAny l <;> cases (s.taps[j]).references i <;> rfl
  simp only [State.lostRefs, kept, length_filter_or, Tap.usesAny_cons k l, Bool.and_or_distrib_right]

theorem State.usersOf_dropWaiting (k : LineIx) :
    (s.usersOf [k]).length + ((s.dropWaiting k).usersOf l).length = (s.usersOf (k :: l)).length := by
  simp only [State.usersOf, State.usesAny_dropWaiting, length_filter_or, Tap.usesAny_cons k l]

theorem Line.lower_freeValue (n : Nat) : Line.freeValue.lower n = Line.freeValue := by
  unfold Line.lower; rw [show Line.freeValue.refs - n = 0 from Nat.zero_sub n]; rfl

theorem Line.lower_lower (l : Line) (m n : Nat) : (l.lower m).lower n = l.lower (m + n) := by
  simp only [Line.lower, Nat.sub_sub]

/-- The dropped lines are FREE, every other loses the references of the taps that go with them. -/
theorem State.dropAll_line (i : LineIx) :
    (s.dropAll l).dmc.lines[i] = if i ∈ l then Line.freeValue else (s.dmc.lines[i]).lower (s.lostRefs l i) := by
  induction l generalizing s with
  | nil => simp [State.dropAll, State.lostRefs, Tap.usesAny_nil, Line.lower]
  | cons k l ih =>
    rw [State.dropAll_cons, ih, State.dropWaiting_line]
    by_cases hl : i ∈ l
    · rw [if_pos hl, if_pos (List.mem_cons_of_mem k hl)]
    · by_cases hk : k = i
      · rw [if_neg hl, if_pos hk, if_pos (hk ▸ List.mem_cons_self), Line.lower_freeValue]
      · rw [if_neg hl, if_neg hk, if_neg (by simp [hl, Ne.symm hk]), Line.lower_lower, State.lostRefs_dropWaiting]

theorem State.dropAll_ec :
    (s.dropAll l).ec = { s.ec with budgetUsed := s.ec.budgetUsed - 4 * (s.usersOf l).length - 2 * l.length } := by
  induction l generalizing s with
  | nil => simp [State.dropAll, State.usersOf, Tap.usesAny_nil]
  | cons k l ih =>
    rw [State.dropAll_cons, ih, State.dropWaiting_ec, ← State.usersOf_dropWaiting l s k]
    refine congrArg (fun n => { s.ec with budgetUsed := n }) ?_
    simp only [List.length_cons]
    omega

/-- The taps that become UNUSED write the lines of the DMC alone. -/
theorem State.removeTapsOf_dmc (k : LineIx) : (s.removeTapsOf k).dmc = { s.dmc with lines := (s.removeTapsOf k).dmc.lines } := by
  have fold (t : List TapIx) (v : State) :
      (t.foldl (fun x j => x.removeTap j) v).dmc = { v.dmc with lines := (t.foldl (fun x j => x.removeTap j) v).dmc.lines } := by
    induction t generalizing v with
    | nil => rfl
    | cons j t ih => rw [List.foldl_cons, ih, State.removeTap_eq]; rfl
  rw [State.removeTapsOf_eq]
  exact fold _ s

theorem State.dropWaiting_places (k : LineIx) :
    let d := (s.dropWaiting k).dmc
    d.memory = s.dmc.memory ∧ d.clean = s.dmc.clean ∧ d.dirty = s.dmc.dirty ∧ d.scrubber = s.dmc.scrubber ∧
      d.waitList = (s.dmc.waitList.filter fun i => i ≠ k) ∧ d.roundRobin = s.dmc.roundRobin := by
  rw [State.dropWaiting_eq, State.freeLine_dmc, State.removeTapsOf_dmc]
  exact ⟨rfl, rfl, rfl, rfl, rfl, rfl⟩

/-- The dropped lines leave the wait list; the rest of the page pool stands. -/
theorem State.dropAll_places :
    let d := (s.dropAll l).dmc
    d.memory = s.dmc.memory ∧ d.clean = s.dmc.clean ∧ d.dirty = s.dmc.dirty ∧ d.scrubber = s.dmc.scrubber ∧
      d.waitList = (s.dmc.waitList.filter fun i => i ∉ l) ∧ d.roundRobin = s.dmc.roundRobin := by
  induction l generalizing s with
  | nil => simp [State.dropAll]
  | cons k l ih =>
    obtain ⟨hm, hc, hq, hs, hw, hr⟩ := ih (s.dropWaiting k)
    obtain ⟨km, kc, kq, ks, kw, kr⟩ := s.dropWaiting_places k
    rw [State.dropAll_cons]
    refine ⟨hm.trans km, hc.trans kc, hq.trans kq, hs.trans ks, ?_, hr.trans kr⟩
    rw [hw, kw, List.filter_filter]
    exact List.filter_congr fun i _ => by simp [Bool.and_comm]

end

/-! ## ACTIVE lines that become CLOSING -/

/-- The lines become CLOSING one after another (R59, R61). -/
def State.closeAll (l : List LineIx) (s : State) : State := l.foldl (fun u k => u.beginClose k) s

section
variable (l : List LineIx) (s : State)

theorem State.beginClose_tap (k : LineIx) (j : TapIx) :
    (s.beginClose k).taps[j] = if (s.taps[j]).references k then (s.taps[j]).release else s.taps[j] := by
  rw [State.beginClose_taps, State.releaseTapsOf_taps, mapIx_get]

theorem Tap.release_references (t : Tap) (k : LineIx) : t.release.references k = t.references k := by
  unfold Tap.release; split <;> rfl

theorem Tap.release_release (t : Tap) : t.release.release = t.release := by
  by_cases h : t.state = .live <;> simp [Tap.release, h]

theorem State.closeAll_cons (k : LineIx) : s.closeAll (k :: l) = (s.beginClose k).closeAll l := by
  simp only [State.closeAll, List.foldl_cons]

theorem State.closeAll_tap (j : TapIx) :
    (s.closeAll l).taps[j] = if (l.any fun k => (s.taps[j]).references k) then (s.taps[j]).release else s.taps[j] := by
  induction l generalizing s with
  | nil => rfl
  | cons k l ih =>
    rw [State.closeAll_cons, ih, State.beginClose_tap, List.any_cons]
    cases (s.taps[j]).references k <;> simp [Tap.release_references, Tap.release_release]

theorem State.closeAll_line (i : LineIx) :
    (s.closeAll l).dmc.lines[i] = if i ∈ l then { s.dmc.lines[i] with state := .closing } else s.dmc.lines[i] := by
  induction l generalizing s with
  | nil => rfl
  | cons k l ih =>
    rw [State.closeAll_cons, ih, State.beginClose_dmc, updateAt_get]
    by_cases hk : k = i
    · subst hk; simp
    · simp [hk, Ne.symm hk]

theorem State.closeAll_rest :
    (s.closeAll l).ec = s.ec ∧ (s.closeAll l).dmc.memory = s.dmc.memory ∧ (s.closeAll l).dmc.clean = s.dmc.clean ∧
      (s.closeAll l).dmc.dirty = s.dmc.dirty ∧ (s.closeAll l).dmc.scrubber = s.dmc.scrubber ∧
      (s.closeAll l).dmc.waitList = s.dmc.waitList ∧ (s.closeAll l).dmc.roundRobin = s.dmc.roundRobin := by
  have h := foldl_keeps (fun u : State => (u.ec, u.dmc.memory, u.dmc.clean, u.dmc.dirty, u.dmc.scrubber, u.dmc.waitList,
    u.dmc.roundRobin)) (fun u k => u.beginClose k : State → LineIx → State) (fun _ _ => rfl) l s
  simp only [Prod.mk.injEq] at h
  exact h

end

/-! ## A group close -/

/-- The lines of the set that are WAITING, and those that are ACTIVE (R61). -/
def State.waitingOf (p : Line → Bool) (s : State) : List LineIx := (s.closedBy p).filter fun k => s.dmc.lines[k].state = .waiting

def State.activeOf (p : Line → Bool) (s : State) : List LineIx := (s.closedBy p).filter fun k => s.dmc.lines[k].state = .active

theorem State.groupClose_eq (p : Line → Bool) (s : State) :
    s.groupClose p = (((s.dropAll (s.waitingOf p)).closeAll (s.activeOf p)).completeCloses).serveWaitList := rfl

theorem State.waitingOf_eq (p : Line → Bool) (s : State) :
    s.waitingOf p = (List.finRange 64).filter fun k : LineIx => p s.dmc.lines[k] && decide ((s.dmc.lines[k]).state = .waiting) := by
  rw [State.waitingOf, State.closedBy, List.filter_filter]
  refine List.filter_congr fun k _ => ?_
  cases (s.dmc.lines[k]).state <;> simp

theorem State.activeOf_eq (p : Line → Bool) (s : State) :
    s.activeOf p = (List.finRange 64).filter fun k : LineIx => p s.dmc.lines[k] && decide ((s.dmc.lines[k]).state = .active) := by
  rw [State.activeOf, State.closedBy, List.filter_filter]
  refine List.filter_congr fun k _ => ?_
  cases (s.dmc.lines[k]).state <;> simp

theorem State.mem_waitingOf {p : Line → Bool} {s : State} {k : LineIx} :
    k ∈ s.waitingOf p ↔ p s.dmc.lines[k] = true ∧ (s.dmc.lines[k]).state = .waiting := by
  simp [State.waitingOf_eq]

theorem State.mem_activeOf {p : Line → Bool} {s : State} {k : LineIx} :
    k ∈ s.activeOf p ↔ p s.dmc.lines[k] = true ∧ (s.dmc.lines[k]).state = .active := by
  simp [State.activeOf_eq]

theorem State.waitingOf_nodup (p : Line → Bool) (s : State) : (s.waitingOf p).Nodup :=
  ((List.nodup_finRange 64).filter _).filter _

/-! ## The service -/

/-- The service ends, or the head of the wait list finds its pages and is activated, and the service goes on (R48). -/
theorem serveUpTo_succ_cases (n : Nat) (s : State) :
    serveUpTo (n + 1) s = s ∨ ∃ k rest, s.dmc.waitList = k :: rest ∧ (s.dmc.lines[k]).pageCount ≤ s.dmc.clean.length ∧
      serveUpTo (n + 1) s =
        serveUpTo n ((State.activateLine k { s with dmc := { s.dmc with waitList := rest } }).raise (.lineReady k)) := by
  cases hw : s.dmc.waitList with
  | nil => left; simp only [serveUpTo, hw]
  | cons k rest =>
    simp only [serveUpTo, hw]
    by_cases hp : (s.dmc.lines[k]).pageCount ≤ s.dmc.clean.length
    · exact .inr ⟨k, rest, rfl, hp, if_pos hp⟩
    · exact .inl (if_neg hp)

/-- Wait-list service changes lines of the wait list alone, and takes lines from it (R48). -/
theorem serveUpTo_line (n : Nat) (s : State) :
    (∀ i : LineIx, i ∉ s.dmc.waitList → (serveUpTo n s).dmc.lines[i] = s.dmc.lines[i]) ∧
      (∀ i ∈ (serveUpTo n s).dmc.waitList, i ∈ s.dmc.waitList) ∧ (serveUpTo n s).dmc.roundRobin = s.dmc.roundRobin := by
  induction n generalizing s with
  | zero => exact ⟨fun _ _ => rfl, fun _ h => h, rfl⟩
  | succ n ih =>
    obtain h | ⟨k, rest, hw, -, h⟩ := serveUpTo_succ_cases n s
    · rw [h]; exact ⟨fun _ _ => rfl, fun _ h => h, rfl⟩
    · obtain ⟨hline, hwait, hround⟩ :=
        ih ((State.activateLine k { s with dmc := { s.dmc with waitList := rest } }).raise (.lineReady k))
      have hd : ((State.activateLine k { s with dmc := { s.dmc with waitList := rest } }).raise (.lineReady k)).dmc =
          (State.activateLine k { s with dmc := { s.dmc with waitList := rest } }).dmc := by simp
      rw [hd, State.activateLine_dmc] at hline hwait hround
      rw [h, hw]
      refine ⟨fun i hi => ?_, fun i hi => List.mem_cons_of_mem k (hwait i hi), hround⟩
      obtain ⟨hk, hrest⟩ := not_or.mp (mt List.mem_cons.mpr hi)
      exact (hline i hrest).trans (by rw [updateAt_get, if_neg (Ne.symm hk)])

end Sys2Proof.Machine
end

section
/-! SUPPORT. The accounts of the part at every step: the owners, the completion of a computation and the other events (R43, R55, R68,
R71, R73, R85, R86, R104, R105). -/

namespace Sys2Proof.Machine

theorem mem_namedLines (k : LineIx) (d : Dest) (j : LineIx) : j ∈ namedLines k d ↔ k = j ∨ d = .line j := by
  unfold namedLines
  cases d <;> simp [eq_comm]

theorem Line.not_free_of_isLive {l : Line} (h : l.isLive = true) : l.state ≠ .free := by
  intro free
  simp [Line.isLive, free] at h

/-- The ledger is exact and, where `counted`, the reference counts are. The two parts of the claim are this invariant with `counted`
false and true: what keeps the one keeps the other alongside. -/
structure State.Accounted (counted : Prop) (s : State) : Prop where
  ledger     : s.LedgerExact
  references : counted → s.ReferencesExact

namespace State.Accounted
variable {counted : Prop} {s : State}

theorem of_accounts {u : State} (h : s.Accounted counted) (he : u.accounts = s.accounts) : u.Accounted counted :=
  ⟨h.ledger.of_accounts he, fun hc => (h.references hc).of_accounts he⟩

/-! ## Taps that become UNUSED, lines that become FREE -/

/-- Taps in use that become UNUSED, each once (R85, R86). -/
theorem removeTaps (h : s.Accounted counted) (l : List TapIx) (hl : l.Nodup) (hu : ∀ j ∈ l, (s.taps[j]).state ≠ .unused) :
    State.Accounted counted (l.foldl (fun u j => u.removeTap j) s) := by
  induction l generalizing s with
  | nil => exact h
  | cons i l ih =>
    obtain ⟨hi, hl⟩ := List.nodup_cons.mp hl
    have hused := hu i List.mem_cons_self
    refine ih ⟨h.ledger.removeTap hused, fun hc => (h.references hc).removeTap hused⟩ hl fun j hj => ?_
    rw [State.removeTap_tap, if_neg (by rintro rfl; exact hi hj)]
    exact hu j (List.mem_cons_of_mem i hj)

theorem removeTapsOf (h : s.Accounted counted) (k : LineIx) : (s.removeTapsOf k).Accounted counted := by
  rw [State.removeTapsOf_eq]
  refine h.removeTaps _ ((List.nodup_finRange 256).filter _) fun j hj => ?_
  have used := (List.mem_filter.mp hj).2
  rw [Tap.usesAny_singleton, Bool.and_eq_true] at used
  exact (Tap.takesPart_iff _).mp used.1

/-- A WAITING line that is dropped has lost its taps before it becomes FREE (R58). -/
theorem dropWaiting (h : s.Accounted counted) {k : LineIx} (hk : (s.dmc.lines[k]).state ≠ .free) :
    (s.dropWaiting k).Accounted counted := by
  have removed : ((s.leaveWaitList k).removeTapsOf k).Accounted counted :=
    removeTapsOf (of_accounts (u := s.leaveWaitList k) h rfl) k
  rw [State.dropWaiting_eq]
  refine ⟨removed.ledger.freeLine ?_, fun hc => (removed.references hc).freeLine fun j hj => ?_⟩
  · rw [State.removeTapsOf_line]; exact hk
  · rw [State.removeTapsOf_tap] at hj ⊢
    split at hj
    · exact absurd rfl hj
    · rename_i hn
      rw [if_neg hn]
      rw [Tap.usesAny_singleton, (Tap.takesPart_iff _).mpr hj, Bool.true_and] at hn
      exact Bool.eq_false_iff.mpr hn

/-- Several WAITING lines dropped, each once. -/
theorem dropAll (h : s.Accounted counted) (l : List LineIx) (hl : l.Nodup) (hw : ∀ k ∈ l, (s.dmc.lines[k]).state = .waiting) :
    (s.dropAll l).Accounted counted := by
  induction l generalizing s with
  | nil => exact h
  | cons k l ih =>
    obtain ⟨hk, hl⟩ := List.nodup_cons.mp hl
    rw [State.dropAll_cons]
    refine ih (h.dropWaiting (by rw [hw k List.mem_cons_self]; nofun)) hl fun i hi => ?_
    rw [State.dropWaiting_line, if_neg (by rintro rfl; exact hk hi)]
    exact hw i (List.mem_cons_of_mem k hi)

/-- Lines that are not FREE become CLOSING (R59). -/
theorem closeAll (h : s.Accounted counted) (l : List LineIx) (ha : ∀ k ∈ l, (s.dmc.lines[k]).state ≠ .free) :
    (s.closeAll l).Accounted counted := by
  induction l generalizing s with
  | nil => exact h
  | cons k l ih =>
    rw [State.closeAll_cons]
    refine ih (h.of_accounts (s.beginClose_accounts (ha k List.mem_cons_self))) fun i hi => ?_
    rw [State.beginClose_dmc, updateAt_get]
    split
    · nofun
    · exact ha i (List.mem_cons_of_mem k hi)

/-- The close of a CLOSING line without references completes (R60). -/
theorem completeClose (h : s.Accounted counted) (k : LineIx) : (s.completeClose k).Accounted counted := by
  unfold State.completeClose
  split
  · rename_i hk
    obtain ⟨hstate, hrefs⟩ := of_decide_eq_true hk
    have moved : State.Accounted counted { s with dmc := { s.dmc with dirty := s.dmc.dirty ++ s.dmc.lines[k].pages } } := h.of_accounts rfl
    exact ⟨moved.ledger.freeLine (by rw [hstate]; nofun),
      fun hc => (moved.references hc).freeLine ((moved.references hc).unreferenced_of_refs hrefs)⟩
  · exact h

theorem completeCloses (h : s.Accounted counted) : s.completeCloses.Accounted counted :=
  of_accounts (List.foldlRecOn _ _ h fun _ hu k _ => hu.completeClose k) (State.startScrub_accounts _)

/-! ## The closes -/

theorem closeWaiting (h : s.Accounted counted) (hp : s.Paged) {k : LineIx} (hk : (s.dmc.lines[k]).state = .waiting) :
    (s.closeWaiting k).Accounted counted :=
  of_accounts (h.dropWaiting (by rw [hk]; nofun)).completeCloses (hp.dropWaiting (.inl hk)).completeCloses.serveWaitList_accounts

theorem closeActive (h : s.Accounted counted) {k : LineIx} (hk : (s.dmc.lines[k]).state = .active) :
    (s.closeActive k).Accounted counted :=
  completeCloses (h.of_accounts (s.beginClose_accounts (by rw [hk]; nofun)))

/-- The lines of a group close are WAITING or ACTIVE until their turn comes (R61). -/
theorem groupClose (h : s.Accounted counted) (hp : s.Paged) (p : Line → Bool) : (s.groupClose p).Accounted counted := by
  have dropped := h.dropAll (s.waitingOf p) (s.waitingOf_nodup p) fun k hk => (State.mem_waitingOf.mp hk).2
  have closing := dropped.closeAll (s.activeOf p) fun k hk => by
    have ha := (State.mem_activeOf.mp hk).2
    rw [State.dropAll_line, if_neg fun hw => nomatch ha.symm.trans (State.mem_waitingOf.mp hw).2]
    show (s.dmc.lines[k]).state ≠ .free
    rw [ha]; nofun
  have paged : (((s.dropAll (s.waitingOf p)).closeAll (s.activeOf p)).completeCloses).Paged := by
    have begun : s.Grouped (s.waitingOf p) (s.activeOf p) :=
      ⟨hp, fun k hk => .inl (State.mem_waitingOf.mp hk).2, fun k hk => .inl (State.mem_activeOf.mp hk).2⟩
    have dropped := List.foldlRecOn _ (fun u k => State.dropWaiting k u) begun fun _ hu k hk => hu.dropWaiting hk
    have closing := List.foldlRecOn _ (fun u k => State.beginClose k u) dropped fun _ hu k hk => hu.beginClose hk
    exact closing.paged.completeCloses
  rw [State.groupClose_eq]
  exact of_accounts closing.completeCloses paged.serveWaitList_accounts

/-! ## The owners that open and close -/

/-- An admitted line takes its FREE record, with 2 units charged (R43, R46). -/
theorem admitLine (h : s.Accounted counted) {k : LineIx} (hk : (s.dmc.lines[k]).state = .free) {l : Line} (hs : l.state = .waiting)
    (hr : l.refs = 0) (hb : s.budgetAdmits 2 = true) (clamped : Bool) : (admitLine k l clamped s).Leaves (State.Accounted counted) := by
  have opened : State.Accounted counted ((s.mapLine k fun _ => l).charge 2) :=
    ⟨h.ledger.openLine hk (by rw [hs]; nofun) hb, fun hc =>
      have set := (h.references hc).setLine ((h.references hc).unreferenced_of_free hk) hr
      ⟨set.counts, set.lines⟩⟩
  have placed (d : Dmc) (hd : d.lines = updateAt s.dmc.lines k fun _ => l) :
      State.Accounted counted { (s.mapLine k fun _ => l).charge 2 with dmc := d } := by
    refine opened.of_accounts ?_
    simp only [State.accounts, hd]
    rfl
  unfold Machine.admitLine
  dsimp only
  split
  · refine of_accounts (placed { s.dmc with lines := updateAt s.dmc.lines k fun _ => l, roundRobin := k + 1 } rfl)
      (State.activateLine_accounts _ ?_)
    show ((updateAt s.dmc.lines k fun _ => l)[k]).state ≠ .free
    rw [updateAt_get, if_pos rfl, hs]
    nofun
  · exact of_accounts (placed { s.dmc with
      lines := updateAt s.dmc.lines k fun _ => l, roundRobin := k + 1, waitList := s.dmc.waitList ++ [k] } rfl)
      (State.raise_accounts _ _)

theorem ownLineOpen (h : s.Accounted counted) (b : Bool) (p : List Byte) : (ownLineOpen b p s).Leaves (State.Accounted counted) := by
  unfold Machine.ownLineOpen
  (repeat' split) <;> try exact Verdict.leaves_refuse _ _
  dsimp only
  split
  · exact Verdict.leaves_refuse _ _
  · rename_i hb _ _ hk _
    exact h.admitLine (Dmc.chooseRecord_free hk) rfl rfl (by simpa using hb) _

theorem ownLineClose (h : s.Accounted counted) (hp : s.Paged) (b : Bool) (p : List Byte) :
    (ownLineClose b p s).Leaves (State.Accounted counted) := by
  unfold Machine.ownLineClose
  (repeat' split) <;> try exact Verdict.leaves_refuse _ _
  · rename_i hk; exact h.closeWaiting hp hk
  · rename_i hk; exact h.closeActive hk
  · exact h

/-- An admitted tap takes an UNUSED record, and its lines are live and of its slot (R71, R73). -/
theorem ownTapCreate (h : s.Accounted counted) (b : Bool) (p : List Byte) : (ownTapCreate b p s).Leaves (State.Accounted counted) := by
  unfold Machine.ownTapCreate
  (repeat' split) <;> try exact Verdict.leaves_refuse _ _
  rename_i i k _ _ _ dest _ _ spec sc _ _ m _ _ retune rc _ hlive hslot _ t hfree hb
  have unused : (s.taps[t]).state = .unused :=
    of_decide_eq_true (List.find?_some (p := fun j : TapIx => decide ((s.taps[j]).state = .unused)) hfree)
  have created (x : Tap) (hx : x.state = .live) (hi : x.slot = i) (hk : x.source = k) (hd : x.dest = dest) :
      (s.enterTap t x).Accounted counted := by
    have used : x.state ≠ .unused := by rw [hx]; nofun
    refine ⟨h.ledger.enterTap unused used (by simpa using hb), fun hc => (h.references hc).enterTap unused used fun j hj => ?_⟩
    rw [Tap.references_iff, hk, hd] at hj
    have named := (mem_namedLines k dest j).mpr hj
    simp only [List.any_eq_true, not_exists, not_and, Bool.not_eq_true, Bool.not_eq_false', bne_eq_false_iff_eq] at hlive hslot
    rw [hi]
    exact ⟨Line.not_free_of_isLive (hlive j named), hslot j named⟩
  exact of_accounts (created _ rfl rfl rfl rfl) (State.countDelayClamp_accounts _ _ _)

theorem initBlocks (rate : Rate) (action : HaltAction) : (s.initBlocks rate action).Accounted counted := by
  have reset : State.Accounted counted { State.reset with ec := { State.reset.ec with rate := some rate } } :=
    ⟨⟨State.reset_unitsHeld.symm, Nat.zero_le _, nofun⟩,
      fun _ => ⟨State.reset_referencesExact.counts, State.reset_referencesExact.lines⟩⟩
  refine reset.of_accounts ?_
  unfold State.initBlocks
  dsimp only
  rw [State.startScrub_accounts]
  rfl

theorem resetBlocks : s.resetBlocks.Accounted counted :=
  of_accounts (s := State.reset) ⟨State.reset_ledgerExact, fun _ => State.reset_referencesExact⟩ rfl

theorem ownInit (b : Bool) (p : List Byte) : (ownInit b p s).Leaves (State.Accounted counted) := by
  unfold Machine.ownInit
  (repeat' split) <;> try exact Verdict.leaves_refuse _ _
  exact initBlocks _ _

end State.Accounted

/-! ## The other owners -/

theorem stageEntry_accounts (e : Entry) (c : Bool) (s : State) : (stageEntry e c s).Leaves fun t => t.accounts = s.accounts := by
  unfold stageEntry
  split
  · trivial
  · rfl

/-- The kinds whose owners open or close lines or taps (R42, R56, R62, R63, R70, R151), and INIT. -/
def Kind.movesUnits (k : Kind) : Bool := k.movesPages || k == .tapCreate || k == .init

/-- The other owners leave the accounts alone. -/
theorem ownerOf_accounts (k : Kind) (hk : k.movesUnits = false) (b : Bool) (p : List Byte) (s : State) :
    (ownerOf k b p s).Leaves fun t => t.accounts = s.accounts := by
  cases k with
  | init | lineOpen | lineClose | lineReleaseTag | lineReleaseAll | slotClear | tapCreate => cases hk
  | status | reset | timeGet | outmapGet | poolGet | tempoGet | schedGet | condGet | discard | checkRead | checkClear | probeGet => rfl
  | start =>
    show (ownStart b p s).Leaves _
    unfold ownStart
    split <;> first | trivial | rfl | exact (State.beginWindows_accounts _).trans (State.setFade_accounts _ _ _)
  | stop =>
    show (ownStop b p s).Leaves _
    unfold ownStop
    split <;> first | trivial | rfl | exact State.raise_accounts _ _
  | halt => show (ownHalt b p s).Leaves _; unfold ownHalt; split <;> first | trivial | exact s.haltCause_accounts _ _
  | resume =>
    show (ownResume b p s).Leaves _
    unfold ownResume
    (repeat' split) <;> first | trivial | exact State.setFade_accounts _ _ _
  | portDrive => show (ownPortDrive b p s).Leaves _; unfold ownPortDrive; (repeat' split) <;> trivial
  | portBypass => show (ownPortBypass b p s).Leaves _; unfold ownPortBypass; (repeat' split) <;> trivial
  | outmapSet =>
    show (ownOutmapSet b p s).Leaves _
    unfold ownOutmapSet
    (repeat' split) <;> first | trivial | exact stageEntry_accounts _ _ _
  | outmapFill =>
    show (ownOutmapFill b p s).Leaves _
    unfold ownOutmapFill
    (repeat' split) <;> first | trivial | exact stageEntry_accounts _ _ _ | exact s.fillMap_accounts _ _ _ _
  | checkSet => show (ownCheckSet b p s).Leaves _; unfold ownCheckSet; (repeat' split) <;> trivial
  | lineSet =>
    show (ownLineSet b p s).Leaves _
    unfold ownLineSet
    iterate 4 (split <;> try exact Verdict.leaves_refuse _ _)
    cases b
    · exact s.mapLine_accounts (Line.write_account _ _)
    · exact stageEntry_accounts _ _ _
  | lineGet => show (ownLineGet b p s).Leaves _; unfold ownLineGet; (repeat' split) <;> trivial
  | tapSet =>
    show (ownTapSet b p s).Leaves _
    unfold ownTapSet
    (repeat' split) <;> first | trivial | exact stageEntry_accounts _ _ _ | exact s.applyTapSet_accounts _ _
  | tapFill =>
    show (ownTapFill b p s).Leaves _
    unfold ownTapFill
    (repeat' split) <;> first | trivial | exact stageEntry_accounts _ _ _ | exact s.applyTapFill_accounts _ _ _ _
  | tapFree =>
    show (ownTapFree b p s).Leaves _
    unfold ownTapFree
    (repeat' split) <;> first | trivial | exact s.mapTap_accounts _ Tap.release_account
  | tapGet => show (ownTapGet b p s).Leaves _; unfold ownTapGet; (repeat' split) <;> trivial
  | modSet =>
    show (ownModSet b p s).Leaves _
    unfold ownModSet
    iterate 5 (split <;> try exact Verdict.leaves_refuse _ _)
    cases b
    · rfl
    · exact stageEntry_accounts _ _ _
  | modSync =>
    show (ownModSync b p s).Leaves _
    unfold ownModSync
    (repeat' split) <;> first | trivial | exact State.note_accounts _ (Written.setPhase _) fun _ => rfl
  | modGet => show (ownModGet b p s).Leaves _; unfold ownModGet; (repeat' split) <;> trivial
  | tempoSet =>
    show (ownTempoSet b p s).Leaves _
    unfold ownTempoSet
    (repeat' split) <;> first | exact stageEntry_accounts _ _ _ | exact s.setTempo_accounts _ | trivial
  | beat =>
    show (ownBeat b p s).Leaves _
    unfold ownBeat
    (repeat' split) <;> first | exact State.markBeat_accounts _ | exact s.acceptMark_accounts _ | rfl
  | slotSet =>
    show (ownSlotSet b p s).Leaves _
    unfold ownSlotSet
    iterate 5 (split <;> try exact Verdict.leaves_refuse _ _)
    cases b
    · rfl
    · exact stageEntry_accounts _ _ _
  | slotGet => show (ownSlotGet b p s).Leaves _; unfold ownSlotGet; (repeat' split) <;> trivial
  | commit =>
    show (ownCommit b p s).Leaves _
    unfold ownCommit commitNow commitAt
    (repeat' split) <;> first | trivial | rfl | exact (applyList_accounts _ _).trans (applyList_accounts _ _)
  | schedCancel => show (ownSchedCancel b p s).Leaves _; unfold ownSchedCancel; (repeat' split) <;> trivial
  | condEnable =>
    show (ownCondEnable b p s).Leaves _
    unfold ownCondEnable
    split <;> first | trivial | exact State.alertTest_accounts _
  | alertRelease =>
    show (ownAlertRelease b p s).Leaves _
    unfold ownAlertRelease
    split <;> first | rfl | exact State.alertTest_accounts _
  | probeSet =>
    show (ownProbeSet b p s).Leaves _
    unfold ownProbeSet
    (repeat' split) <;> first | trivial | exact State.note_accounts _ Written.setProbe fun _ => rfl
  | countersGet => show (ownCountersGet b p s).Leaves _; unfold ownCountersGet; (repeat' split) <;> trivial
end Sys2Proof.Machine
end

section
/-! SUPPORT. The accounts at the completion and the beginning of a computation and under the other events (R85, R91, R104); the
invariant of the ledger and of the reference counts. -/

namespace Sys2Proof.Machine

/-! ## The stages of a completion -/

section
variable (c : Computation) (s : State)

theorem State.reportFaults_accounts (n : Word32) (l : List (LineIx × Nat)) : (s.reportFaults n l).accounts = s.accounts :=
  foldl_keeps State.accounts (State.reportFault n)
    (fun u f => State.accounts_congr (by simp) (by simp) (by simp) (by simp) (by simp)) l s

/-- The stores of stage 5 write no field that the accounts turn on (R101). -/
theorem State.storeLines_accounts (cs : List (Dest × Int)) : (s.storeLines c cs).accounts = s.accounts := by
  have line : (fun k : LineIx => ((s.storeLines c cs).dmc.lines[k]).account) = fun k : LineIx => (s.dmc.lines[k]).account := by
    funext k
    rw [State.storeLines_line, Computation.storedLine]
    split <;> rfl
  rw [State.accounts, line]
  simp [State.accounts]

theorem State.deliverBuses_accounts (cs : List (Dest × Int)) : (s.deliverBuses c cs).accounts = s.accounts := by
  have clipped (l : List BusIx) : (l.foldl (State.clipBus c cs) s).fe = s.fe := foldl_keeps State.fe _ (fun u b => by simp) l s
  refine State.accounts_congr (by simp) (by simp) (by simp) (by simp) ?_
  simp only [State.deliverBuses, FrameEngine.advances, clipped]

theorem State.advanceTap_accounts (j : TapIx) : (s.advanceTap c j).accounts = s.accounts := by
  have stepped : (s.mapTap j fun x => { x with gain := approach 64 (c.view.taps[j]).gain (c.view.taps[j]).gainTarget }).accounts =
      s.accounts := s.mapTap_accounts j fun _ => rfl
  have retuned (u : State) : (u.mapTap j fun x => x.advanceRetune.1).accounts = u.accounts :=
    u.mapTap_accounts j Tap.advanceRetune_account
  unfold State.advanceTap
  dsimp only
  split
  · split
    · exact stepped
    · split <;> exact (retuned _).trans stepped
  · rfl

theorem State.advanceTaps_accounts : (s.advanceTaps c).accounts = s.accounts :=
  foldl_keeps State.accounts (State.advanceTap c) (State.advanceTap_accounts c) _ s

theorem State.advanceBeat_accounts : (s.advanceBeat c).accounts = s.accounts := by
  unfold State.advanceBeat
  split
  · rfl
  · split
    · exact State.beatOccurs_accounts _
    · rfl

/-- The completion up to its releases. -/
def State.finishBefore (o : Vector TapOut 256) (cs : List (Dest × Int)) : State :=
  let s0 : State := { s with fe := { s.fe with computation := none } }
  let s3 := ((s0.reportFaults c.stamp (o.toList.flatMap TapOut.faults)).storeLines c cs).deliverBuses c cs
  let s6 := ((s3.countAllClamps c o).saturateLines c cs).advanceSlots c
  ((((s6.advanceTaps c).advanceMods c).advanceBeat c).advanceFade c).offerProbe c o cs

theorem State.finishFrom_eq (o : Vector TapOut 256) (cs : List (Dest × Int)) :
    s.finishFrom c o cs = ((s.finishBefore c o cs).completeReleases c).completeCloses := rfl

/-- Until the releases a completion leaves the accounts alone, but that no computation is in progress any more. -/
theorem State.finishBefore_accounts (o : Vector TapOut 256) (cs : List (Dest × Int)) :
    (s.finishBefore c o cs).accounts = State.accounts { s with fe := { s.fe with computation := none } } := by
  have offered (u : State) : (u.offerProbe c o cs).accounts = u.accounts :=
    State.accounts_congr (by simp) (by simp) (by simp) (by simp) (by simp)
  have faded (u : State) : (u.advanceFade c).accounts = u.accounts :=
    State.accounts_congr (by simp) (by simp) (by simp) (by simp) (by simp)
  have saturated (u : State) : (u.saturateLines c cs).accounts = u.accounts :=
    State.accounts_congr (by simp) (by simp) (by simp) (by simp) (by simp)
  have counted (u : State) : (u.countAllClamps c o).accounts = u.accounts :=
    State.accounts_congr (by simp) (by simp) (by simp) (by simp) (by simp)
  have slots (u : State) : (u.advanceSlots c).accounts = u.accounts := rfl
  have mods (u : State) : (u.advanceMods c).accounts = u.accounts := rfl
  rw [State.finishBefore, offered, faded, State.advanceBeat_accounts, mods, State.advanceTaps_accounts, slots, saturated, counted,
    State.deliverBuses_accounts, State.storeLines_accounts, State.reportFaults_accounts]

end

theorem State.withRoundRobin_accounts (s : State) (k : LineIx) :
    ({ s with dmc := { s.dmc with roundRobin := k } } : State).accounts = s.accounts := rfl

namespace State.Accounted
variable {counted : Prop} {s : State}

/-- The releases that complete are of taps that the computation advances, and those are in use (R85, R104). -/
theorem completeReleases (h : s.Accounted counted) (c : Computation)
    (hu : ∀ j : TapIx, c.advancesTap j = true → (s.taps[j]).takesPart = true) : (s.completeReleases c).Accounted counted := by
  rw [State.completeReleases_eq]
  refine h.removeTaps _ ((List.nodup_finRange 256).filter _) fun j hj => (Tap.takesPart_iff _).mp (hu j ?_)
  have released := (List.mem_filter.mp hj).2
  simp only [Computation.releasesTap, Bool.and_eq_true] at released
  exact released.1.1

theorem finish (h : s.Accounted counted) {c : Computation} (hc : s.fe.computation = some c) : (s.finish c).Accounted counted := by
  have begun : State.Accounted counted { s with fe := { s.fe with computation := none } } :=
    ⟨⟨h.ledger.used, h.ledger.fits, nofun⟩, fun hr => ⟨(h.references hr).counts, (h.references hr).lines⟩⟩
  rw [State.finish_eq, State.finishFrom_eq]
  refine of_accounts (completeCloses (completeReleases (begun.of_accounts (State.finishBefore_accounts c s _ _)) c fun j hj => ?_))
    (State.alertTest_accounts _)
  obtain ⟨-, -, -, taps, -⟩ := State.account_of_accounts (State.finishBefore_accounts c s (c.tapOuts s.dmc.memory)
    (c.contributions (c.tapOuts s.dmc.memory)))
  exact (congrArg Prod.fst (taps j)).trans (h.ledger.view c hc j hj)

theorem completeComputation (h : s.Accounted counted) (l : List Strike) : (s.completeComputation l).Accounted counted := by
  have struck : State.Accounted counted { s with dmc := { s.dmc with memory := l.foldl Memory.strike s.dmc.memory } } := h.of_accounts rfl
  unfold State.completeComputation
  dsimp only
  split
  · exact struck
  · rename_i c hc; exact struck.finish hc

/-- A computation that begins will advance the taps in use (R91). -/
theorem beginComputation (h : s.Accounted counted) : s.beginComputation.Accounted counted := by
  have worked := h.of_accounts s.applyDueWork_accounts
  refine ⟨⟨worked.ledger.used, worked.ledger.fits, fun c hc j hj => ?_⟩,
    fun hr => ⟨(worked.references hr).counts, (worked.references hr).lines⟩⟩
  obtain rfl := Option.some.inj hc
  exact ((Bool.and_eq_true _ _).mp hj).1

/-! ## The owners and the other events -/

theorem owner (h : s.Accounted counted) (hp : s.Paged) (k : Kind) (b : Bool) (p : List Byte) :
    (ownerOf k b p s).Leaves (State.Accounted counted) := by
  cases hk : k.movesUnits with
  | false =>
    have hv := ownerOf_accounts k hk b p s
    cases hv' : ownerOf k b p s with
    | refuse st => trivial
    | done t st q => rw [hv'] at hv; exact h.of_accounts hv
  | true =>
    cases k with
    | init => exact ownInit b p
    | lineOpen => exact h.ownLineOpen b p
    | lineClose => exact h.ownLineClose hp b p
    | lineReleaseTag =>
      show (ownLineReleaseTag b p s).Leaves _
      unfold ownLineReleaseTag
      split
      · exact h.groupClose hp _
      · exact Verdict.leaves_refuse _ _
    | lineReleaseAll =>
      show (ownLineReleaseAll b p s).Leaves _
      unfold ownLineReleaseAll
      exact of_accounts (h.groupClose hp _) (State.withRoundRobin_accounts _ _)
    | slotClear =>
      show (ownSlotClear b p s).Leaves _
      unfold ownSlotClear
      (repeat' split) <;> try exact Verdict.leaves_refuse _ _
      exact h.groupClose hp _
    | tapCreate => exact h.ownTapCreate b p
    | _ => cases hk

theorem pageClear {t : State} (h : s.Accounted counted) (hp : s.Paged) (ht : execPageClearComplete s = .next t) :
    t.Accounted counted := by
  cases hs : s.dmc.scrubber with
  | none =>
    obtain rfl := Host.Outcome.next.inj ht
    rw [hs]
    exact h
  | some p =>
    obtain rfl := Host.Outcome.next.inj ((execPageClearComplete_eq hs).symm.trans ht)
    have cleared : (s.pageJoined p).Paged := Dmc.Partitioned.pageCleared hp hs _
    refine h.of_accounts ?_
    rw [State.memoryClean_accounts, State.startScrub_accounts, cleared.serveWaitList_accounts]
    rfl

end State.Accounted

/-- The measured rate, the clock, the tracker and a received sample leave the accounts alone (R3, R140, R169, R170). -/
theorem timed_accounts {s t : State} (ht : (∃ n, execRateMeasurementComplete n s = .next t) ∨
    (execRateMeasurementLoss s = .next t ∨ execClockLost s = .next t) ∨ execTrackerTimeout s = .next t) : t.accounts = s.accounts := by
  obtain ⟨n, ht⟩ | (ht | ht) | ht := ht <;> obtain rfl := Host.Outcome.next.inj ht <;> (repeat' split)
  · rfl
  · rfl
  · exact State.haltCause_accounts _ _ _
  · rfl
  · rfl
  · exact State.raise_accounts _ _
  · rfl
  · rfl
  · rfl

theorem input_accounts {s t : State} {n : Nat} {w : Word24} {fresh : Bool} (ht : execInputSlotReceived n w fresh s = .next t) :
    t.accounts = s.accounts := by
  obtain rfl := Host.Outcome.next.inj ht
  split
  · exact State.accounts_congr (by simp) (by simp) (by simp) (by simp) (by simp)
  · rfl

/-- The invariant of the accounts, beside that of the pages, is kept by every owner and every event. -/
theorem State.Accounted.kept (counted : Prop) : KeptByTables fun s => s.Paged ∧ s.Accounted counted where
  frame ht h := ⟨State.Paged.kept.frame ht h.1, h.2.of_accounts (State.accounts_of_tables ht)⟩
  owner k b p s h := by
    have paged := h.1.owner k b p
    have accounted := h.2.owner h.1 k b p
    cases hv : ownerOf k b p s with
    | refuse st => trivial
    | done t st q => rw [hv] at paged accounted; exact ⟨paged, accounted⟩
  reset s h := ⟨State.Paged.kept.reset s h.1, State.Accounted.resetBlocks⟩
  completion l s h := ⟨h.1.completeComputation l, h.2.completeComputation l⟩
  boundary s h := ⟨State.Paged.kept.boundary s h.1, h.2.of_accounts rfl⟩
  schedule s h := ⟨State.Paged.kept.schedule s h.1, h.2.of_accounts rfl⟩
  clockBack s h := ⟨State.Paged.kept.clockBack s h.1, h.2.of_accounts s.clockBack_accounts⟩
  computation s h := ⟨State.Paged.kept.computation s h.1, h.2.beginComputation⟩
  clear s t h ht := ⟨h.1.pageClear ht, h.2.pageClear h.1 ht⟩
  input n w fresh s t h ht := ⟨State.Paged.kept.input n w fresh s t h.1 ht, h.2.of_accounts (input_accounts ht)⟩
  measured n s t h ht := ⟨State.Paged.kept.measured n s t h.1 ht, h.2.of_accounts (timed_accounts (.inl ⟨n, ht⟩))⟩
  lost s t h ht := ⟨State.Paged.kept.lost s t h.1 ht, h.2.of_accounts (timed_accounts (.inr (.inl ht)))⟩
  timeout s t h ht := ⟨State.Paged.kept.timeout s t h.1 ht, h.2.of_accounts (timed_accounts (.inr (.inr ht)))⟩

/-- Settles O10: a step opens, frees or removes one record at a time, with its units and its references, or leaves the accounts
alone. -/
theorem ledgerAndReferencesStayExact : Obligations.LedgerAndReferencesStayExact := by
  refine ⟨fun s t hp hl ht => ?_, fun s t hp hl hr ht => ?_⟩
  · exact ((State.Accounted.kept False).step ⟨hp, ⟨hl, nofun⟩⟩ ht).2.ledger
  · exact ((State.Accounted.kept True).step ⟨hp, ⟨hl, fun _ => hr⟩⟩ ht).2.references trivial

end Sys2Proof.Machine
end

section
/-! SUPPORT. The queries of one record (R64, R87, R134), and the line requests LINE_OPEN and LINE_SET (R42 to R46, R53). -/

namespace Sys2Proof.Machine

/-! ## The record queries -/

theorem index_of_val {n k : Nat} (i : Fin n) (h : i.val = k) : index n k = some i := by subst h; exact index_some i.isLt

theorem index_of_ge {n k : Nat} (h : n ≤ k) : index n k = none := index_none (Nat.not_lt.mpr h)

/-- The retune fields of a tap as TAP_GET lays them out (R87): zero where the retune state has no such field. -/
def Retune.bytes (position : Nat) (x : Retune) : List Byte :=
  byteOf x.code :: bytesOf 4 position ++ bytesOf 4 x.newPosition ++ bytesOf 2 x.fadeCount ++ bytesOf 2 x.fadeLength
    ++ bytesOf 4 x.glideStepOr0 ++ flagByte x.pending.isSome :: bytesOf 4 (x.pending.getD 0)

theorem tapPayload_eq (t : Tap) :
    tapPayload t = [byteOf t.state.code, byteOf t.slot, byteOf t.source] ++ t.dest.bytes ++ t.spec.bytes ++ bytesOf 4 t.target
      ++ [byteOf t.retuneMode.code] ++ bytesOf 2 t.retuneLength ++ t.retune.bytes t.position
      ++ [byteOrNone (t.modulator.map Fin.val)] ++ bytesOf 2 t.depth ++ signedBytes 2 t.gainTarget ++ signedBytes 2 t.gain := by
  simp only [tapPayload, Retune.bytes, List.append_assoc, List.cons_append, List.nil_append]

section
variable (q n k F st : Nat)

theorem Retune.bytes_idle : Retune.idle.bytes q = 0 :: bytesOf 4 q ++ List.replicate 17 0 := rfl

theorem Retune.bytes_fading : (Retune.fading n k F none).bytes q =
    1 :: bytesOf 4 q ++ bytesOf 4 n ++ bytesOf 2 k ++ bytesOf 2 F ++ List.replicate 9 0 := by
  have zeros : bytesOf 4 0 ++ flagByte false :: bytesOf 4 0 = List.replicate 9 0 := by decide
  simp only [Retune.bytes, Retune.newPosition, Retune.fadeCount, Retune.fadeLength, Retune.glideStepOr0, Retune.pending, ← zeros,
    Option.isSome_none, Option.getD_none, List.append_assoc, List.cons_append]
  rfl

theorem Retune.bytes_fading_pending (p : Nat) : (Retune.fading n k F (some p)).bytes q =
    1 :: bytesOf 4 q ++ bytesOf 4 n ++ bytesOf 2 k ++ bytesOf 2 F ++ [0, 0, 0, 0, 1] ++ bytesOf 4 p := by
  have zeros : bytesOf 4 0 ++ [flagByte true] = [0, 0, 0, 0, 1] := by decide
  simp only [Retune.bytes, Retune.newPosition, Retune.fadeCount, Retune.fadeLength, Retune.glideStepOr0, Retune.pending, ← zeros,
    Option.isSome_some, Option.getD_some, List.append_assoc, List.cons_append, List.nil_append]
  rfl

theorem Retune.bytes_gliding : (Retune.gliding st).bytes q =
    2 :: bytesOf 4 q ++ List.replicate 8 0 ++ bytesOf 4 st ++ List.replicate 5 0 := by
  have zeros : bytesOf 4 0 ++ (bytesOf 2 0 ++ bytesOf 2 0) = List.replicate 8 0 := by decide
  have rest : flagByte false :: bytesOf 4 0 = List.replicate 5 0 := by decide
  simp only [Retune.bytes, Retune.newPosition, Retune.fadeCount, Retune.fadeLength, Retune.glideStepOr0, Retune.pending, ← zeros,
    ← rest, Option.isSome_none, Option.getD_none, List.append_assoc, List.cons_append]
  rfl

end

/-- Settles O21: each owner reads its record; the payload of TAP_GET by the tap's destination, spec and retune state. -/
theorem recordQueriesReportAndKeep : Obligations.RecordQueriesReportAndKeep := by
  refine fun r s x hp => ⟨fun h => ⟨fun hx => ?_, fun k hk => ?_⟩, fun h j hj => ?_, fun h => ⟨fun hx => ?_, fun i hi => ?_⟩⟩
  · refine congrArg Host.Outcome.next (State.take_refused h (by rw [hp]; rfl) ?_)
    rw [hp, ownLineGet, index_of_ge hx]
  · refine congrArg Host.Outcome.next (State.take_done h (by rw [hp]; rfl) ?_ rfl)
    rw [hp, ownLineGet, index_of_val k hk]
    rfl
  · refine congrArg Host.Outcome.next (State.take_done h (by rw [hp]; rfl) ?_ rfl)
    rw [hp, ownTapGet, index_of_val j hj]
    dsimp only
    rw [tapPayload_eq]
    rw [State.accepted_taps]
    generalize s.taps[j] = t
    obtain ⟨state, slot, source, dest, spec, target, mode, length, retune, position, modulator, depth, gainTarget, gain⟩ := t
    have layout : Retune.bytes position retune = match retune with
        | .idle => 0 :: bytesOf 4 position ++ List.replicate 17 0
        | .fading n k F none => 1 :: bytesOf 4 position ++ bytesOf 4 n ++ bytesOf 2 k ++ bytesOf 2 F ++ List.replicate 9 0
        | .fading n k F (some p) =>
          1 :: bytesOf 4 position ++ bytesOf 4 n ++ bytesOf 2 k ++ bytesOf 2 F ++ [0, 0, 0, 0, 1] ++ bytesOf 4 p
        | .gliding st => 2 :: bytesOf 4 position ++ List.replicate 8 0 ++ bytesOf 4 st ++ List.replicate 5 0 := by
      cases retune with
      | idle => exact Retune.bytes_idle position
      | fading n k F p =>
        cases p with
        | none => exact Retune.bytes_fading position n k F
        | some p => exact Retune.bytes_fading_pending position n k F p
      | gliding st => exact Retune.bytes_gliding position st
    dsimp only
    rw [layout]
    rfl
  · refine congrArg Host.Outcome.next (State.take_refused h (by rw [hp]; rfl) ?_)
    rw [hp, ownModGet, index_of_ge hx]
  · refine congrArg Host.Outcome.next (State.take_done h (by rw [hp]; rfl) ?_ rfl)
    rw [hp, ownModGet, index_of_val i hi]
    dsimp only
    rw [modPayload, State.accepted_mu]
    cases (s.mu.mods[i]).lock <;> simp [byteOf]

end Sys2Proof.Machine
end

section
/-! SUPPORT. LINE_OPEN and LINE_SET (R41 to R46, R53): their fields, the record that an open takes, the outcomes. -/

namespace Sys2Proof.Machine

/-! ## Fields -/

theorem natOf_pair (a b : Byte) : natOf [a, b] = a.toNat * 256 + b.toNat := by simp [natOf]

/-- Two bytes hold a number in the range of a damping (R42). -/
theorem clampNat_natOf_pair (a b : Byte) : clampNat 0 65535 (natOf [a, b]) = natOf [a, b] := by
  have ha := a.isLt
  have hb := b.isLt
  rw [natOf_pair]
  unfold clampNat
  omega

/-- Two bytes hold a number in the gain format. -/
theorem clampGain_signedOf_pair (a b : Byte) : clampGain (signedOf [a, b]) = signedOf [a, b] := by
  have ha := a.isLt
  have hb := b.isLt
  have size : ([a, b] : List Byte).length = 2 := rfl
  unfold clampGain clampInt signedOf
  rw [natOf_pair, size]
  split <;> omega

/-- A good send source (R42). -/
theorem sendSourceOf_good {S : Nat} {b : Byte} (h : b = 255 ∨ b.toNat < S) :
    sendSourceOf S b = some (if b = 255 then none else some b.toNat) := by
  unfold sendSourceOf
  by_cases hb : b = 255
  · rw [if_pos hb, if_pos hb]
  · rw [if_neg hb, if_neg hb, if_pos (h.resolve_left hb)]

theorem sendSourceOf_bad {S : Nat} {b : Byte} (hb : b ≠ 255) (h : ¬ b.toNat < S) : sendSourceOf S b = none := by
  rw [sendSourceOf, if_neg hb, if_neg h]

/-! ## The record that an open takes (R44) -/

theorem find?_finRange {n : Nat} {p : Fin n → Bool} {i : Fin n} (hi : p i = true) (hm : ∀ m, m < i → p m = false) :
    (List.finRange n).find? p = some i := by
  rw [List.find?_eq_some_iff_getElem]
  exact ⟨hi, i, by simp, by simp, fun j hj => by simpa using hm ⟨j, hj.trans i.isLt⟩ hj⟩

/-- The first FREE record from the pointer upward (R44). -/
theorem Dmc.chooseRecord_first {d : Dmc} {n : Fin 64} (hn : (d.lines[d.roundRobin + n]).state = .free)
    (hm : ∀ m : Fin 64, m < n → (d.lines[d.roundRobin + m]).state ≠ .free) : d.chooseRecord = some (d.roundRobin + n) := by
  rw [Dmc.chooseRecord, List.find?_map, find?_finRange (i := n)]
  · rfl
  · exact decide_eq_true hn
  · exact fun m h => decide_eq_false (hm m h)

theorem Dmc.chooseRecord_none {d : Dmc} (h : ∀ k : LineIx, (d.lines[k]).state ≠ .free) : d.chooseRecord = none :=
  List.find?_eq_none.mpr fun k _ => by simpa using h k

theorem Dmc.chooseRecord_exists {d : Dmc} {k : LineIx} (h : (d.lines[k]).state = .free) : ∃ j, d.chooseRecord = some j := by
  cases hc : d.chooseRecord with
  | some j => exact ⟨j, rfl⟩
  | none =>
    have taken := List.find?_eq_none.mp hc k (List.mem_map.mpr ⟨k - d.roundRobin, List.mem_finRange _, add_sub_cancel _ _⟩)
    exact absurd (decide_eq_true h) taken

/-! ## LINE_OPEN -/

section
variable {s : State} {slot tag keep l3 l2 l1 l0 src g1 g0 d1 d0 : Byte}

/-- A LINE_OPEN whose fields are good: the slot, the keep flag and the send source that they name (R42). -/
structure OpenFields (s : State) (slot keep src : Byte) (i : SlotIx) (kp : Bool) (source : Option Nat) : Prop where
  slot   : index 8 slot.toNat = some i
  keep   : flagOf keep = some kp
  source : sendSourceOf s.ec.timeSlots src = some source

variable {i : SlotIx} {kp : Bool} {source : Option Nat}

theorem ownLineOpen_overBudget (h : OpenFields s slot keep src i kp source) (hb : s.budgetAdmits 2 = false) :
    ownLineOpen false [slot, tag, keep, l3, l2, l1, l0, src, g1, g0, d1, d0] s = .refuse .overBudget := by
  simp only [ownLineOpen, h.slot, h.keep, h.source, hb, if_true]

theorem ownLineOpen_noLine (h : OpenFields s slot keep src i kp source) (hb : s.budgetAdmits 2 = true)
    (hc : s.dmc.chooseRecord = none) :
    ownLineOpen false [slot, tag, keep, l3, l2, l1, l0, src, g1, g0, d1, d0] s = .refuse .noLine := by
  simp only [ownLineOpen, h.slot, h.keep, h.source, hb, hc, Bool.true_eq_false, if_false]

variable {k : LineIx}

theorem ownLineOpen_noMemory (h : OpenFields s slot keep src i kp source) (hb : s.budgetAdmits 2 = true)
    (hc : s.dmc.chooseRecord = some k)
    (hm : s.dmc.unowned < s.dmc.promised + (clampNat 64 1048576 (natOf [l3, l2, l1, l0]) + 4095) / 4096) :
    ownLineOpen false [slot, tag, keep, l3, l2, l1, l0, src, g1, g0, d1, d0] s = .refuse .noMemory := by
  simp only [ownLineOpen, h.slot, h.keep, h.source, hb, hc, Bool.true_eq_false, if_false]
  exact if_pos hm

theorem ownLineOpen_admitted (h : OpenFields s slot keep src i kp source) (hb : s.budgetAdmits 2 = true)
    (hc : s.dmc.chooseRecord = some k)
    (hm : s.dmc.promised + (clampNat 64 1048576 (natOf [l3, l2, l1, l0]) + 4095) / 4096 ≤ s.dmc.unowned) :
    ownLineOpen false [slot, tag, keep, l3, l2, l1, l0, src, g1, g0, d1, d0] s =
      admitLine k (openedLine i tag kp (clampNat 64 1048576 (natOf [l3, l2, l1, l0])) source (signedOf [g1, g0]) (natOf [d1, d0]))
        (decide (clampNat 64 1048576 (natOf [l3, l2, l1, l0]) ≠ natOf [l3, l2, l1, l0])) s := by
  simp only [ownLineOpen, h.slot, h.keep, h.source, hb, hc, Bool.true_eq_false, if_false, clampGain_signedOf_pair,
    clampNat_natOf_pair]
  exact if_neg (Nat.not_lt.mpr hm)

end

/-- Settles O31: the fields in their order, then the admissions in theirs. -/
theorem lineOpenAdmissions : Obligations.LineOpenAdmissions := by
  refine ⟨fun r s slot tag keep l3 l2 l1 l0 src g1 g0 d1 d0 h hp => ?_,
    fun r s slot tag keep l3 l2 l1 l0 src g1 g0 d1 d0 kp h hp hslot hkeep hsrc => ?_⟩ <;>
    have hl : r.payload.length = Kind.lineOpen.payloadLength := by rw [hp]; rfl
  · refine ⟨fun hs => ?_, fun hs hk => ?_, fun hs hk h255 hS => ?_⟩ <;>
      refine congrArg Host.Outcome.next (State.take_refused h hl ?_) <;> rw [hp]
    · simp only [ownLineOpen, index_of_ge hs]
    · simp only [ownLineOpen, index_some (Nat.lt_succ_of_le hs), flagOf_eq_none hk]
    · obtain ⟨b, hb⟩ := flagOf_of_le_one hk
      simp only [ownLineOpen, index_some (Nat.lt_succ_of_le hs), hb, sendSourceOf_bad h255 hS, State.accepted_ec]
  · have fields : OpenFields s.accepted slot keep src ⟨slot.toNat, hslot⟩ kp (if src = 255 then none else some src.toNat) :=
      ⟨index_some hslot, by rw [hkeep, flagOf_flagByte], sendSourceOf_good hsrc⟩
    refine ⟨fun hb => ?_, fun hb => ⟨fun hnone => ?_, fun k hk hm => ?_⟩⟩ <;>
      refine congrArg Host.Outcome.next (State.take_refused h hl ?_) <;> rw [hp]
    · exact ownLineOpen_overBudget fields (decide_eq_false (Nat.not_le.mpr hb))
    · exact ownLineOpen_noLine fields (decide_eq_true hb) (Dmc.chooseRecord_none hnone)
    · obtain ⟨j, hj⟩ := Dmc.chooseRecord_exists hk
      exact ownLineOpen_noMemory fields (decide_eq_true hb) hj hm

/-! ## An admitted line -/

section
variable {s : State} {k : LineIx} {l : Line} {clamped : Bool}

theorem admitLine_active (hw : s.dmc.waitList = []) (hp : l.pageCount ≤ s.dmc.clean.length) :
    admitLine k l clamped s = .done { s with
      ec := { s.ec with budgetUsed := s.ec.budgetUsed + 2 }
      dmc := { s.dmc with
        lines := s.dmc.lines.set k (l.activate (s.dmc.clean.take l.pageCount))
        clean := s.dmc.clean.drop l.pageCount, roundRobin := k + 1 } } (okStatus clamped) [byteOf k] := by
  have own : (updateAt s.dmc.lines k fun _ => l)[k] = l := by rw [updateAt_get, if_pos rfl]
  unfold admitLine
  dsimp only
  rw [if_pos ⟨hw, hp⟩]
  simp only [State.activateLine, State.mapLine, State.charge, updateAt_updateAt, own]
  rfl

theorem admitLine_waiting (h : ¬ (s.dmc.waitList = [] ∧ l.pageCount ≤ s.dmc.clean.length)) :
    admitLine k l clamped s = .done (State.raise (.poolWait k) { s with
      ec := { s.ec with budgetUsed := s.ec.budgetUsed + 2 }
      dmc := { s.dmc with lines := s.dmc.lines.set k l, waitList := s.dmc.waitList ++ [k], roundRobin := k + 1 } })
      (if clamped then .waitingClamped else .waiting) [byteOf k] := if_neg h

end

theorem okStatus_ne (a b : Nat) : okStatus (decide (a ≠ b)) = if a = b then .ok else .okClamped := by
  unfold okStatus; by_cases h : a = b <;> simp [h]

/-- Settles O30: the record is the first FREE one, and admission decides between ACTIVE and WAITING. -/
theorem lineOpenTakesARecord : Obligations.LineOpenTakesARecord := by
  intro r s slot tag keep l3 l2 l1 l0 src g1 g0 d1 d0 i kp n h hp hi hkeep hsrc hb k hfree hfirst asked length P hm opened charged
  have hl : r.payload.length = Kind.lineOpen.payloadLength := by rw [hp]; rfl
  have fields : OpenFields s.accepted slot keep src i kp (if src = 255 then none else some src.toNat) :=
    ⟨index_of_val i hi, by rw [hkeep, flagOf_flagByte], sendSourceOf_good hsrc⟩
  have admitted : ownLineOpen false r.payload s.accepted = admitLine k opened (decide (length ≠ asked)) s.accepted := by
    rw [hp]
    exact ownLineOpen_admitted fields (decide_eq_true hb) (Dmc.chooseRecord_first hfree hfirst) hm
  refine ⟨fun hw hc => ?_, fun hw => ?_⟩
  · refine congrArg Host.Outcome.next (State.take_done h hl ?_ rfl)
    rw [admitted, admitLine_active (s := s.accepted) (l := opened) hw hc, okStatus_ne]
    rfl
  · refine congrArg Host.Outcome.next ?_
    rw [State.take_of_applies ownLineOpen h hl, admitted, admitLine_waiting (s := s.accepted) (l := opened) hw]
    have status : (if decide (length ≠ asked) = true then Status.waitingClamped else Status.waiting) =
        if length = asked then Status.waiting else Status.waitingClamped := by by_cases he : length = asked <;> simp [he]
    rw [status]
    rfl

/-! ## LINE_SET -/

/-- The parts of a LINE_SET by the bits of its mask, written into a line (R53). -/
theorem Line.write_of_mask (S : Nat) (mask src g1 g0 d1 d0 : Byte) (l : Line)
    (h : mask.getLsbD 0 = false ∨ src = 255 ∨ src.toNat < S) :
    l.write
      { source := if mask.getLsbD 0 then sendSourceOf S src else none
        sendTarget := if mask.getLsbD 1 then some (clampGain (signedOf [g1, g0])) else none
        damping := if mask.getLsbD 2 then some (clampNat 0 65535 (natOf [d1, d0])) else none } =
    { l with
      source := if mask.getLsbD 0 then (if src = 255 then none else some src.toNat) else l.source
      sendTarget := if mask.getLsbD 1 then signedOf [g1, g0] else l.sendTarget
      damping := if mask.getLsbD 2 then natOf [d1, d0] else l.damping } := by
  have source : (if mask.getLsbD 0 then sendSourceOf S src else none).getD l.source =
      if mask.getLsbD 0 then (if src = 255 then none else some src.toNat) else l.source := by
    cases hm : mask.getLsbD 0 with
    | false => rfl
    | true => rw [hm] at h; rw [if_pos rfl, if_pos rfl, sendSourceOf_good (h.resolve_left nofun)]; rfl
  have target : (if mask.getLsbD 1 then some (clampGain (signedOf [g1, g0])) else none).getD l.sendTarget =
      if mask.getLsbD 1 then signedOf [g1, g0] else l.sendTarget := by
    rw [clampGain_signedOf_pair]; cases mask.getLsbD 1 <;> simp
  have damping : (if mask.getLsbD 2 then some (clampNat 0 65535 (natOf [d1, d0])) else none).getD l.damping =
      if mask.getLsbD 2 then natOf [d1, d0] else l.damping := by
    rw [clampNat_natOf_pair]; cases mask.getLsbD 2 <;> simp
  simp only [Line.write, source, target, damping]

/-- Settles O32: the index, the state, the source, and the parts by the bits of the mask. -/
theorem lineSetWritesItsParts : Obligations.LineSetWritesItsParts := by
  intro r s line mask src g1 g0 d1 d0 h hp
  have hl : r.payload.length = Kind.lineSet.payloadLength := by rw [hp]; rfl
  refine ⟨fun hline => ?_, fun k hk => ⟨fun hs => ?_, fun hs => ⟨fun hmask h255 hS => ?_, fun hsrc => ?_⟩⟩⟩
  · refine congrArg Host.Outcome.next (State.take_refused h hl ?_)
    rw [hp]
    simp only [ownLineSet, index_of_ge hline]
  · have live : (s.dmc.lines[k]).isLive = false := by rcases hs with hs | hs <;> simp only [Line.isLive, hs] <;> rfl
    refine congrArg Host.Outcome.next (State.take_refused h hl ?_)
    rw [hp]
    simp only [ownLineSet, index_of_val k hk, State.accepted_dmc, live, if_true]
  · have live : (s.dmc.lines[k]).isLive = true := by rcases hs with hs | hs <;> simp only [Line.isLive, hs] <;> rfl
    refine congrArg Host.Outcome.next (State.take_refused h hl ?_)
    rw [hp]
    simp only [ownLineSet, index_of_val k hk, State.accepted_dmc, State.accepted_ec, live, hmask, sendSourceOf_bad h255 hS,
      Bool.true_eq_false, if_false, and_self, if_true]
  · have live : (s.dmc.lines[k]).isLive = true := by rcases hs with hs | hs <;> simp only [Line.isLive, hs] <;> rfl
    have good : ¬ (mask.getLsbD 0 = true ∧ sendSourceOf s.ec.timeSlots src = none) := by
      rintro ⟨hm, hnone⟩
      rw [sendSourceOf_good (hsrc.resolve_left (by rw [hm]; nofun))] at hnone
      cases hnone
    refine congrArg Host.Outcome.next (State.take_done h hl ?_ rfl)
    rw [hp]
    simp only [ownLineSet, index_of_val k hk, State.accepted_dmc, State.accepted_ec, live, good, Bool.true_eq_false,
      Bool.false_eq_true, if_false]
    rw [State.mapLine, updateAt, State.accepted_dmc, Line.write_of_mask _ _ _ _ _ _ _ _ hsrc]
    rfl

end Sys2Proof.Machine
end

section
/-! SUPPORT. LINE_CLOSE by the state of the line (R56 to R60, R86). -/

namespace Sys2Proof.Machine

/-! ## The owner -/

/-- A byte names the record whose index it was written from. -/
theorem index_byteOf {n : Nat} (hn : n ≤ 256) (i : Fin n) : index n (byteOf i).toNat = some i := by
  refine index_of_val i ?_
  rw [byteOf, BitVec.toNat_ofNat, Nat.mod_eq_of_lt (i.isLt.trans_le hn)]

section
variable {s : State} {k : LineIx}

theorem ownLineClose_free (hs : (s.dmc.lines[k]).state = .free) : ownLineClose false [byteOf k] s = .refuse .notLive := by
  simp only [ownLineClose, index_byteOf (by decide) k, hs]

theorem ownLineClose_closing (hs : (s.dmc.lines[k]).state = .closing) : ownLineClose false [byteOf k] s = .done s .ok [] := by
  simp only [ownLineClose, index_byteOf (by decide) k, hs]

theorem ownLineClose_active (hs : (s.dmc.lines[k]).state = .active) :
    ownLineClose false [byteOf k] s = .done (s.closeActive k) .ok [] := by
  simp only [ownLineClose, index_byteOf (by decide) k, hs]

theorem ownLineClose_waiting (hs : (s.dmc.lines[k]).state = .waiting) :
    ownLineClose false [byteOf k] s = .done (s.closeWaiting k) .ok [] := by
  simp only [ownLineClose, index_byteOf (by decide) k, hs]

end

/-- A request that opens or closes lines is not taken by an UNCONFIGURED engine (R163). -/
theorem Applies.configured {k : Kind} {r : Request} {s : State} (h : Applies k r s) (hk : k.movesPages = true) :
    s.ec.engine ≠ .unconfigured := by
  intro he
  have taken := h.2.2
  rw [he, Kind.takenIn_unconfigured k hk] at taken
  cases taken

/-! ## The closes that are due -/

theorem Line.closeIsDone_iff (l : Line) : l.closeIsDone = true ↔ l.state = .closing ∧ l.refs = 0 := by simp [Line.closeIsDone]

theorem State.completeCloses_of_none {s : State} (h : ∀ j : LineIx, (s.dmc.lines[j]).closeIsDone = false) :
    s.completeCloses = s.startScrub := by
  rw [State.completeCloses_eq, List.filter_eq_nil_iff.mpr fun j _ => by rw [h j]; exact Bool.false_ne_true]
  rfl

theorem State.completeCloses_of_one {s : State} {k : LineIx} (h : ∀ j : LineIx, (s.dmc.lines[j]).closeIsDone = decide (j = k)) :
    s.completeCloses = (s.closeLine k).startScrub := by
  have own : ((List.finRange 64).filter fun j : LineIx => decide (j = k)) = [k] := by
    refine (List.filter_beq k).trans ?_
    rw [List.count_eq_one_of_mem (List.nodup_finRange 64) (List.mem_finRange k)]
    rfl
  simp only [State.completeCloses_eq, h, own]
  rfl

theorem State.startScrub_of_busy {s : State} {p : Page} (hs : s.dmc.scrubber = some p) : s.startScrub = s := by
  unfold State.startScrub
  rw [hs]

/-- An IDLE scrubber takes the first dirty page (R27). -/
def Dmc.nextClear (d : Dmc) : Dmc :=
  match d.scrubber, d.dirty with
  | none, p :: rest => { d with scrubber := some p, dirty := rest }
  | _, _ => d

theorem State.startScrub_nextClear {s : State} (he : s.ec.engine ≠ .unconfigured) : s.startScrub = { s with dmc := s.dmc.nextClear } := by
  cases hs : s.dmc.scrubber with
  | some p =>
    rw [State.startScrub_of_busy hs, Dmc.nextClear, hs]
  | none =>
    cases hd : s.dmc.dirty with
    | nil => rw [State.startScrub_of_clean hd, Dmc.nextClear, hs, hd]
    | cons p rest => rw [State.startScrub_of_dirty hs hd he, Dmc.nextClear, hs, hd]

/-- Of the closes that an ACTIVE line begins, its own alone can be due. -/
theorem State.beginClose_closeIsDone {s : State} {k : LineIx}
    (h : ∀ j : LineIx, ¬ ((s.dmc.lines[j]).state = .closing ∧ (s.dmc.lines[j]).refs = 0)) (j : LineIx) :
    ((s.beginClose k).dmc.lines[j]).closeIsDone = (decide (j = k) && decide ((s.dmc.lines[k]).refs = 0)) := by
  rw [State.beginClose_dmc, updateAt_get]
  by_cases hj : k = j
  · subst hj; simp [Line.closeIsDone]
  · rw [if_neg hj, decide_eq_false (Ne.symm hj), Bool.false_and]
    exact decide_eq_false (h j)

/-- A tap that is released when it references the line (R57). -/
theorem Tap.release_of_references (k : LineIx) (t : Tap) :
    (if t.references k then t.release else t) =
      if (t.source = k ∨ t.dest = .line k) ∧ t.state = .live then { t with state := .releasing, gainTarget := 0 } else t := by
  by_cases hr : t.source = k ∨ t.dest = .line k <;> by_cases hs : t.state = .live <;>
    simp [Tap.references, Tap.release, hr, hs]

/-- Settles O33: the state decides; an ACTIVE line becomes CLOSING, and FREE at once when nothing references it. -/
theorem lineCloseByState : Obligations.LineCloseByState := by
  refine ⟨fun r s v h hp hv => ?_, fun r s k h hp hnone => ?_⟩
  · refine congrArg Host.Outcome.next (State.take_refused h (by rw [hp]; rfl) ?_)
    rw [hp, ownLineClose, index_of_ge hv]
  intro l released scrubbed
  have hl : r.payload.length = Kind.lineClose.payloadLength := by rw [hp]; rfl
  have engine : s.accepted.ec.engine ≠ .unconfigured := h.configured rfl
  have taps : (s.accepted.beginClose k).taps = mapIx (fun _ t => released t) s.taps := by
    rw [State.beginClose_taps, State.releaseTapsOf_taps]
    simp only [Tap.release_of_references]
    rfl
  have scrub (lines : Vector Line 64) (dirty : List Page) :
      Dmc.nextClear { s.dmc with lines := lines, dirty := dirty } = scrubbed lines dirty := by
    show _ = (match s.dmc.scrubber, dirty with
      | none, p :: rest => ({ s.dmc with lines := lines, scrubber := some p, dirty := rest } : Dmc)
      | _, _ => { s.dmc with lines := lines, dirty := dirty })
    unfold Dmc.nextClear
    cases s.dmc.scrubber <;> cases dirty <;> rfl
  have begun (j : LineIx) := State.beginClose_closeIsDone (s := s.accepted) (k := k) hnone j
  refine ⟨fun hs => ?_, fun hs => ?_, fun hs hrefs => ?_, fun hs hrefs => ?_⟩
  · exact congrArg Host.Outcome.next (State.take_refused h hl (by rw [hp]; exact ownLineClose_free hs))
  · exact congrArg Host.Outcome.next (State.take_done h hl (by rw [hp]; exact ownLineClose_closing hs) rfl)
  · have closed : s.accepted.closeActive k = { s.accepted with
        taps := mapIx (fun _ t => released t) s.taps
        dmc := scrubbed (s.dmc.lines.set k { l with state := .closing }) s.dmc.dirty } := by
      have none (j : LineIx) : ((s.accepted.beginClose k).dmc.lines[j]).closeIsDone = false := by
        rw [begun j, decide_eq_false (p := (s.accepted.dmc.lines[k]).refs = 0) hrefs, Bool.and_false]
      rw [State.closeActive, State.completeCloses_of_none none,
        State.startScrub_nextClear (s := s.accepted.beginClose k) engine, ← taps, ← scrub]
      rfl
    refine congrArg Host.Outcome.next (State.take_done h hl ?_ rfl)
    rw [hp, ← closed]
    exact ownLineClose_active hs
  · have closed : s.accepted.closeActive k = State.note (fun w => { w with lineLeft := w.lineLeft.set k true }) { s.accepted with
        taps := mapIx (fun _ t => released t) s.taps
        ec := { s.ec with budgetUsed := s.ec.budgetUsed - 2 }
        dmc := scrubbed (s.dmc.lines.set k Line.freeValue) (s.dmc.dirty ++ l.pages) } := by
      have one (j : LineIx) : ((s.accepted.beginClose k).dmc.lines[j]).closeIsDone = decide (j = k) := by
        rw [begun j, decide_eq_true (p := (s.accepted.dmc.lines[k]).refs = 0) hrefs, Bool.and_true]
      have freed : ((s.accepted.beginClose k).closeLine k).dmc =
          { s.dmc with lines := s.dmc.lines.set k Line.freeValue, dirty := s.dmc.dirty ++ l.pages } := by
        have pages : ((s.accepted.beginClose k).dmc.lines[k]).pages = l.pages := by
          rw [State.beginClose_dmc, updateAt_get, if_pos rfl]; rfl
        simp only [State.closeLine, State.freeLine_dmc, pages]
        simp only [State.beginClose_dmc, updateAt_updateAt]
        rfl
      rw [State.closeActive, State.completeCloses_of_one one,
        State.startScrub_nextClear (s := (s.accepted.beginClose k).closeLine k) engine, freed, scrub, ← taps]
      rfl
    refine congrArg Host.Outcome.next (State.take_done h hl ?_ rfl)
    rw [hp, ← closed]
    exact ownLineClose_active hs

end Sys2Proof.Machine
end

section
/-! SUPPORT. Closing a WAITING line (R58, R86) and the three group closes (R57 to R63, R149, R151). -/

namespace Sys2Proof.Machine

/-! ## A WAITING line -/

theorem Tap.usesAny_iff (k : LineIx) (t : Tap) :
    t.usesAny [k] = true ↔ t.state ≠ .unused ∧ (t.source = k ∨ t.dest = .line k) := by
  rw [Tap.usesAny_singleton, Bool.and_eq_true, Tap.takesPart_iff, Tap.references_iff]

/-- After the drop of a line no other close is due if no line is CLOSING. -/
theorem State.dropWaiting_closeIsDone {s : State} {k : LineIx} (h : ∀ j : LineIx, (s.dmc.lines[j]).state ≠ .closing) (j : LineIx) :
    ((s.dropWaiting k).dmc.lines[j]).closeIsDone = false := by
  rw [State.dropWaiting_line, Bool.eq_false_iff, Ne, Line.closeIsDone_iff]
  split
  · nofun
  · exact fun hc => h j hc.1

/-- A line outside the wait list is left alone by the completion of closes and the service, unless its own close completes. -/
theorem State.closedAndServed_line (s : State) {j : LineIx} (hj : j ∉ s.dmc.waitList) :
    (s.completeCloses.serveWaitList).dmc.lines[j] = if (s.dmc.lines[j]).closeIsDone then Line.freeValue else s.dmc.lines[j] := by
  obtain ⟨-, hwait, -⟩ := s.completeCloses_rest
  rw [State.serveWaitList, (serveUpTo_line _ _).1 j (by rw [hwait]; exact hj), State.completeCloses_line]

theorem State.closedAndServed_waits (s : State) {i : LineIx} (hi : i ∈ (s.completeCloses.serveWaitList).dmc.waitList) :
    i ∈ s.dmc.waitList := by
  obtain ⟨-, hwait, -⟩ := s.completeCloses_rest
  rw [State.serveWaitList] at hi
  exact hwait ▸ (serveUpTo_line _ _).2.1 i hi

/-- Settles O34: the line is dropped with its taps; no close is due; the service reaches lines of the wait list alone. -/
theorem waitingLineCloses : Obligations.WaitingLineCloses := by
  intro r s k h hp hk hnone
  have hl : r.payload.length = Kind.lineClose.payloadLength := by rw [hp]; rfl
  have undue (j : LineIx) := State.dropWaiting_closeIsDone (s := s.accepted) (k := k) hnone j
  obtain ⟨-, -, -, -, hwait, -⟩ := s.accepted.dropWaiting_places k
  have line (j : LineIx) (hj : j ∉ (s.accepted.dropWaiting k).dmc.waitList) :
      (s.accepted.closeWaiting k).dmc.lines[j] = (s.accepted.dropWaiting k).dmc.lines[j] := by
    rw [State.closeWaiting, State.closedAndServed_line _ hj, undue j]; rfl
  refine ⟨s.accepted.closeWaiting k, ?_, ?_, ?_, fun j => ?_, ?_, fun j hjk hj => ?_, by simp, by simp, by simp, by simp, by simp⟩
  · refine congrArg Host.Outcome.next ?_
    rw [State.take_of_applies ownLineClose h hl, hp, ownLineClose_waiting (s := s.accepted) hk]
    rfl
  · rw [line k (by rw [hwait]; simp), State.dropWaiting_line, if_pos rfl]
  · intro hm
    rw [State.closeWaiting] at hm
    have waits := State.closedAndServed_waits _ hm
    rw [hwait] at waits
    simp at waits
  · have taps : (s.accepted.closeWaiting k).taps = (s.accepted.dropWaiting k).taps := by simp [State.closeWaiting]
    rw [taps, State.dropWaiting_tap]
    simp only [Tap.usesAny_iff, State.accepted_taps]
  · have ec : (s.accepted.closeWaiting k).ec = (s.accepted.dropWaiting k).completeCloses.ec := by simp [State.closeWaiting]
    have users : s.accepted.usersOf [k] = (List.finRange 256).filter fun j : TapIx => decide
        ((s.taps[j]).state ≠ .unused ∧ ((s.taps[j]).source = k ∨ (s.taps[j]).dest = .line k)) :=
      List.filter_congr fun j _ => by rw [Bool.eq_iff_iff, decide_eq_true_iff]; exact Tap.usesAny_iff k _
    rw [ec, State.completeCloses_ec, List.filter_eq_nil_iff.mpr fun j _ => by rw [undue j]; exact Bool.false_ne_true,
      State.dropWaiting_ec, users]
    show s.ec.budgetUsed - _ - 2 - 2 * 0 = _
    omega
  · rw [line j (by rw [hwait]; exact fun hm => hj (List.mem_of_mem_filter hm)), State.dropWaiting_line, if_neg (Ne.symm hjk)]
    exact ⟨rfl, rfl⟩

end Sys2Proof.Machine
end

section
/-! SUPPORT. The three group closes (R57 to R63, R149, R151): the part after its group close, record by record. -/

namespace Sys2Proof.Machine

/-! ## The set -/

/-- Whether a line of the set is WAITING, and whether it is ACTIVE (R61). -/
def State.waitsIn (p : Line → Bool) (s : State) (j : LineIx) : Bool := p s.dmc.lines[j] && decide ((s.dmc.lines[j]).state = .waiting)

def State.actsIn (p : Line → Bool) (s : State) (j : LineIx) : Bool := p s.dmc.lines[j] && decide ((s.dmc.lines[j]).state = .active)

/-- Whether a tap names a line that meets a condition. -/
def Tap.touches (q : LineIx → Bool) (t : Tap) : Bool :=
  q t.source || match t.dest with
    | .line j => q j
    | .bus _ => false

theorem Tap.any_references (q : LineIx → Bool) (t : Tap) :
    ((List.finRange 64).filter q).any (fun k => t.references k) = t.touches q := by
  rw [Bool.eq_iff_iff, List.any_eq_true]
  unfold Tap.touches
  cases hd : t.dest <;> simp [Tap.references, hd, and_or_left, exists_or]

section
variable (p : Line → Bool) (s : State)

/-- The taps that a group close removes (R58, R86). -/
def State.removesTap (t : Tap) : Bool := t.takesPart && t.touches (s.waitsIn p)

theorem State.usesAny_waitingOf (t : Tap) : t.usesAny (s.waitingOf p) = s.removesTap p t := by
  rw [Tap.usesAny, State.waitingOf_eq, Tap.any_references]; rfl

/-- What is left of the reference count of a line once those taps are gone. -/
def State.refsLeft (j : LineIx) : Nat :=
  (s.dmc.lines[j]).refs - (s.taps.toList.filter fun t => s.removesTap p t && decide (t.source = j ∨ t.dest = .line j)).length

theorem length_filter_toList {α : Type} {n : Nat} (q : α → Bool) (v : Vector α n) :
    (v.toList.filter q).length = ((List.finRange n).filter fun i : Fin n => q v[i]).length := by
  rw [toList_eq_map_finRange, List.filter_map, List.length_map]
  rfl

theorem State.lower_lostRefs (j : LineIx) :
    (s.dmc.lines[j]).lower (s.lostRefs (s.waitingOf p) j) = { s.dmc.lines[j] with refs := s.refsLeft p j } := by
  rw [State.refsLeft, length_filter_toList]
  simp only [Line.lower, State.lostRefs, State.usesAny_waitingOf]
  rfl

/-- Whether a line becomes FREE as its close completes (R60, R61). -/
def State.completesIn (j : LineIx) : Bool :=
  (s.actsIn p j || decide ((s.dmc.lines[j]).state = .closing)) && decide (s.refsLeft p j = 0)

/-- A WAITING line is neither ACTIVE nor due to become FREE by its close. -/
theorem State.not_actsIn_of_waitsIn {j : LineIx} (h : s.waitsIn p j = true) : s.actsIn p j = false ∧ s.completesIn p j = false := by
  have hs : (s.dmc.lines[j]).state = .waiting := by
    rw [State.waitsIn, Bool.and_eq_true, decide_eq_true_iff] at h
    exact h.2
  have idle : s.actsIn p j = false := by rw [State.actsIn, hs]; exact Bool.and_false _
  exact ⟨idle, by rw [State.completesIn, idle, hs]; rfl⟩

/-! ## Up to the completion of closes -/

/-- The WAITING lines of the set are dropped and the ACTIVE ones are CLOSING. -/
def State.groupBegun : State := (s.dropAll (s.waitingOf p)).closeAll (s.activeOf p)

theorem State.groupClose_begun : s.groupClose p = ((s.groupBegun p).completeCloses).serveWaitList := rfl

theorem State.groupBegun_line (j : LineIx) :
    (s.groupBegun p).dmc.lines[j] =
      if s.waitsIn p j then Line.freeValue
      else if s.actsIn p j then { s.dmc.lines[j] with state := .closing, refs := s.refsLeft p j }
      else { s.dmc.lines[j] with refs := s.refsLeft p j } := by
  have waits : j ∈ s.waitingOf p ↔ s.waitsIn p j = true := by
    rw [State.mem_waitingOf, State.waitsIn, Bool.and_eq_true, decide_eq_true_iff]
  have acts : j ∈ s.activeOf p ↔ s.actsIn p j = true := by
    rw [State.mem_activeOf, State.actsIn, Bool.and_eq_true, decide_eq_true_iff]
  rw [State.groupBegun, State.closeAll_line, State.dropAll_line]
  by_cases hw : s.waitsIn p j = true
  · rw [if_neg (by rw [acts, (s.not_actsIn_of_waitsIn p hw).1]; nofun), if_pos (waits.mpr hw), if_pos hw]
  · rw [if_neg (mt waits.mp hw), if_neg hw, State.lower_lostRefs]
    exact if_congr acts rfl rfl

theorem State.groupBegun_tap (j : TapIx) :
    (s.groupBegun p).taps[j] =
      if s.removesTap p s.taps[j] then Tap.freeValue
      else if (s.taps[j]).touches (s.actsIn p) then (s.taps[j]).release else s.taps[j] := by
  have any (t : Tap) : ((s.activeOf p).any fun k => t.references k) = t.touches (s.actsIn p) := by
    rw [State.activeOf_eq, Tap.any_references]; rfl
  rw [State.groupBegun, State.closeAll_tap, State.dropAll_tap, State.usesAny_waitingOf]
  simp only [any]
  split
  · split <;> rfl
  · rfl

theorem State.groupBegun_ec :
    (s.groupBegun p).ec = { s.ec with budgetUsed :=
      s.ec.budgetUsed - 4 * (s.taps.toList.filter (s.removesTap p)).length - 2 * ((List.finRange 64).filter (s.waitsIn p)).length } := by
  have users : (s.usersOf (s.waitingOf p)).length = (s.taps.toList.filter (s.removesTap p)).length := by
    rw [length_filter_toList]
    simp only [State.usersOf, State.usesAny_waitingOf]
  have waits : s.waitingOf p = (List.finRange 64).filter (s.waitsIn p) := s.waitingOf_eq p
  rw [State.groupBegun, (State.closeAll_rest _ _).1, State.dropAll_ec, users, waits]

theorem State.groupBegun_places :
    (s.groupBegun p).dmc.dirty = s.dmc.dirty ∧ (s.groupBegun p).dmc.scrubber = s.dmc.scrubber ∧
      (∀ j ∈ (s.groupBegun p).dmc.waitList, j ∈ s.dmc.waitList ∧ s.waitsIn p j = false) ∧
      (s.groupBegun p).dmc.roundRobin = s.dmc.roundRobin := by
  obtain ⟨-, -, -, hdirty, hscrub, hwait, hround⟩ := (s.dropAll (s.waitingOf p)).closeAll_rest (s.activeOf p)
  obtain ⟨-, -, kdirty, kscrub, kwait, kround⟩ := s.dropAll_places (s.waitingOf p)
  refine ⟨hdirty.trans kdirty, hscrub.trans kscrub, fun j hj => ?_, hround.trans kround⟩
  rw [State.groupBegun, hwait, kwait, List.mem_filter, decide_eq_true_iff, State.mem_waitingOf] at hj
  refine ⟨hj.1, Bool.eq_false_iff.mpr fun hw => hj.2 ?_⟩
  rw [State.waitsIn, Bool.and_eq_true, decide_eq_true_iff] at hw
  exact hw

/-- The closes that are due then (R60). -/
theorem State.groupBegun_closeIsDone (j : LineIx) : ((s.groupBegun p).dmc.lines[j]).closeIsDone = s.completesIn p j := by
  rw [State.groupBegun_line]
  cases hw : s.waitsIn p j with
  | true => rw [(s.not_actsIn_of_waitsIn p hw).2]; rfl
  | false =>
    rw [State.completesIn]
    cases s.actsIn p j with
    | true => simp [Line.closeIsDone]
    | false => simp [Line.closeIsDone, Bool.decide_and]

/-! ## The group close -/

theorem State.groupClose_line {j : LineIx} (hj : j ∉ s.dmc.waitList ∨ s.waitsIn p j = true) :
    (s.groupClose p).dmc.lines[j] = if s.completesIn p j then Line.freeValue else (s.groupBegun p).dmc.lines[j] := by
  obtain ⟨-, -, hwait, -⟩ := s.groupBegun_places p
  have outside : j ∉ (s.groupBegun p).dmc.waitList := by
    intro hm
    obtain ⟨hin, hw⟩ := hwait j hm
    rcases hj with hj | hj
    · exact hj hin
    · exact nomatch hw.symm.trans hj
  rw [State.groupClose_begun, State.closedAndServed_line _ outside, State.groupBegun_closeIsDone]

theorem State.groupClose_line_waiting {j : LineIx} (hj : s.waitsIn p j = true) : (s.groupClose p).dmc.lines[j] = Line.freeValue := by
  rw [State.groupClose_line p s (.inr hj), State.groupBegun_line, if_pos hj]
  exact ite_self _

/-- A line that is CLOSING in the end becomes FREE if no reference is left (R59, R60). -/
theorem State.groupClose_line_closing {j : LineIx} (hj : s.actsIn p j = true ∨ (s.dmc.lines[j]).state = .closing)
    (hw : j ∉ s.dmc.waitList) : (s.groupClose p).dmc.lines[j] =
      if s.completesIn p j then Line.freeValue else { s.dmc.lines[j] with state := .closing, refs := s.refsLeft p j } := by
  have idle : s.waitsIn p j ≠ true := by
    intro h
    rcases hj with hj | hj
    · exact nomatch (s.not_actsIn_of_waitsIn p h).1.symm.trans hj
    · rw [State.waitsIn, hj] at h
      exact nomatch ((Bool.and_eq_true _ _).mp h).2
  rw [State.groupClose_line p s (.inl hw), State.groupBegun_line, if_neg idle]
  by_cases ha : s.actsIn p j = true
  · rw [if_pos ha]
  · rw [if_neg ha, ← hj.resolve_left ha]

/-- An ACTIVE line outside the set and a FREE line lose references alone (R61). -/
theorem State.groupClose_line_kept {j : LineIx}
    (hj : p s.dmc.lines[j] = false ∧ (s.dmc.lines[j]).state = .active ∨ (s.dmc.lines[j]).state = .free) (hw : j ∉ s.dmc.waitList) :
    (s.groupClose p).dmc.lines[j] = { s.dmc.lines[j] with refs := s.refsLeft p j } := by
  have kept : s.waitsIn p j = false ∧ s.actsIn p j = false ∧ (s.dmc.lines[j]).state ≠ .closing := by
    rcases hj with ⟨hp, hs⟩ | hs
    · rw [State.waitsIn, State.actsIn, hp, hs]; exact ⟨rfl, rfl, nofun⟩
    · rw [State.waitsIn, State.actsIn, hs]; exact ⟨Bool.and_false _, Bool.and_false _, nofun⟩
  obtain ⟨idle, still, notClosing⟩ := kept
  have undone : s.completesIn p j = false := by rw [State.completesIn, still, decide_eq_false notClosing]; rfl
  rw [State.groupClose_line p s (.inl hw), State.groupBegun_line, undone, idle, still]
  rfl

theorem State.groupClose_taps : (s.groupClose p).taps = (s.groupBegun p).taps := by simp [State.groupClose_begun]

theorem State.groupClose_ec :
    (s.groupClose p).ec = { s.ec with budgetUsed :=
      s.ec.budgetUsed - 2 * ((List.finRange 64).filter (s.waitsIn p)).length - 4 * (s.taps.toList.filter (s.removesTap p)).length
        - 2 * ((List.finRange 64).filter (s.completesIn p)).length } := by
  have served : (s.groupClose p).ec = (s.groupBegun p).completeCloses.ec := by simp [State.groupClose_begun]
  rw [served, State.completeCloses_ec, State.groupBegun_ec]
  simp only [State.groupBegun_closeIsDone]
  rw [Nat.sub_right_comm s.ec.budgetUsed]

/-- The pages of the lines that become FREE join the dirty queue in ascending order of line index (R61). -/
theorem State.groupClose_queue :
    ((s.groupClose p).dmc.scrubber, (s.groupClose p).dmc.dirty) = s.ec.engine.nextClear s.dmc.scrubber
      (s.dmc.dirty ++ ((List.finRange 64).filter (s.completesIn p)).flatMap fun j => (s.dmc.lines[j]).pages) := by
  obtain ⟨hdirty, hscrub, -, -⟩ := s.groupBegun_places p
  have served := serveUpTo_dirty ((s.groupBegun p).completeCloses).dmc.waitList.length (s.groupBegun p).completeCloses
  have pages : (((List.finRange 64).filter (s.completesIn p)).flatMap fun j => ((s.groupBegun p).dmc.lines[j]).pages) =
      ((List.finRange 64).filter (s.completesIn p)).flatMap fun j => (s.dmc.lines[j]).pages := by
    refine List.flatMap_congr fun j hj => ?_
    have done := (List.mem_filter.mp hj).2
    rw [State.groupBegun_line, if_neg]
    · split <;> rfl
    · exact fun hw => nomatch (s.not_actsIn_of_waitsIn p hw).2.symm.trans done
  have engine : (s.groupBegun p).ec.engine = s.ec.engine := by rw [State.groupBegun_ec]
  rw [State.groupClose_begun, State.serveWaitList, served.1, served.2, State.completeCloses_queue, hdirty, hscrub, engine]
  simp only [State.groupBegun_closeIsDone, pages]

theorem State.groupClose_roundRobin : (s.groupClose p).dmc.roundRobin = s.dmc.roundRobin := by
  rw [State.groupClose_begun, State.serveWaitList, (serveUpTo_line _ _).2.2, (State.completeCloses_rest _).2.2]
  exact (s.groupBegun_places p).2.2.2

/-- The lines that the reply counts (R61). -/
theorem State.closedBy_eq : s.closedBy p = (List.finRange 64).filter fun j => s.waitsIn p j || s.actsIn p j := by
  refine List.filter_congr fun j _ => ?_
  unfold State.waitsIn State.actsIn
  cases p s.dmc.lines[j] <;> cases (s.dmc.lines[j]).state <;> rfl

end

end Sys2Proof.Machine
end

section
/-! SUPPORT. The three group closes as requests (R61 to R63, R149, R151). -/

namespace Sys2Proof.Machine

/-! ## The requests -/

/-- The pool after a group close, with the round-robin pointer given: LINE_RELEASE_ALL sets it to 0 (R63). -/
def State.pointTo (x : LineIx) (s : State) : State := { s with dmc := { s.dmc with roundRobin := x } }

section
variable (x : LineIx) (s : State)

@[simp] theorem State.pointTo_ec : (s.pointTo x).ec = s.ec := rfl

@[simp] theorem State.pointTo_taps : (s.pointTo x).taps = s.taps := rfl

@[simp] theorem State.pointTo_lines : (s.pointTo x).dmc.lines = s.dmc.lines := rfl

@[simp] theorem State.pointTo_dirty : (s.pointTo x).dmc.dirty = s.dmc.dirty := rfl

@[simp] theorem State.pointTo_scrubber : (s.pointTo x).dmc.scrubber = s.dmc.scrubber := rfl

@[simp] theorem State.pointTo_rest : (s.pointTo x).dmc.memory = s.dmc.memory ∧ (s.pointTo x).port = s.port ∧
    (s.pointTo x).mu = s.mu ∧ (s.pointTo x).sru = s.sru ∧ (s.pointTo x).pending = s.pending := ⟨rfl, rfl, rfl, rfl, rfl⟩

end

theorem State.pointTo_self (s : State) : s.pointTo s.dmc.roundRobin = s := rfl

/-- A LIVE tap that names a line that closes is released (R57). -/
theorem Tap.release_of_touches (q : LineIx → Bool) (t : Tap) :
    (if t.touches q then t.release else t) =
      if decide (t.state = .live) && t.touches q then { t with state := .releasing, gainTarget := 0 } else t := by
  unfold Tap.release
  by_cases hs : t.state = .live <;> cases t.touches q <;> simp [hs]

section
variable {r : Request} {s : State} {tag : Byte} {i : SlotIx}

theorem exec_lineReleaseTag (h : Applies .lineReleaseTag r s) (hp : r.payload = [tag]) :
    exec (.lineReleaseTag r) s = .next (s.repliedFrom .lineReleaseTag r .ok
      [byteOf (s.accepted.closedBy (Line.releasedByTag tag)).length] (s.accepted.groupClose (Line.releasedByTag tag))) := by
  refine congrArg Host.Outcome.next ?_
  rw [State.take_of_applies ownLineReleaseTag h (by rw [hp]; rfl), hp]
  rfl

theorem exec_lineReleaseAll (h : Applies .lineReleaseAll r s) (hp : r.payload = []) :
    exec (.lineReleaseAll r) s = .next (s.repliedFrom .lineReleaseAll r .ok
      [byteOf (s.accepted.closedBy Line.isNotFree).length] ((s.accepted.groupClose Line.isNotFree).pointTo 0)) := by
  refine congrArg Host.Outcome.next ?_
  rw [State.take_of_applies ownLineReleaseAll h (by rw [hp]; rfl), hp]
  rfl

theorem exec_slotClear (h : Applies .slotClear r s) (hp : r.payload = [byteOf i]) :
    exec (.slotClear r) s = .next (s.repliedFrom .slotClear r .ok
      [byteOf (s.accepted.closedBy (Line.ofSlot i)).length] (s.accepted.groupClose (Line.ofSlot i))) := by
  have own : ownSlotClear false [byteOf i] s.accepted = .done (s.accepted.groupClose (Line.ofSlot i)) .ok
      [byteOf (s.accepted.closedBy (Line.ofSlot i)).length] := by
    simp only [ownSlotClear, index_byteOf (by decide) i]
  refine congrArg Host.Outcome.next ?_
  rw [State.take_of_applies ownSlotClear h (by rw [hp]; rfl), hp, own]
  rfl

end

/-- Each of the three requests closes its set as a group (R61 to R63, R151). -/
theorem exec_groupClose {r : Request} {s : State} {k : Kind} {set : Line → Bool} (h : Applies k r s)
    (hk : (∃ tag, k = .lineReleaseTag ∧ r.payload = [tag] ∧
        ∀ l : Line, set l = true ↔ l.state ≠ .free ∧ l.tag = tag ∧ l.keep = false) ∨
      (k = .lineReleaseAll ∧ r.payload = [] ∧ ∀ l : Line, set l = true ↔ l.state ≠ .free) ∨
      (∃ i : SlotIx, k = .slotClear ∧ r.payload = [byteOf i] ∧ ∀ l : Line, set l = true ↔ l.state ≠ .free ∧ l.slot = i)) :
    k.movesPages = true ∧ ∃ x, (k = .lineReleaseAll → x = 0) ∧ (k ≠ .lineReleaseAll → x = s.dmc.roundRobin) ∧
      exec (commandOf k r) s = .next (s.repliedFrom k r .ok [byteOf (s.accepted.closedBy set).length]
        ((s.accepted.groupClose set).pointTo x)) := by
  have kept : (s.accepted.groupClose set).pointTo s.dmc.roundRobin = s.accepted.groupClose set := by
    have round : (s.accepted.groupClose set).dmc.roundRobin = s.dmc.roundRobin := s.accepted.groupClose_roundRobin set
    rw [← round]
    exact State.pointTo_self _
  obtain ⟨tag, rfl, hp, hset⟩ | ⟨rfl, hp, hset⟩ | ⟨i, rfl, hp, hset⟩ := hk
  · obtain rfl : set = Line.releasedByTag tag := by
      funext l
      rw [Bool.eq_iff_iff, hset]
      simp [Line.releasedByTag, and_assoc]
    exact ⟨rfl, s.dmc.roundRobin, nofun, fun _ => rfl, by rw [kept]; exact exec_lineReleaseTag h hp⟩
  · obtain rfl : set = Line.isNotFree := by
      funext l
      rw [Bool.eq_iff_iff, hset, Line.isNotFree_iff]
    exact ⟨rfl, 0, fun _ => rfl, fun hn => absurd rfl hn, exec_lineReleaseAll h hp⟩
  · obtain rfl : set = Line.ofSlot i := by
      funext l
      rw [Bool.eq_iff_iff, hset]
      simp [Line.ofSlot]
    exact ⟨rfl, s.dmc.roundRobin, nofun, fun _ => rfl, by rw [kept]; exact exec_slotClear h hp⟩

/-- Settles O35: the set is closed as a group, and each record of the part is read off the state after it. -/
theorem groupClosesCloseTheirSet : Obligations.GroupClosesCloseTheirSet := by
  refine ⟨fun r s v h hp hv => ?_, fun r s k set hk h => ?_⟩
  · refine congrArg Host.Outcome.next (State.take_refused h (by rw [hp]; rfl) ?_)
    rw [hp, ownSlotClear, index_of_ge hv]
  intro waits acts removed released refs completes count dirty
  obtain ⟨hmoves, x, hall, hother, hexec⟩ := exec_groupClose h hk
  have engine : s.accepted.ec.engine ≠ .unconfigured := h.configured hmoves
  have removes (t : Tap) : s.accepted.removesTap set t = removed t := by
    show _ = (decide (t.state ≠ .unused) && (waits t.source || match t.dest with | .line j => waits j | .bus _ => false))
    rw [State.removesTap, Tap.takesPart_eq, Tap.touches]
    cases t.dest <;> rfl
  have left (j : LineIx) : s.accepted.refsLeft set j = refs j := by
    simp only [State.refsLeft, removes]
    rfl
  have completing (j : LineIx) : s.accepted.completesIn set j = completes j := by
    rw [State.completesIn, left]; rfl
  have releases (t : Tap) : (decide (t.state = .live) && t.touches (s.accepted.actsIn set)) = released t := by
    show _ = (decide (t.state = .live) && (acts t.source || match t.dest with | .line j => acts j | .bus _ => false))
    rw [Tap.touches]
    cases t.dest <;> rfl
  have next (q : Option Page) (d : List Page) : s.accepted.ec.engine.nextClear q d = match q, d with
      | none, p :: rest => (some p, rest)
      | q, d => (q, d) := by
    unfold EngineState.nextClear
    cases q <;> cases d <;> simp only [engine, if_false]
  refine ⟨(s.accepted.groupClose set).pointTo x, ?_, fun j => ?_, ?_, ?_, fun j hj => ?_, fun j hj hw => ?_, fun j hj hw => ?_,
    hall, hother, ?_⟩
  · rw [hexec, State.closedBy_eq]; rfl
  · rw [State.pointTo_taps, State.groupClose_taps, State.groupBegun_tap, Tap.release_of_touches, removes, releases]
    rfl
  · rw [State.pointTo_ec, State.groupClose_ec, funext removes, funext completing]
    rfl
  · rw [State.pointTo_scrubber, State.pointTo_dirty, State.groupClose_queue, next, funext completing]
    rfl
  · rw [State.pointTo_lines, State.groupClose_line_waiting set s.accepted hj]
  · rw [State.pointTo_lines, State.groupClose_line_closing set s.accepted hj hw, completing, left]
    rfl
  · rw [State.pointTo_lines, State.groupClose_line_kept set s.accepted hj hw, left]
    rfl
  · simp

end Sys2Proof.Machine
end

section
/-! SUPPORT. The tap requests TAP_FREE, TAP_CREATE and TAP_SET (R70 to R79, R83): the fields of their payloads, and TAP_FREE. -/

namespace Sys2Proof.Machine

/-! ## The fields of a payload -/

theorem byte_ne_zero_one {v : Byte} (h : 1 < v.toNat) : v ≠ 0 ∧ v ≠ 1 :=
  ⟨by rintro rfl; exact absurd h (by decide), by rintro rfl; exact absurd h (by decide)⟩

theorem byte_eq_zero_or_one {v : Byte} (h : v.toNat ≤ 1) : v = 0 ∨ v = 1 :=
  (Nat.le_one_iff_eq_zero_or_eq_one.mp h).imp (BitVec.eq_of_toNat_eq (y := 0)) (BitVec.eq_of_toNat_eq (y := 1))

/-- A destination is read back from its kind and index (R70, R178). -/
theorem destOf_bytes {kind ix : Byte} {d : Dest} (h : [kind, ix] = d.bytes) : destOf kind ix = .ok d := by
  cases d with
  | bus b =>
    obtain ⟨rfl, rfl⟩ : kind = 0 ∧ ix = byteOf b := by simpa [Dest.bytes] using h
    rw [destOf, if_pos rfl, index_byteOf (by decide) b]
    rfl
  | line k =>
    obtain ⟨rfl, rfl⟩ : kind = 1 ∧ ix = byteOf k := by simpa [Dest.bytes] using h
    rw [destOf, if_neg (by decide), if_pos rfl, index_byteOf (by decide) k]
    rfl

theorem destOf_badKind {kind ix : Byte} (h : 1 < kind.toNat) : destOf kind ix = .error .badValue := by
  rw [destOf, if_neg (byte_ne_zero_one h).1, if_neg (byte_ne_zero_one h).2]

theorem destOf_badIndex {kind ix : Byte} (h : kind = 0 ∧ 15 < ix.toNat ∨ kind = 1 ∧ 63 < ix.toNat) :
    destOf kind ix = .error .badIndex := by
  obtain ⟨rfl, h⟩ | ⟨rfl, h⟩ := h
  · rw [destOf, if_pos rfl, index_of_ge h]; rfl
  · rw [destOf, if_neg (by decide), if_pos rfl, index_of_ge h]; rfl

/-- The delay spec that good kind and value bytes name (R70, R74). -/
def namedSpec (kind v3 v2 v1 v0 : Byte) : DelaySpec :=
  if kind = 0 then .fixed (natOf [v3, v2, v1, v0]) else .tempo (clampNat 1 16 v3.toNat) (clampNat 1 16 v2.toNat)

theorem specOf_good {kind v3 v2 v1 v0 : Byte} (h : kind = 0 ∨ kind = 1) :
    specOf kind v3 v2 v1 v0 = some (namedSpec kind v3 v2 v1 v0,
      decide (kind = 1 ∧ (clampNat 1 16 v3.toNat ≠ v3.toNat ∨ clampNat 1 16 v2.toNat ≠ v2.toNat))) := by
  obtain rfl | rfl := h <;> simp [specOf, namedSpec]

theorem specOf_bad {kind v3 v2 v1 v0 : Byte} (h : 1 < kind.toNat) : specOf kind v3 v2 v1 v0 = none := by
  rw [specOf, if_neg (byte_ne_zero_one h).1, if_neg (byte_ne_zero_one h).2]

theorem rawTarget_namedSpec (kind v3 v2 v1 v0 : Byte) (B : Nat) :
    rawTarget (namedSpec kind v3 v2 v1 v0) B = if kind = 0 then natOf [v3, v2, v1, v0]
      else B * 256 * clampNat 1 16 v3.toNat / clampNat 1 16 v2.toNat := by
  unfold namedSpec; split <;> rfl

theorem modulatorOf_byteOrNone (m : Option ModIx) : modulatorOf (byteOrNone (m.map Fin.val)) = some m := by
  cases m with
  | none => rfl
  | some x =>
    have ne : byteOf x ≠ 255 := by revert x; decide
    exact (if_neg ne).trans (congrArg (Option.map some) (index_byteOf (by decide) x))

theorem modulatorOf_good {b : Byte} (h : b = 255 ∨ b.toNat ≤ 15) : ∃ m, modulatorOf b = some m := by
  by_cases hb : b = 255
  · exact ⟨none, if_pos hb⟩
  · have hix := index_some (n := 16) (k := b.toNat) (Nat.lt_succ_of_le (h.resolve_left hb))
    exact ⟨some _, (if_neg hb).trans (by rw [hix]; rfl)⟩

theorem modulatorOf_bad {b : Byte} (h255 : b ≠ 255) (h : 15 < b.toNat) : modulatorOf b = none := by
  rw [modulatorOf, if_neg h255, index_of_ge h]; rfl

/-- The greatest length of a retune mode (R66). -/
def RetuneMode.top : RetuneMode → Nat
  | .fade => 16384
  | .glide => 65535

theorem retunePartOf_code (m : RetuneMode) (l1 l0 : Byte) :
    retunePartOf (byteOf m.code) l1 l0 =
      some ((m, clampNat 16 m.top (natOf [l1, l0])), decide (clampNat 16 m.top (natOf [l1, l0]) ≠ natOf [l1, l0])) := by
  cases m <;> rfl

theorem RetuneMode.code_of_le {b : Byte} (h : b.toNat ≤ 1) : ∃ m : RetuneMode, b = byteOf m.code :=
  (byte_eq_zero_or_one h).elim (fun h => ⟨.fade, h⟩) fun h => ⟨.glide, h⟩

theorem retunePartOf_bad {mode l1 l0 : Byte} (h : 1 < mode.toNat) : retunePartOf mode l1 l0 = none := by
  rw [retunePartOf, if_neg (byte_ne_zero_one h).1, if_neg (byte_ne_zero_one h).2]

/-- A gain of two bytes is clamped for a line alone (R75). -/
theorem clampGainFor_signedOf_pair (d : Dest) (g1 g0 : Byte) :
    clampGainFor d (signedOf [g1, g0]) = match d with
      | .bus _ => signedOf [g1, g0]
      | .line _ => max (-16000) (min 16000 (signedOf [g1, g0])) := by
  cases d with
  | bus b => exact clampGain_signedOf_pair g1 g0
  | line k => rfl

/-! ## TAP_FREE -/

/-- Settles O40: the owner reads the tap's state; only a LIVE tap is changed by its release. -/
theorem tapFreeReleases : Obligations.TapFreeReleases := by
  intro r s t h hp
  have hl : r.payload.length = Kind.tapFree.payloadLength := by rw [hp]; rfl
  have released (hs : (s.taps[t]).state ≠ .unused) :
      ownTapFree false r.payload s.accepted = .done (s.accepted.mapTap t Tap.release) .ok [] := by
    simp only [hp, ownTapFree, index_byteOf (by decide) t, State.accepted_taps, hs, if_false]
  refine ⟨fun hs => ?_, fun hs => ?_, fun hs => ?_⟩
  · refine congrArg Host.Outcome.next (State.take_done h hl ?_ rfl)
    rw [released (by rw [hs]; nofun), State.mapTap, updateAt, State.accepted_taps, Tap.release, if_pos hs]
  · have same : s.accepted.mapTap t Tap.release = s.accepted := by
      have own : (s.taps[t]).release = s.taps[t] := if_neg (by rw [hs]; nofun)
      rw [State.mapTap, State.accepted_taps, updateAt_of_eq own]
      rfl
    exact congrArg Host.Outcome.next (State.take_done h hl (by rw [released (by rw [hs]; nofun), same]) rfl)
  · refine congrArg Host.Outcome.next (State.take_refused h hl ?_)
    simp only [hp, ownTapFree, index_byteOf (by decide) t, State.accepted_taps, hs, if_true]

end Sys2Proof.Machine
end

section
/-! SUPPORT. TAP_CREATE (R70 to R75): its checks, its admissions, and the record that it takes. -/

namespace Sys2Proof.Machine

/-! ## The checks (R70) -/

section
variable {s : State} {slot source dkind dindex kind v3 v2 v1 v0 modu e1 e0 g1 g0 mode l1 l0 : Byte} {i : SlotIx} {k : LineIx}
  {dest : Dest} {m : Option ModIx} {rm : RetuneMode}

/-- The fields of a TAP_CREATE that pass its checks, and what they name (R70). -/
structure CreateFields (slot source dkind dindex kind modu mode : Byte) (i : SlotIx) (k : LineIx) (dest : Dest) (m : Option ModIx)
    (rm : RetuneMode) : Prop where
  slot      : i.val = slot.toNat
  source    : k.val = source.toNat
  dest      : [dkind, dindex] = dest.bytes
  kind      : kind = 0 ∨ kind = 1
  modulator : modulatorOf modu = some m
  mode      : mode = byteOf rm.code

theorem ownTapCreate_badSlotOrSource (h : 7 < slot.toNat ∨ 63 < source.toNat) :
    ownTapCreate false [slot, source, dkind, dindex, kind, v3, v2, v1, v0, modu, e1, e0, g1, g0, mode, l1, l0] s =
      .refuse .badIndex := by
  rw [ownTapCreate]
  obtain h | h := h
  · rw [index_of_ge h]
  · rw [index_of_ge h]
    cases index 8 slot.toNat <;> rfl

theorem ownTapCreate_badDest {st : Status} (hi : i.val = slot.toNat) (hk : k.val = source.toNat)
    (h : destOf dkind dindex = .error st) :
    ownTapCreate false [slot, source, dkind, dindex, kind, v3, v2, v1, v0, modu, e1, e0, g1, g0, mode, l1, l0] s = .refuse st := by
  simp only [ownTapCreate, index_of_val i hi, index_of_val k hk, h]

theorem ownTapCreate_badKind (hi : i.val = slot.toNat) (hk : k.val = source.toNat) (hd : [dkind, dindex] = dest.bytes)
    (h : 1 < kind.toNat) :
    ownTapCreate false [slot, source, dkind, dindex, kind, v3, v2, v1, v0, modu, e1, e0, g1, g0, mode, l1, l0] s =
      .refuse .badValue := by
  simp only [ownTapCreate, index_of_val i hi, index_of_val k hk, destOf_bytes hd, specOf_bad h]

theorem ownTapCreate_badModulator (hi : i.val = slot.toNat) (hk : k.val = source.toNat) (hd : [dkind, dindex] = dest.bytes)
    (hkind : kind = 0 ∨ kind = 1) (h : modulatorOf modu = none) :
    ownTapCreate false [slot, source, dkind, dindex, kind, v3, v2, v1, v0, modu, e1, e0, g1, g0, mode, l1, l0] s =
      .refuse .badIndex := by
  simp only [ownTapCreate, index_of_val i hi, index_of_val k hk, destOf_bytes hd, specOf_good hkind, h]

theorem ownTapCreate_badMode (hi : i.val = slot.toNat) (hk : k.val = source.toNat) (hd : [dkind, dindex] = dest.bytes)
    (hkind : kind = 0 ∨ kind = 1) (hm : modulatorOf modu = some m) (h : 1 < mode.toNat) :
    ownTapCreate false [slot, source, dkind, dindex, kind, v3, v2, v1, v0, modu, e1, e0, g1, g0, mode, l1, l0] s =
      .refuse .badValue := by
  simp only [ownTapCreate, index_of_val i hi, index_of_val k hk, destOf_bytes hd, specOf_good hkind, hm, retunePartOf_bad h]

/-! ## The admissions (R71) -/

theorem State.freeTap_none (h : ∀ j : TapIx, (s.taps[j]).state ≠ .unused) : s.freeTap = none :=
  List.find?_eq_none.mpr fun j _ => by simpa using h j

theorem State.freeTap_lowest {t : TapIx} (ht : (s.taps[t]).state = .unused) (hj : ∀ j : TapIx, j < t → (s.taps[j]).state ≠ .unused) :
    s.freeTap = some t :=
  find?_finRange (decide_eq_true ht) fun j h => decide_eq_false (hj j h)

theorem State.freeTap_exists (h : ∃ j : TapIx, (s.taps[j]).state = .unused) : ∃ t, s.freeTap = some t := by
  obtain ⟨j, hj⟩ := h
  cases hf : s.freeTap with
  | some t => exact ⟨t, rfl⟩
  | none => exact absurd (decide_eq_true hj) (List.find?_eq_none.mp hf j (List.mem_finRange j))

/-- What the admissions find, in their order: a line that is not live, one of another slot, no free record, no budget; or a record. -/
def State.admitTap (i : SlotIx) (named : List LineIx) (s : State) : Except Status TapIx :=
  if named.any fun j => !s.dmc.lines[j].isLive then .error .notLive
  else if named.any fun j => s.dmc.lines[j].slot != i then .error .slotMismatch
  else s.freeTap.elim (.error .noTap) fun t => if s.budgetAdmits 4 = false then .error .overBudget else .ok t

/-- The tap that a TAP_CREATE with good fields makes (R73). -/
def State.newTap (s : State) (kind v3 v2 v1 v0 e1 e0 g1 g0 l1 l0 : Byte) (i : SlotIx) (k : LineIx) (dest : Dest) (m : Option ModIx)
    (rm : RetuneMode) : Tap :=
  createdTap i k dest (namedSpec kind v3 v2 v1 v0) (targetFor (namedSpec kind v3 v2 v1 v0) s.mu.tempo s.dmc.lines[k].length) m
    (natOf [e1, e0]) (clampGainFor dest (signedOf [g1, g0])) (rm, clampNat 16 rm.top (natOf [l1, l0]))

/-- With good fields the admissions decide. -/
theorem ownTapCreate_of_fields (h : CreateFields slot source dkind dindex kind modu mode i k dest m rm) :
    ownTapCreate false [slot, source, dkind, dindex, kind, v3, v2, v1, v0, modu, e1, e0, g1, g0, mode, l1, l0] s =
      match s.admitTap i (namedLines k dest) with
      | .error st => .refuse st
      | .ok t =>
        let asked := signedOf [g1, g0]
        let length := clampNat 16 rm.top (natOf [l1, l0])
        let tc := targetClamped (namedSpec kind v3 v2 v1 v0) s.mu.tempo s.dmc.lines[k].length
        .done ((s.enterTap t (s.newTap kind v3 v2 v1 v0 e1 e0 g1 g0 l1 l0 i k dest m rm)).countDelayClamp i tc)
          (okStatus (decide (kind = 1 ∧ (clampNat 1 16 v3.toNat ≠ v3.toNat ∨ clampNat 1 16 v2.toNat ≠ v2.toNat)) ||
            decide (length ≠ natOf [l1, l0]) || decide (clampGainFor dest asked ≠ asked) || tc)) [byteOf t] := by
  obtain ⟨hi, hk, hd, hkind, hm, rfl⟩ := h
  simp only [ownTapCreate, index_of_val i hi, index_of_val k hk, destOf_bytes hd, specOf_good hkind, hm, retunePartOf_code,
    State.admitTap]
  split
  · rfl
  · split
    · rfl
    · cases s.freeTap with
      | none => rfl
      | some t =>
        dsimp only [Option.elim_some]
        split
        · rfl
        · simp only [clampNat_natOf_pair]; rfl

theorem any_namedLines {p : LineIx → Bool} :
    (namedLines k dest).any p = true ↔ ∃ j, (j = k ∨ dest = .line j) ∧ p j = true := by
  simp only [List.any_eq_true, mem_namedLines, eq_comm (a := k)]

theorem State.admitTap_notLive (h : ∃ j : LineIx, (j = k ∨ dest = .line j) ∧ (s.dmc.lines[j]).isLive = false) :
    s.admitTap i (namedLines k dest) = .error .notLive :=
  if_pos (any_namedLines.mpr (by simpa using h))

variable (hlive : ∀ j : LineIx, j = k ∨ dest = .line j → (s.dmc.lines[j]).isLive = true)
include hlive

theorem State.admitTap_slotMismatch (h : ∃ j : LineIx, (j = k ∨ dest = .line j) ∧ (s.dmc.lines[j]).slot ≠ i) :
    s.admitTap i (namedLines k dest) = .error .slotMismatch :=
  (if_neg (by rw [any_namedLines]; simpa using hlive)).trans (if_pos (any_namedLines.mpr (by simpa using h)))

theorem State.admitTap_of_lines (hslot : ∀ j : LineIx, j = k ∨ dest = .line j → (s.dmc.lines[j]).slot = i) :
    s.admitTap i (namedLines k dest) =
      s.freeTap.elim (.error .noTap) fun t => if s.budgetAdmits 4 = false then .error .overBudget else .ok t :=
  (if_neg (by rw [any_namedLines]; simpa using hlive)).trans (if_neg (by rw [any_namedLines]; simpa using hslot))

end

theorem okStatus_iff {b : Bool} {P : Prop} [Decidable P] (h : b = true ↔ P) : okStatus b = if P then .okClamped else .ok :=
  if_congr h rfl rfl

theorem Line.isLive_iff (l : Line) : l.isLive = true ↔ l.state = .waiting ∨ l.state = .active := by simp [Line.isLive]

/-! ## An admitted tap (R73) -/

/-- The lines of an admitted tap each gain a reference; a clamped target is counted (R73, R74). -/
theorem State.enterTap_counted (s : State) (t : TapIx) (x : Tap) (P : Prop) [Decidable P] :
    (s.enterTap t x).countDelayClamp x.slot (decide (¬ P)) = { s with
      taps := s.taps.set t x
      ec := { s.ec with budgetUsed := s.ec.budgetUsed + 4 }
      dmc := { s.dmc with lines := mapIx (fun j l => if j = x.source ∨ x.dest = .line j then l.raiseRefs else l) s.dmc.lines }
      sru := if P then s.sru else { s.sru with slots := updateAt s.sru.slots x.slot fun z => { z with
        counters := { z.counters with delayClamps := z.counters.delayClamps + 1 } } } } := by
  have lines : x.lines.foldl (fun v j => updateAt v j Line.raiseRefs) s.dmc.lines =
      mapIx (fun j l => if j = x.source ∨ x.dest = .line j then l.raiseRefs else l) s.dmc.lines := by
    refine Vector.ext fun j hj => ?_
    have named : (⟨j, hj⟩ : LineIx) ∈ x.lines ↔ ⟨j, hj⟩ = x.source ∨ x.dest = .line ⟨j, hj⟩ := by
      rw [Tap.mem_lines, Tap.references_iff, eq_comm (a := x.source)]
    exact ((foldl_updateAt_mem Line.raiseRefs x.lines x.lines_nodup s.dmc.lines ⟨j, hj⟩).trans (if_congr named rfl rfl)).trans
      (mapIx_get (fun i l => if i = x.source ∨ x.dest = .line i then l.raiseRefs else l) s.dmc.lines ⟨j, hj⟩).symm
  rw [State.enterTap_eq, lines]
  by_cases hP : P
  · rw [decide_eq_false (not_not_intro hP), if_pos hP]; rfl
  · rw [decide_eq_true hP, if_neg hP]; rfl

/-- Settles O36: the checks in their order, then the admissions in theirs; an admitted tap is entered at the lowest UNUSED record. -/
theorem tapCreateTakesARecord : Obligations.TapCreateTakesARecord := by
  refine ⟨fun r s slot source dkind dindex kind v3 v2 v1 v0 modu e1 e0 g1 g0 mode l1 l0 h hp => ?_,
    fun r s slot source dkind dindex kind v3 v2 v1 v0 modu e1 e0 g1 g0 mode l1 l0 i k dest m rm t h hp hi hk hd hkind hm hmode
      hlines ht hlow hb => ?_⟩ <;>
    have hl : r.payload.length = Kind.tapCreate.payloadLength := by rw [hp]; rfl
  · have refuses {st : Status} (ho : ownTapCreate false
        [slot, source, dkind, dindex, kind, v3, v2, v1, v0, modu, e1, e0, g1, g0, mode, l1, l0] s.accepted = .refuse st) :
        exec (.tapCreate r) s = .next (s.accepted.replied .tapCreate r st []) :=
      congrArg Host.Outcome.next (State.take_refused h hl (by rw [hp, ho]))
    refine ⟨fun hb => refuses (ownTapCreate_badSlotOrSource hb), fun i k hi hk =>
      ⟨fun hb => refuses (ownTapCreate_badDest hi hk (destOf_badKind hb)),
        fun hb => refuses (ownTapCreate_badDest hi hk (destOf_badIndex hb)), fun dest hd => ?_⟩⟩
    refine ⟨fun hb => refuses (ownTapCreate_badKind hi hk hd hb), fun hkind hb => ?_, fun hkind hbound hb => ?_,
      fun hkind hbound hmode => ?_⟩
    · obtain ⟨h255, h15⟩ := not_or.mp hb
      exact refuses (ownTapCreate_badModulator hi hk hd (byte_eq_zero_or_one hkind) (modulatorOf_bad h255 (Nat.lt_of_not_le h15)))
    · obtain ⟨m, hm⟩ := modulatorOf_good hbound
      exact refuses (ownTapCreate_badMode hi hk hd (byte_eq_zero_or_one hkind) hm hb)
    · obtain ⟨m, hm⟩ := modulatorOf_good hbound
      obtain ⟨rm, hrm⟩ := RetuneMode.code_of_le hmode
      have declines {st : Status} (ha : s.accepted.admitTap i (namedLines k dest) = .error st) :
          exec (.tapCreate r) s = .next (s.accepted.replied .tapCreate r st []) :=
        refuses (by rw [ownTapCreate_of_fields ⟨hi, hk, hd, byte_eq_zero_or_one hkind, hm, hrm⟩, ha])
      refine ⟨fun ⟨j, hj, hn⟩ => declines (State.admitTap_notLive ⟨j, hj, ?_⟩), fun hlive => ?_⟩
      · exact Bool.eq_false_iff.mpr fun hl => hn ((Line.isLive_iff _).mp hl)
      have live (j : LineIx) (hj : j = k ∨ dest = .line j) : (s.accepted.dmc.lines[j]).isLive = true :=
        (Line.isLive_iff _).mpr (hlive j hj)
      refine ⟨fun hs => declines (State.admitTap_slotMismatch live hs), fun hslot => ⟨fun hnone => ?_, fun hfree hb => ?_⟩⟩
      · refine declines ((State.admitTap_of_lines live hslot).trans ?_)
        rw [State.freeTap_none (s := s.accepted) hnone]; rfl
      · obtain ⟨t, ht⟩ := State.freeTap_exists (s := s.accepted) hfree
        refine declines ((State.admitTap_of_lines live hslot).trans ?_)
        rw [ht]
        exact if_pos (decide_eq_false (Nat.not_le.mpr hb))
  · intro num den spec raw target asked gain length clamped
    have fields : CreateFields slot source dkind dindex kind modu mode i k dest m rm :=
      ⟨hi, hk, hd, hkind, by rw [hm, modulatorOf_byteOrNone], hmode⟩
    have admitted : s.accepted.admitTap i (namedLines k dest) = .ok t := by
      rw [State.admitTap_of_lines (s := s.accepted) (fun j hj => (Line.isLive_iff _).mpr (hlines j hj).1) fun j hj => (hlines j hj).2,
        State.freeTap_lowest (s := s.accepted) ht hlow]
      exact if_neg (by rw [State.budgetAdmits, State.accepted_ec, decide_eq_true hb]; nofun)
    have hraw : rawTarget (namedSpec kind v3 v2 v1 v0) s.mu.tempo = raw := rawTarget_namedSpec ..
    have htarget : targetFor (namedSpec kind v3 v2 v1 v0) s.mu.tempo (s.dmc.lines[k]).length = target := by
      rw [targetFor, hraw]; rfl
    have htc : targetClamped (namedSpec kind v3 v2 v1 v0) s.mu.tempo (s.dmc.lines[k]).length = decide (target ≠ raw) := by
      rw [targetClamped, htarget, hraw]
    have hgain : clampGainFor dest asked = gain := clampGainFor_signedOf_pair dest g1 g0
    have hlength : clampNat 16 rm.top (natOf [l1, l0]) = length := by cases rm <;> rfl
    have tap : s.accepted.newTap kind v3 v2 v1 v0 e1 e0 g1 g0 l1 l0 i k dest m rm = {
        state := .live, slot := i, source := k, dest := dest, spec := spec, target := target, retuneMode := rm,
        retuneLength := length, retune := .idle, position := target, modulator := m, depth := natOf [e1, e0],
        gainTarget := gain, gain := 0 } := by
      rw [State.newTap, State.accepted_mu, State.accepted_dmc, htarget, hlength, hgain]; rfl
    have status : okStatus (decide (kind = 1 ∧ (clampNat 1 16 v3.toNat ≠ v3.toNat ∨ clampNat 1 16 v2.toNat ≠ v2.toNat)) ||
        decide (length ≠ natOf [l1, l0]) || decide (gain ≠ asked) || decide (target ≠ raw)) =
        if clamped then .okClamped else .ok := by
      have order (A L G T : Prop) : ((A ∨ L) ∨ G) ∨ T ↔ A ∨ T ∨ G ∨ L := by tauto
      refine okStatus_iff ?_
      rw [Bool.or_eq_true, Bool.or_eq_true, Bool.or_eq_true, decide_eq_true_eq, decide_eq_true_eq, decide_eq_true_eq,
        decide_eq_true_eq]
      exact order _ _ _ _
    have entered := s.accepted.enterTap_counted t (s.accepted.newTap kind v3 v2 v1 v0 e1 e0 g1 g0 l1 l0 i k dest m rm) (target = raw)
    have decided : ownTapCreate false r.payload s.accepted = .done
        ((s.accepted.enterTap t (s.accepted.newTap kind v3 v2 v1 v0 e1 e0 g1 g0 l1 l0 i k dest m rm)).countDelayClamp i
          (decide (¬ target = raw))) (if clamped then .okClamped else .ok) [byteOf t] := by
      rw [hp, ownTapCreate_of_fields fields, admitted]
      dsimp only
      rw [State.accepted_mu, State.accepted_dmc, htc, hlength, hgain, status]
    rw [tap] at entered decided
    exact congrArg Host.Outcome.next (State.take_done h hl (decided.trans (congrArg (fun u => Verdict.done u _ _) entered)) rfl)

end Sys2Proof.Machine
end

section
/-! SUPPORT. TAP_SET (R74, R75, R78): its checks, the parts that its mask names, and what they write. -/

namespace Sys2Proof.Machine

/-! ## The parts (R78) -/

section
variable {dest : Dest} {mask kind v3 v2 v1 v0 modu e1 e0 g1 g0 mode l1 l0 : Byte} {m : Option ModIx} {rm : RetuneMode}

theorem tapPartsOf_badDelay (h : mask.getLsbD 0 = true ∧ 1 < kind.toNat) :
    tapPartsOf dest mask kind v3 v2 v1 v0 modu e1 e0 g1 g0 mode l1 l0 = .error .badValue :=
  if_pos ⟨h.1, specOf_bad h.2⟩

theorem delayPart_good (h : ¬ (mask.getLsbD 0 = true ∧ 1 < kind.toNat)) :
    ¬ (mask.getLsbD 0 = true ∧ specOf kind v3 v2 v1 v0 = none) := by
  rintro ⟨h0, hs⟩
  rw [specOf_good (byte_eq_zero_or_one (Nat.le_of_not_lt fun hk => h ⟨h0, hk⟩))] at hs
  cases hs

theorem modulatorPart_good (h : ¬ (mask.getLsbD 1 = true ∧ modu ≠ 255 ∧ 15 < modu.toNat)) :
    ¬ (mask.getLsbD 1 = true ∧ modulatorOf modu = none) := by
  rintro ⟨h1, hm⟩
  have bound : modu = 255 ∨ modu.toNat ≤ 15 := or_iff_not_imp_left.mpr fun h255 => Nat.le_of_not_lt fun h15 => h ⟨h1, h255, h15⟩
  obtain ⟨m, hsome⟩ := modulatorOf_good bound
  cases hm.symm.trans hsome

theorem tapPartsOf_badModulator (h0 : ¬ (mask.getLsbD 0 = true ∧ 1 < kind.toNat))
    (h : mask.getLsbD 1 = true ∧ modu ≠ 255 ∧ 15 < modu.toNat) :
    tapPartsOf dest mask kind v3 v2 v1 v0 modu e1 e0 g1 g0 mode l1 l0 = .error .badIndex :=
  (if_neg (delayPart_good h0)).trans (if_pos ⟨h.1, modulatorOf_bad h.2.1 h.2.2⟩)

theorem tapPartsOf_badRetune (h0 : ¬ (mask.getLsbD 0 = true ∧ 1 < kind.toNat))
    (h1 : ¬ (mask.getLsbD 1 = true ∧ modu ≠ 255 ∧ 15 < modu.toNat)) (h : mask.getLsbD 3 = true ∧ 1 < mode.toNat) :
    tapPartsOf dest mask kind v3 v2 v1 v0 modu e1 e0 g1 g0 mode l1 l0 = .error .badValue :=
  (if_neg (delayPart_good h0)).trans ((if_neg (modulatorPart_good h1)).trans (if_pos ⟨h.1, retunePartOf_bad h.2⟩))

/-- The parts that a mask names, from good fields (R78). -/
def namedParts (dest : Dest) (mask kind v3 v2 v1 v0 e1 e0 g1 g0 l1 l0 : Byte) (m : Option ModIx) (rm : RetuneMode) : TapParts where
  spec      := if mask.getLsbD 0 then some (namedSpec kind v3 v2 v1 v0) else none
  modulator := if mask.getLsbD 1 then some (m, natOf [e1, e0]) else none
  gain      := if mask.getLsbD 2 then some (clampGainFor dest (signedOf [g1, g0])) else none
  retune    := if mask.getLsbD 3 then some (rm, clampNat 16 rm.top (natOf [l1, l0])) else none

/-- Whether one of the named parts is clamped; whether the target is shows when it is formed (R78). -/
def partsClamped (dest : Dest) (mask kind v3 v2 g1 g0 l1 l0 : Byte) (rm : RetuneMode) : Bool :=
  (mask.getLsbD 0 && decide (kind = 1 ∧ (clampNat 1 16 v3.toNat ≠ v3.toNat ∨ clampNat 1 16 v2.toNat ≠ v2.toNat))) ||
    (mask.getLsbD 3 && decide (clampNat 16 rm.top (natOf [l1, l0]) ≠ natOf [l1, l0])) ||
    (mask.getLsbD 2 && decide (clampGainFor dest (signedOf [g1, g0]) ≠ signedOf [g1, g0]))

theorem getD_ite_some (b c : Bool) : (if b then some c else none).getD false = (b && c) := by cases b <;> rfl

theorem elim_ite_some {α : Type} (b : Bool) (a : α) (f : α → Bool) : (if b then some a else none).elim false f = (b && f a) := by
  cases b <;> rfl

/-- Good fields give the parts that the mask names. -/
theorem tapPartsOf_good (hkind : mask.getLsbD 0 = true → kind = 0 ∨ kind = 1)
    (hm : mask.getLsbD 1 = true → modu = byteOrNone (m.map Fin.val)) (hmode : mask.getLsbD 3 = true → mode = byteOf rm.code) :
    tapPartsOf dest mask kind v3 v2 v1 v0 modu e1 e0 g1 g0 mode l1 l0 =
      .ok (namedParts dest mask kind v3 v2 v1 v0 e1 e0 g1 g0 l1 l0 m rm, partsClamped dest mask kind v3 v2 g1 g0 l1 l0 rm) := by
  have named {α : Type} {b : Bool} {x : Option α} {a : α} (h : b = true → x = some a) :
      (if b then x else none) = if b then some a else none := by
    cases b with
    | false => rfl
    | true => exact h rfl
  have bound (h : mask.getLsbD 1 = true) : modulatorOf modu = some m := by rw [hm h, modulatorOf_byteOrNone]
  have moded (h : mask.getLsbD 3 = true) := hmode h ▸ retunePartOf_code rm l1 l0
  have given {α : Type} {b : Bool} {x : Option α} {a : α} (h : b = true → x = some a) : ¬ (b = true ∧ x = none) :=
    fun ⟨hb, hx⟩ => nomatch (h hb).symm.trans hx
  unfold tapPartsOf
  rw [if_neg (given fun h => specOf_good (hkind h)), if_neg (given bound), if_neg (given moded), named fun h => specOf_good (hkind h),
    named moded, named fun h => congrArg (Option.map _) (bound h)]
  simp only [Option.map_if, getD_ite_some, elim_ite_some, clampNat_natOf_pair]
  rfl

end

theorem clampInt_clampInt {lo hi : Int} (h : lo ≤ hi) (v : Int) : clampInt lo hi (clampInt lo hi v) = clampInt lo hi v :=
  clampInt_of_mem (clampInt_mem h v).1 (clampInt_mem h v).2

/-- A gain clamped for a destination is good for it (R75). -/
theorem clampGainFor_clampGainFor (d : Dest) (v : Int) : clampGainFor d (clampGainFor d v) = clampGainFor d v := by
  cases d with
  | bus b => exact clampInt_clampInt (by decide) v
  | line k => exact clampInt_clampInt (by decide) v

/-! ## What they write -/

theorem getD_map_ite_some {α β : Type} (b : Bool) (a : α) (f : α → β) (c : β) :
    (((if b then some a else none).map f).getD c) = if b then f a else c := by
  cases b <;> rfl

section
variable {s : State} {t : TapIx} {p : TapParts}

theorem Tap.write_namedParts (mask kind v3 v2 v1 v0 e1 e0 g1 g0 l1 l0 : Byte) (m : Option ModIx) (rm : RetuneMode) (x : Tap) :
    x.write (namedParts x.dest mask kind v3 v2 v1 v0 e1 e0 g1 g0 l1 l0 m rm) = { x with
      retuneMode := if mask.getLsbD 3 then rm else x.retuneMode
      retuneLength := if mask.getLsbD 3 then clampNat 16 rm.top (natOf [l1, l0]) else x.retuneLength
      modulator := if mask.getLsbD 1 then m else x.modulator
      depth := if mask.getLsbD 1 then natOf [e1, e0] else x.depth
      gainTarget := if mask.getLsbD 2 then clampGainFor x.dest (signedOf [g1, g0]) else x.gainTarget
      spec := if mask.getLsbD 0 then namedSpec kind v3 v2 v1 v0 else x.spec } := by
  have spec : (if mask.getLsbD 0 then some (namedSpec kind v3 v2 v1 v0) else none).getD x.spec =
      if mask.getLsbD 0 then namedSpec kind v3 v2 v1 v0 else x.spec := by cases mask.getLsbD 0 <;> rfl
  simp only [Tap.write, namedParts, getD_map_ite_some, clampGainFor_clampGainFor, spec]

/-- Without a delay part a TAP_SET writes the record alone. -/
theorem State.applyTapSet_of_none (h : p.spec = none) : s.applyTapSet t p = s.mapTap t (Tap.write p) := by
  rw [State.applyTapSet, h]; rfl

theorem State.formTarget_of_tap {x : Tap} (h : s.taps[t] = x) :
    s.formTarget t = (s.countDelayClamp x.slot (targetClamped x.spec s.mu.tempo (s.dmc.lines[x.source]).length)).handTarget t
      (targetFor x.spec s.mu.tempo (s.dmc.lines[x.source]).length) := by
  subst h; rfl

/-- With one its target is formed last, counted when clamped, and handed to retuning (R74, R78). -/
theorem State.applyTapSet_of_some {sp : DelaySpec} (h : p.spec = some sp) :
    s.applyTapSet t p =
      ((s.mapTap t (Tap.write p)).countDelayClamp (s.taps[t]).slot
        (targetClamped sp s.mu.tempo (s.dmc.lines[(s.taps[t]).source]).length)).handTarget t
          (targetFor sp s.mu.tempo (s.dmc.lines[(s.taps[t]).source]).length) := by
  have own : (s.mapTap t (Tap.write p)).taps[t] = (s.taps[t]).write p := (updateAt_get _ _ _ _).trans (if_pos rfl)
  have spec : ((s.taps[t]).write p).spec = sp := by rw [Tap.write, h]; rfl
  rw [State.applyTapSet, h]
  exact (State.formTarget_of_tap own).trans (by rw [spec]; rfl)

variable {tap mask kind v3 v2 v1 v0 modu e1 e0 g1 g0 mode l1 l0 : Byte}

theorem ownTapSet_notLive (ht : t.val = tap.toNat) (h : (s.taps[t]).state ≠ .live) :
    ownTapSet false [tap, mask, kind, v3, v2, v1, v0, modu, e1, e0, g1, g0, mode, l1, l0] s = .refuse .notLive := by
  rw [ownTapSet, index_of_val t ht]
  exact if_pos h

theorem ownTapSet_refused (ht : t.val = tap.toNat) (h : (s.taps[t]).state = .live) {st : Status}
    (hp : tapPartsOf (s.taps[t]).dest mask kind v3 v2 v1 v0 modu e1 e0 g1 g0 mode l1 l0 = .error st) :
    ownTapSet false [tap, mask, kind, v3, v2, v1, v0, modu, e1, e0, g1, g0, mode, l1, l0] s = .refuse st := by
  rw [ownTapSet, index_of_val t ht]
  dsimp only
  rw [if_neg (not_not_intro h), hp]

variable {m : Option ModIx} {rm : RetuneMode}

theorem ownTapSet_applied (ht : t.val = tap.toNat) (h : (s.taps[t]).state = .live)
    (hkind : mask.getLsbD 0 = true → kind = 0 ∨ kind = 1) (hm : mask.getLsbD 1 = true → modu = byteOrNone (m.map Fin.val))
    (hmode : mask.getLsbD 3 = true → mode = byteOf rm.code) :
    ownTapSet false [tap, mask, kind, v3, v2, v1, v0, modu, e1, e0, g1, g0, mode, l1, l0] s =
      .done (s.applyTapSet t (namedParts (s.taps[t]).dest mask kind v3 v2 v1 v0 e1 e0 g1 g0 l1 l0 m rm))
        (okStatus (partsClamped (s.taps[t]).dest mask kind v3 v2 g1 g0 l1 l0 rm || (mask.getLsbD 0 &&
          targetClamped (namedSpec kind v3 v2 v1 v0) s.mu.tempo (s.dmc.lines[(s.taps[t]).source]).length))) [] := by
  rw [ownTapSet, index_of_val t ht]
  dsimp only
  rw [if_neg (not_not_intro h), tapPartsOf_good hkind hm hmode,
    ← elim_ite_some _ _ fun sp => targetClamped sp s.mu.tempo (s.dmc.lines[(s.taps[t]).source]).length]
  rfl

end

/-- The clamped parts of a TAP_SET: its spec, length and gain, then its target; and the same with the spec and the target together. -/
theorem clamped_parts_iff (delay spec target gain length : Prop) :
    ((delay ∧ spec ∨ length) ∨ gain) ∨ delay ∧ target ↔ delay ∧ (spec ∨ target) ∨ gain ∨ length := by
  tauto

/-- Settles O38: the state, the checks in their order, then the parts by the bits of the mask, the delay part last. -/
theorem tapSetWritesItsParts : Obligations.TapSetWritesItsParts := by
  refine ⟨fun r s tap mask kind v3 v2 v1 v0 modu e1 e0 g1 g0 mode l1 l0 t h hp ht hs => ?_,
    fun r s tap mask kind v3 v2 v1 v0 modu e1 e0 g1 g0 mode l1 l0 t m rm h hp ht => ⟨fun hs => ?_, fun hs hkind hm hmode => ?_⟩⟩ <;>
    have hl : r.payload.length = Kind.tapSet.payloadLength := by rw [hp]; rfl
  · have refuses {st : Status}
        (ho : tapPartsOf (s.taps[t]).dest mask kind v3 v2 v1 v0 modu e1 e0 g1 g0 mode l1 l0 = .error st) :
        exec (.tapSet r) s = .next (s.accepted.replied .tapSet r st []) :=
      congrArg Host.Outcome.next (State.take_refused h hl (by rw [hp]; exact ownTapSet_refused (s := s.accepted) ht hs ho))
    exact ⟨fun hd => refuses (tapPartsOf_badDelay hd), fun hd hb => refuses (tapPartsOf_badModulator hd hb),
      fun hd hb hr => refuses (tapPartsOf_badRetune hd hb hr)⟩
  · exact congrArg Host.Outcome.next (State.take_refused h hl (by rw [hp]; exact ownTapSet_notLive (s := s.accepted) ht hs))
  · intro x num den asked gain length y raw target written clamped
    have hraw : rawTarget (namedSpec kind v3 v2 v1 v0) s.mu.tempo = raw := rawTarget_namedSpec ..
    have htarget : targetFor (namedSpec kind v3 v2 v1 v0) s.mu.tempo (s.dmc.lines[x.source]).length = target := by
      rw [targetFor, hraw]; rfl
    have htc : targetClamped (namedSpec kind v3 v2 v1 v0) s.mu.tempo (s.dmc.lines[x.source]).length = decide (target ≠ raw) := by
      rw [targetClamped, htarget, hraw]
    have hgain : clampGainFor x.dest (signedOf [g1, g0]) = gain := clampGainFor_signedOf_pair x.dest g1 g0
    have hlength : clampNat 16 rm.top (natOf [l1, l0]) = length := by cases rm <;> rfl
    have wrote : x.write (namedParts x.dest mask kind v3 v2 v1 v0 e1 e0 g1 g0 l1 l0 m rm) = y := by
      rw [Tap.write_namedParts, hgain, hlength]; rfl
    have mapped : s.accepted.mapTap t (Tap.write (namedParts x.dest mask kind v3 v2 v1 v0 e1 e0 g1 g0 l1 l0 m rm)) = written :=
      congrArg (fun z => ({ s.accepted with taps := s.taps.set t z } : State)) wrote
    have applied : s.accepted.applyTapSet t (namedParts x.dest mask kind v3 v2 v1 v0 e1 e0 g1 g0 l1 l0 m rm) =
        if mask.getLsbD 0 = false then written
        else if target = raw then written.handTarget t target
        else State.handTarget t target { written with sru := { s.sru with slots := updateAt s.sru.slots x.slot fun z => { z with
          counters := { z.counters with delayClamps := z.counters.delayClamps + 1 } } } } := by
      cases h0 : mask.getLsbD 0 with
      | false => rw [if_pos rfl, State.applyTapSet_of_none (by rw [namedParts, h0]; rfl)]; exact mapped
      | true =>
        have formed := State.applyTapSet_of_some (s := s.accepted) (t := t) (sp := namedSpec kind v3 v2 v1 v0)
          (p := namedParts x.dest mask kind v3 v2 v1 v0 e1 e0 g1 g0 l1 l0 m rm) (by rw [namedParts, h0]; rfl)
        rw [if_neg nofun]
        refine (formed.trans (congrArg₂ (fun u n => State.handTarget t n u) (congrArg₂ (State.countDelayClamp x.slot) htc mapped)
          htarget)).trans ?_
        by_cases he : target = raw
        · rw [if_pos he, decide_eq_false (not_not_intro he)]; rfl
        · rw [if_neg he, decide_eq_true he]; rfl
    have status : okStatus (partsClamped x.dest mask kind v3 v2 g1 g0 l1 l0 rm || (mask.getLsbD 0 &&
        targetClamped (namedSpec kind v3 v2 v1 v0) s.mu.tempo (s.dmc.lines[x.source]).length)) =
        if clamped then .okClamped else .ok := by
      rw [htc, partsClamped, hgain, hlength]
      refine okStatus_iff ?_
      simp only [Bool.or_eq_true, Bool.and_eq_true, decide_eq_true_eq]
      exact clamped_parts_iff ..
    refine congrArg Host.Outcome.next (State.take_done h hl ?_ ?_)
    · rw [hp, ownTapSet_applied (s := s.accepted) ht hs hkind hm hmode]
      exact congrArg₂ (fun u st => Verdict.done u st []) applied status
    · rw [← applied, (State.applyTapSet_keeps ..).1]

end Sys2Proof.Machine
end

section
/-! SUPPORT. A target handed to retuning, as what it leaves of the tap, the counters of its slot and the marks (R109 to R112, R120,
R124), and a TAP_FILL over the taps that it reaches (R80, R81). -/

namespace Sys2Proof.Machine

/-! ## One target handed over -/

/-- Whether a target is new to a tap, whether it starts a retune, and whether it replaces a pending target (R109 to R111, R124). -/
def Tap.changesTo (n : Nat) (x : Tap) : Bool := decide (n ≠ x.effectiveDestination)

def Tap.startsTo (n : Nat) (x : Tap) : Bool := x.changesTo n && decide (x.retune = .idle)

def Tap.supersedesTo (n : Nat) (x : Tap) : Bool :=
  x.changesTo n && match x.retune with
    | .fading m _ _ (some _) => decide (n ≠ m)
    | _ => false

/-- The counters of a slot with delay clamps, retunes started and pending targets replaced added (R74, R124). -/
def SlotCounters.retargets (clamps starts supersedes : Nat) (c : SlotCounters) : SlotCounters :=
  { c with
    delayClamps := c.delayClamps + BitVec.ofNat 32 clamps, started := c.started + BitVec.ofNat 32 starts
    superseded := c.superseded + BitVec.ofNat 32 supersedes }

theorem SlotCounters.retargets_zero (c : SlotCounters) : c.retargets 0 0 0 = c := by simp [SlotCounters.retargets]

theorem SlotCounters.retargets_retargets (a b d a' b' d' : Nat) (c : SlotCounters) :
    (c.retargets a b d).retargets a' b' d' = c.retargets (a + a') (b + b') (d + d') := by
  simp only [SlotCounters.retargets, BitVec.ofNat_add, BitVec.add_assoc]

theorem SlotCounters.retargets_clamp : SlotCounters.retargets 1 0 0 = fun c => { c with delayClamps := c.delayClamps + 1 } :=
  funext fun c => by simp [SlotCounters.retargets]

theorem SlotCounters.retargets_start : SlotCounters.retargets 0 1 0 = fun c => { c with started := c.started + 1 } :=
  funext fun c => by simp [SlotCounters.retargets]

theorem SlotCounters.retargets_supersede : SlotCounters.retargets 0 0 1 = fun c => { c with superseded := c.superseded + 1 } :=
  funext fun c => by simp [SlotCounters.retargets]

/-- The mark that a trigger wrote the retune fields, if it did (R120). -/
def Written.retuneTapIf (b : Bool) (t : TapIx) (w : Written) : Written := if b then w.retuneTap t else w

section
variable (s : State) (t : TapIx) (n : Nat)

theorem State.note_id : s.note (fun w => w) = s := by
  have same : (s.fe.computation.map fun c => { c with written := c.written }) = s.fe.computation := Option.map_id'
  rw [State.note, same]

theorem State.note_note (f g : Written → Written) : (s.note f).note g = s.note fun w => g (f w) := by
  simp only [State.note, Option.map_map, Function.comp_def]

theorem State.countSlot_zero (i : SlotIx) : s.countSlot i (SlotCounters.retargets 0 0 0) = s := by
  have same : (updateAt s.sru.slots i fun r => { r with counters := r.counters.retargets 0 0 0 }) = s.sru.slots :=
    updateAt_of_eq (by rw [SlotCounters.retargets_zero])
  rw [State.countSlot, State.mapSlot, same]

theorem State.countSlot_countSlot (i : SlotIx) (f g : SlotCounters → SlotCounters) :
    (s.countSlot i f).countSlot i g = s.countSlot i fun c => g (f c) := by
  rw [State.countSlot, State.countSlot, State.mapSlot, State.mapSlot, updateAt_updateAt]
  rfl

theorem Tap.retarget_same {n : Nat} {x : Tap} (h : n = x.effectiveDestination) : x.retarget n = (x, .same) := if_pos h

/-- What a target that is new does besides the tap's fields, by the retune state (R109 to R112). -/
theorem Tap.retarget_outcome {n : Nat} {x : Tap} (h : n ≠ x.effectiveDestination) :
    (x.retarget n).2 = if x.startsTo n then .started else if x.supersedesTo n then .superseded else .changed := by
  have changes : x.changesTo n = true := decide_eq_true h
  simp only [Tap.startsTo, Tap.supersedesTo, changes, Bool.true_and, Tap.retarget, if_neg h]
  cases x.retune with
  | idle => rfl
  | fading m k F p =>
    by_cases hm : n = m
    · cases p <;> simp [hm]
    · cases p <;> simp [hm]
  | gliding st => by_cases hp : n = x.position <;> simp [hp]

theorem Tap.not_supersedes_of_starts {n : Nat} {x : Tap} (h : x.startsTo n = true) : x.supersedesTo n = false := by
  have idle : x.retune = .idle := of_decide_eq_true ((Bool.and_eq_true _ _).mp h).2
  rw [Tap.supersedesTo, idle, Bool.and_false]

/-- A target handed to a tap: its record, the counters of its slot, and the mark (R109 to R112, R120, R124). -/
theorem State.handTarget_eq {x : Tap} (hx : s.taps[t] = x) :
    s.handTarget t n = ((s.mapTap t fun y => (y.retarget n).1).countSlot x.slot
      (SlotCounters.retargets 0 (x.startsTo n).toNat (x.supersedesTo n).toNat)).note (Written.retuneTapIf (x.changesTo n) t) := by
  subst hx
  by_cases h : n = (s.taps[t]).effectiveDestination
  · have changes : (s.taps[t]).changesTo n = false := decide_eq_false (not_not_intro h)
    have kept : (s.mapTap t fun y => (y.retarget n).1) = s := by
      rw [State.mapTap, updateAt_of_eq (by rw [Tap.retarget_same h])]
    have same : s.handTarget t n = s := by rw [State.handTarget, Tap.retarget_same h]
    rw [same, kept, Tap.startsTo, Tap.supersedesTo, changes]
    exact ((State.note_id _).trans (State.countSlot_zero s _)).symm
  · have changes : (s.taps[t]).changesTo n = true := decide_eq_true h
    have outcome := Tap.retarget_outcome h
    rw [State.handTarget, outcome, changes]
    cases hs : (s.taps[t]).startsTo n with
    | true =>
      rw [Tap.not_supersedes_of_starts hs, Bool.toNat_true, Bool.toNat_false, SlotCounters.retargets_start]
      rfl
    | false =>
      cases (s.taps[t]).supersedesTo n with
      | true => rw [Bool.toNat_true, Bool.toNat_false, SlotCounters.retargets_supersede]; rfl
      | false => exact congrArg (State.note (Written.retuneTap t)) (State.countSlot_zero _ _).symm

end

/-! ## One tap filled (R81) -/

/-- The target that a FIXED delay gives a tap (R74). -/
def State.fillTarget (d : Nat) (s : State) (x : Tap) : Nat := targetFor (.fixed d) s.mu.tempo (s.dmc.lines[x.source]).length

/-- A tap that takes a FIXED delay and is handed its target (R74, R81). -/
def Tap.delayed (d n : Nat) (x : Tap) : Tap := (Tap.retarget n { x with spec := .fixed d }).1

section
variable (s : State) (t : TapIx) (d : Nat)

theorem State.countDelayClamp_eq (i : SlotIx) (b : Bool) :
    s.countDelayClamp i b = s.countSlot i (SlotCounters.retargets b.toNat 0 0) := by
  cases b with
  | false => exact (State.countSlot_zero s i).symm
  | true => rw [Bool.toNat_true, SlotCounters.retargets_clamp]; rfl

theorem State.fillTap_delay {x : Tap} (hx : s.taps[t] = x) :
    s.fillTap (.delay d) t = (({ s with taps := s.taps.set t (x.delayed d (s.fillTarget d x)) } : State).countSlot x.slot
      (SlotCounters.retargets (decide (s.fillTarget d x ≠ d)).toNat (x.startsTo (s.fillTarget d x)).toNat
        (x.supersedesTo (s.fillTarget d x)).toNat)).note (Written.retuneTapIf (x.changesTo (s.fillTarget d x)) t) := by
  subst hx
  have own : (s.mapTap t fun y => { y with spec := .fixed d }).taps[t] = { s.taps[t] with spec := .fixed d } :=
    (updateAt_get _ _ _ _).trans (if_pos rfl)
  have handed := State.handTarget_eq ((s.mapTap t fun y => { y with spec := .fixed d }).countDelayClamp (s.taps[t]).slot
    (decide (s.fillTarget d s.taps[t] ≠ d))) t (s.fillTarget d s.taps[t]) (x := { s.taps[t] with spec := .fixed d })
    (by rw [(State.countDelayClamp_keeps ..).2.2.2.2.1]; exact own)
  refine (State.formTarget_of_tap own).trans (handed.trans ?_)
  have mapped (f : SlotCounters → SlotCounters) (n : Nat) :
      (((s.mapTap t fun y => { y with spec := .fixed d }).countSlot (s.taps[t]).slot f).mapTap t fun y => (y.retarget n).1) =
        ({ s with taps := s.taps.set t ((s.taps[t]).delayed d n) } : State).countSlot (s.taps[t]).slot f :=
    congrArg (fun v => ({ s with taps := v } : State).countSlot (s.taps[t]).slot f)
      (updateAt_updateAt s.taps t (fun y => { y with spec := .fixed d }) fun y => (y.retarget n).1)
  rw [State.countDelayClamp_eq, mapped, State.countSlot_countSlot]
  simp only [SlotCounters.retargets_retargets, Nat.add_zero, Nat.zero_add]
  rfl

end

/-! ## Several taps filled, each once -/

/-- The marks of several taps whose retune fields a trigger wrote (R120). -/
def Written.retuneTaps (p : TapIx → Bool) (w : Written) : Written :=
  { w with tapRetune := mapIx (fun j x => x || p j) w.tapRetune }

/-- A tap that takes a record, with its slot's counters and its mark: the form of one tap filled. -/
def State.refill (y : Tap) (f : SlotCounters → SlotCounters) (b : Bool) (i : SlotIx) (t : TapIx) (s : State) : State :=
  (({ s with taps := s.taps.set t y } : State).countSlot i f).note (Written.retuneTapIf b t)

section
variable (y : TapIx → Tap) (f : TapIx → SlotCounters → SlotCounters) (b : TapIx → Bool) (i : SlotIx) (l : List TapIx)

/-- Records, counters and marks are written apart from one another. -/
theorem State.foldl_refill (s : State) :
    l.foldl (fun u t => u.refill (y t) (f t) (b t) i t) s =
      (({ s with taps := l.foldl (fun v (t : TapIx) => v.set t (y t)) s.taps } : State).countSlot i fun c =>
        l.foldl (fun c t => f t c) c).note fun w => l.foldl (fun w t => w.retuneTapIf (b t) t) w := by
  induction l generalizing s with
  | nil =>
    refine Eq.symm ((State.note_id _).trans ?_)
    have same : (updateAt s.sru.slots i fun r => { r with counters := r.counters }) = s.sru.slots := updateAt_of_eq rfl
    rw [List.foldl_nil, State.countSlot, State.mapSlot]
    exact congrArg (fun v => ({ s with sru := { s.sru with slots := v } } : State)) same
  | cons t l ih =>
    rw [List.foldl_cons, ih]
    have counted := State.countSlot_countSlot { s with taps := l.foldl (fun v (t : TapIx) => v.set t (y t)) (s.taps.set t (y t)) } i
      (f t) fun c => l.foldl (fun c t => f t c) c
    exact (congrArg (State.note _) (congrArg (State.note (Written.retuneTapIf (b t) t)) counted)).trans (State.note_note _ _ _)

theorem foldl_set_get {α : Type} {n : Nat} (y : Fin n → α) (l : List (Fin n)) (v : Vector α n) (j : Fin n) :
    (l.foldl (fun v (t : Fin n) => v.set t (y t)) v)[j] = if j ∈ l then y j else v[j] := by
  induction l generalizing v with
  | nil => rfl
  | cons t l ih =>
    have first : (v.set t (y t))[j] = if t = j then y t else v[j] := updateAt_get v t j fun _ => y t
    rw [List.foldl_cons, ih, first]
    by_cases hj : t = j
    · subst hj; simp
    · simp [hj, Ne.symm hj]

/-- Each marked element sets its own mark. -/
theorem foldl_mark_get (v : Vector Bool 256) (j : TapIx) :
    (l.foldl (fun v t => if b t then updateAt v t (fun _ => true) else v) v)[j] = (v[j] || (decide (j ∈ l) && b j)) := by
  induction l generalizing v with
  | nil => simp
  | cons t l ih =>
    have first : (if b t then updateAt v t (fun _ => true) else v)[j] = (v[j] || (decide (j = t) && b j)) := by
      cases hb : b t with
      | true =>
        rw [if_pos rfl, updateAt_get]
        by_cases hj : t = j
        · subst hj; simp [hb]
        · simp [hj, Ne.symm hj]
      | false =>
        by_cases hj : j = t
        · subst hj; simp [hb]
        · simp [hj]
    rw [List.foldl_cons, ih, first, Bool.or_assoc, ← Bool.and_or_distrib_right]
    simp only [List.mem_cons, Bool.decide_or]

theorem foldl_retuneTapIf (w : Written) :
    l.foldl (fun w t => w.retuneTapIf (b t) t) w = w.retuneTaps fun j => decide (j ∈ l) && b j := by
  have fold (w : Written) : l.foldl (fun w t => w.retuneTapIf (b t) t) w =
      { w with tapRetune := l.foldl (fun v t => if b t then updateAt v t (fun _ => true) else v) w.tapRetune } := by
    induction l generalizing w with
    | nil => rfl
    | cons t l ih =>
      rw [List.foldl_cons, ih, List.foldl_cons]
      unfold Written.retuneTapIf
      cases b t <;> rfl
  rw [fold]
  exact congrArg (fun v => { w with tapRetune := v }) (Vector.ext fun j hj => (foldl_mark_get b l w.tapRetune ⟨j, hj⟩).trans
    (mapIx_get (fun j x => x || (decide (j ∈ l) && b j)) w.tapRetune ⟨j, hj⟩).symm)

theorem foldl_retargets (a e u : TapIx → Bool) (c : SlotCounters) :
    l.foldl (fun c t => c.retargets (a t).toNat (e t).toNat (u t).toNat) c =
      c.retargets (l.filter a).length (l.filter e).length (l.filter u).length := by
  induction l generalizing c with
  | nil => exact (SlotCounters.retargets_zero c).symm
  | cons t l ih =>
    have count (p : TapIx → Bool) : ((t :: l).filter p).length = (p t).toNat + (l.filter p).length := by
      cases h : p t <;> simp [h, Nat.add_comm]
    rw [List.foldl_cons, ih, SlotCounters.retargets_retargets, count, count, count]

end

/-- Taps of one slot, each filled once: each from its own record, the counters together (R81). -/
theorem State.foldl_fillTap_delay (s : State) (d : Nat) (i : SlotIx) (l : List TapIx) (hl : l.Nodup)
    (hi : ∀ j ∈ l, (s.taps[j]).slot = i) :
    l.foldl (fun u t => u.fillTap (.delay d) t) s =
      (({ s with taps := mapIx (fun j x => if j ∈ l then x.delayed d (s.fillTarget d x) else x) s.taps } : State).countSlot i
        (SlotCounters.retargets (l.filter fun j => decide (s.fillTarget d s.taps[j] ≠ d)).length
          (l.filter fun j => (s.taps[j]).startsTo (s.fillTarget d s.taps[j])).length
          (l.filter fun j => (s.taps[j]).supersedesTo (s.fillTarget d s.taps[j])).length)).note
        (Written.retuneTaps fun j => decide (j ∈ l) && (s.taps[j]).changesTo (s.fillTarget d s.taps[j])) := by
  have refilled (u : State) (hu : ∀ j ∈ l, u.taps[j] = s.taps[j]) (hmu : u.mu = s.mu) (hdmc : u.dmc = s.dmc) :
      l.foldl (fun u t => u.fillTap (.delay d) t) u = l.foldl (fun u t => u.refill ((s.taps[t]).delayed d (s.fillTarget d s.taps[t]))
        (SlotCounters.retargets (decide (s.fillTarget d s.taps[t] ≠ d)).toNat
          ((s.taps[t]).startsTo (s.fillTarget d s.taps[t])).toNat ((s.taps[t]).supersedesTo (s.fillTarget d s.taps[t])).toNat)
        ((s.taps[t]).changesTo (s.fillTarget d s.taps[t])) i t) u := by
    induction l generalizing u with
    | nil => rfl
    | cons t l ih =>
      obtain ⟨ht, hl⟩ := List.nodup_cons.mp hl
      have target (x : Tap) : u.fillTarget d x = s.fillTarget d x := by rw [State.fillTarget, hmu, hdmc]; rfl
      have first := State.fillTap_delay u t d (hu t List.mem_cons_self)
      rw [hi t List.mem_cons_self] at first
      simp only [target] at first
      rw [List.foldl_cons, List.foldl_cons, first]
      refine ih hl (fun j hj => hi j (List.mem_cons_of_mem t hj)) _ (fun j hj => ?_) hmu hdmc
      refine (updateAt_get u.taps t j fun _ => _).trans ((if_neg ?_).trans (hu j (List.mem_cons_of_mem t hj)))
      rintro rfl
      exact ht hj
  have taps : l.foldl (fun v (t : TapIx) => v.set t ((s.taps[t]).delayed d (s.fillTarget d s.taps[t]))) s.taps =
      mapIx (fun j x => if j ∈ l then x.delayed d (s.fillTarget d x) else x) s.taps :=
    Vector.ext fun j hj => (foldl_set_get _ l s.taps ⟨j, hj⟩).trans (mapIx_get
      (fun j x => if j ∈ l then x.delayed d (s.fillTarget d x) else x) s.taps ⟨j, hj⟩).symm
  rw [refilled s (fun _ _ => rfl) rfl rfl, State.foldl_refill, taps]
  simp only [foldl_retargets, foldl_retuneTapIf]

end Sys2Proof.Machine
end

section
/-! SUPPORT. TAP_FILL (R74, R80, R81, R124): the taps that it reaches, its fields, and what it writes. -/

namespace Sys2Proof.Machine

/-! ## The taps reached (R81) -/

theorem wrapRange_nodup {n : Nat} (a b : Fin n) : (wrapRange a b).Nodup := by
  unfold wrapRange
  split
  · exact (List.nodup_finRange n).filter _
  · rename_i h
    refine ((List.nodup_finRange n).filter _).append ((List.nodup_finRange n).filter _) fun j hj hj' => ?_
    have first : a ≤ j := by simpa using hj
    have last : j ≤ b := by simpa using hj'
    exact h (first.trans last)

theorem State.fillTargets_nodup (i : SlotIx) (a b : TapIx) (s : State) : (s.fillTargets i a b).Nodup :=
  (wrapRange_nodup a b).filter _

/-- A TAP_FILL reaches the LIVE taps of its slot in its range (R81). -/
theorem State.mem_fillTargets {i : SlotIx} {a b j : TapIx} {s : State} :
    j ∈ s.fillTargets i a b ↔
      (if a ≤ b then a ≤ j ∧ j ≤ b else a ≤ j ∨ j ≤ b) ∧ (s.taps[j]).state = .live ∧ (s.taps[j]).slot = i := by
  rw [State.fillTargets, List.mem_filter, mem_wrapRange]
  simp [Tap.reachedBy]

theorem perm_filter_finRange {n : Nat} {l : List (Fin n)} (hl : l.Nodup) {p : Fin n → Bool} (h : ∀ j, j ∈ l ↔ p j = true) :
    l.Perm ((List.finRange n).filter p) :=
  (List.perm_ext_iff_of_nodup hl ((List.nodup_finRange n).filter p)).mpr fun j => by simp [h]

/-! ## The fields (R80) -/

section
variable {slot first last field v3 v2 v1 v0 : Byte} {s : State} {i : SlotIx} {a b : TapIx}

theorem fillFieldOf_none (h : 2 < field.toNat) (v : Int) : fillFieldOf field v = none := by
  rw [fillFieldOf, if_neg, if_neg, if_neg] <;> rintro rfl <;> exact absurd h (by decide)

theorem ownTapFill_badSlot (h : 7 < slot.toNat) :
    ownTapFill false [slot, first, last, field, v3, v2, v1, v0] s = .refuse .badIndex := by
  rw [ownTapFill, index_of_ge h]

variable (hi : i.val = slot.toNat) (ha : a.val = first.toNat) (hb : b.val = last.toNat)
include hi ha hb

theorem ownTapFill_badField (h : fillFieldOf field (signedOf [v3, v2, v1, v0]) = none) :
    ownTapFill false [slot, first, last, field, v3, v2, v1, v0] s = .refuse .badValue := by
  simp only [ownTapFill, index_of_val i hi, index_of_val a ha, index_of_val b hb, h]

theorem ownTapFill_applied {f : FillField} {c : Bool} (h : fillFieldOf field (signedOf [v3, v2, v1, v0]) = some (f, c)) :
    ownTapFill false [slot, first, last, field, v3, v2, v1, v0] s =
      .done (s.applyTapFill i a b f) (okStatus (c || (s.fillTargets i a b).any fun t => s.fillClamps f t))
        (bytesOf 2 (s.fillTargets i a b).length) := by
  simp only [ownTapFill, index_of_val i hi, index_of_val a ha, index_of_val b hb, h]
  rfl

end

theorem clampInt_ne_iff {lo hi : Int} (h : lo ≤ hi) (v : Int) : clampInt lo hi v ≠ v ↔ v < lo ∨ hi < v := by
  unfold clampInt; omega

/-- The gain that a fill gives a tap, by its destination (R75, R81). -/
theorem clampGainFor_clampGain (d : Dest) (v : Int) :
    clampGainFor d (clampGain v) = match d with
      | .bus _ => max (-32768) (min 32767 v)
      | .line _ => max (-16000) (min 16000 (max (-32768) (min 32767 v))) := by
  cases d with
  | bus b => exact clampInt_clampInt (by decide) v
  | line k => rfl

/-! ## What a fill writes (R81) -/

section
variable (s : State) (i : SlotIx) (a b : TapIx)

theorem State.foldl_mapTap (f : Tap → Tap) (l : List TapIx) (hl : l.Nodup) :
    l.foldl (fun u t => u.mapTap t f) s = { s with taps := mapIx (fun j x => if j ∈ l then f x else x) s.taps } := by
  have fold (u : State) : l.foldl (fun u t => u.mapTap t f) u = { u with taps := l.foldl (fun v t => updateAt v t f) u.taps } := by
    induction l generalizing u with
    | nil => rfl
    | cons t l ih => exact ih (List.nodup_cons.mp hl).2 (u.mapTap t f)
  have taps : l.foldl (fun v t => updateAt v t f) s.taps = mapIx (fun j x => if j ∈ l then f x else x) s.taps :=
    Vector.ext fun j hj => (foldl_updateAt_mem f l hl s.taps ⟨j, hj⟩).trans
      (mapIx_get (fun j x => if j ∈ l then f x else x) s.taps ⟨j, hj⟩).symm
  rw [fold, taps]

variable {reached : TapIx → Bool} (hr : ∀ j, j ∈ s.fillTargets i a b ↔ reached j = true)
include hr

theorem State.fillTargets_length : (s.fillTargets i a b).length = ((List.finRange 256).filter reached).length :=
  (perm_filter_finRange (s.fillTargets_nodup i a b) hr).length_eq

theorem State.fillTargets_count (p : TapIx → Bool) :
    ((s.fillTargets i a b).filter p).length = ((List.finRange 256).filter fun j => reached j && p j).length := by
  rw [((perm_filter_finRange (s.fillTargets_nodup i a b) hr).filter p).length_eq, List.filter_filter]
  simp only [Bool.and_comm]

theorem State.fillTargets_any (p : TapIx → Bool) :
    (s.fillTargets i a b).any p = (List.finRange 256).any fun j => reached j && p j := by
  rw [(perm_filter_finRange (s.fillTargets_nodup i a b) hr).any_eq, List.any_filter]

theorem State.applyTapFill_gain (g : Int) :
    s.applyTapFill i a b (.gain g) = { s with
      taps := mapIx (fun j x => if reached j then { x with gainTarget := clampGainFor x.dest g } else x) s.taps } := by
  have fold := s.foldl_mapTap (fun x => { x with gainTarget := clampGainFor x.dest g }) _ (s.fillTargets_nodup i a b)
  simp only [hr] at fold
  exact fold

theorem State.applyTapFill_depth (d : Nat) :
    s.applyTapFill i a b (.depth d) = { s with
      taps := mapIx (fun j x => if reached j then { x with depth := d } else x) s.taps } := by
  have fold := s.foldl_mapTap (fun x => { x with depth := d }) _ (s.fillTargets_nodup i a b)
  simp only [hr] at fold
  exact fold

theorem State.applyTapFill_delay (d : Nat) :
    s.applyTapFill i a b (.delay d) =
      (({ s with taps := mapIx (fun j x => if reached j then x.delayed d (s.fillTarget d x) else x) s.taps } : State).countSlot i
        (SlotCounters.retargets ((List.finRange 256).filter fun j => reached j && decide (s.fillTarget d s.taps[j] ≠ d)).length
          ((List.finRange 256).filter fun j => reached j && (s.taps[j]).startsTo (s.fillTarget d s.taps[j])).length
          ((List.finRange 256).filter fun j => reached j && (s.taps[j]).supersedesTo (s.fillTarget d s.taps[j])).length)).note
        (Written.retuneTaps fun j => reached j && (s.taps[j]).changesTo (s.fillTarget d s.taps[j])) := by
  have fold := s.foldl_fillTap_delay d i _ (s.fillTargets_nodup i a b) fun j hj => (State.mem_fillTargets.mp hj).2.2
  simp only [s.fillTargets_count i a b hr, hr, Bool.decide_eq_true] at fold
  exact fold

end

/-- Settles O39: the slot and the field; then the reached taps record by record, the counters of their slot and the marks together. -/
theorem tapFillReachesItsTaps : Obligations.TapFillReachesItsTaps := by
  refine ⟨fun r s slot first last field v3 v2 v1 v0 h hp hs => ?_,
    fun r s slot first last field v3 v2 v1 v0 i a b h hp hi ha hb => ?_⟩ <;>
    have hl : r.payload.length = Kind.tapFill.payloadLength := by rw [hp]; rfl
  · exact congrArg Host.Outcome.next (State.take_refused h hl (by rw [hp]; exact ownTapFill_badSlot hs))
  intro inRange reached value count gainFor
  have hr (j : TapIx) : j ∈ s.accepted.fillTargets i a b ↔ reached j = true := by
    rw [State.mem_fillTargets]
    show _ ↔ (inRange j && decide _) = true
    rw [Bool.and_eq_true, decide_eq_true_eq]
    refine and_congr ?_ Iff.rfl
    show _ ↔ (if a ≤ b then decide (a ≤ j ∧ j ≤ b) else decide (a ≤ j ∨ j ≤ b)) = true
    split <;> exact decide_eq_true_iff.symm
  have length := s.accepted.fillTargets_length i a b hr
  have fills {f : FillField} {c : Bool} {u : State} {P : Prop} [Decidable P] (hf : fillFieldOf field value = some (f, c))
      (hu : s.accepted.applyTapFill i a b f = u)
      (hP : (c || (List.finRange 256).any fun j => reached j && s.accepted.fillClamps f j) = true ↔ P) :
      exec (.tapFill r) s = .next (u.replied .tapFill r (if P then .okClamped else .ok) (bytesOf 2 count)) := by
    refine congrArg Host.Outcome.next (State.take_done h hl ?_ (by rw [← hu]; simp))
    rw [hp, ownTapFill_applied hi ha hb hf, hu, length, s.accepted.fillTargets_any i a b hr, okStatus_iff hP]
  refine ⟨?_, ?_, ?_, fun hf => congrArg Host.Outcome.next (State.take_refused h hl
    (by rw [hp]; exact ownTapFill_badField hi ha hb (fillFieldOf_none hf _)))⟩
  · rintro rfl
    have gain (x : Tap) : clampGainFor x.dest (clampGain value) = gainFor x := clampGainFor_clampGain x.dest value
    have wrote := s.accepted.applyTapFill_gain i a b hr (clampGain value)
    simp only [gain] at wrote
    refine fills rfl wrote ?_
    have clamps : (fun j : TapIx => reached j && s.accepted.fillClamps (.gain (clampGain value)) j) =
        fun j : TapIx => reached j && decide (gainFor s.taps[j] ≠ max (-32768) (min 32767 value)) :=
      funext fun j => congrArg (fun g => reached j && decide (g ≠ clampGain value)) (gain s.taps[j])
    rw [clamps, Bool.or_eq_true, decide_eq_true_eq, clampGain, clampInt_ne_iff (by decide), or_assoc]
  · rintro rfl d target changes starts supersedes number clamps
    refine fills rfl (s.accepted.applyTapFill_delay i a b hr d) ?_
    rw [Bool.or_eq_true, decide_eq_true_eq, clampInt_ne_iff (by decide), or_assoc]
    rfl
  · rintro rfl
    refine fills rfl (s.accepted.applyTapFill_depth i a b hr _) ?_
    have none : (List.finRange 256).any (fun j => reached j && s.accepted.fillClamps
        (.depth (clampInt 0 65535 value).toNat) j) = false := List.any_eq_false.mpr fun j _ => by
      rw [State.fillClamps, Bool.and_false]; nofun
    rw [none, Bool.or_false, decide_eq_true_eq, clampInt_ne_iff (by decide)]

end Sys2Proof.Machine
end

section
/-! SUPPORT. Slot records in their ranges (R145): what they are made of, and the operations that write none of it. -/

namespace Sys2Proof.Machine

/-! ## What the ranges are about -/

/-- The fields of a slot record that have a range. -/
def Slot.ranged (x : Slot) : Nat × Nat × Nat × Nat × Nat × Nat :=
  (x.levelTarget, x.level, x.limit, x.runaway, x.windowCount, x.windowLeft)

theorem Slot.InRange.of_ranged {W : Nat} {x y : Slot} (h : x.InRange W) (he : y.ranged = x.ranged) : y.InRange W := by
  simp only [Slot.ranged, Prod.mk.injEq] at he
  obtain ⟨htarget, hlevel, hlimit, hrunaway, hcount, hleft⟩ := he
  exact ⟨htarget ▸ h.target, hlevel ▸ h.level, hlimit ▸ h.limit, hrunaway ▸ h.runaway, hcount ▸ h.window, hleft ▸ h.left⟩

/-- The parts of the state that the ranges of the slots are about. -/
def State.slotted (s : State) :
    Option Rate × (SlotIx → Nat × Nat × Nat × Nat × Nat × Nat) × Option (Vector Slot 8) × List Entry :=
  (s.ec.rate, fun i => (s.sru.slots[i]).ranged, s.fe.computation.map (·.view.slots), s.sru.entries)

/-- A state with the same parts keeps the ranges. -/
theorem State.SlotsInRange.of_slotted {s t : State} (h : s.SlotsInRange) (he : t.slotted = s.slotted) : t.SlotsInRange := by
  simp only [State.slotted, Prod.mk.injEq] at he
  obtain ⟨hrate, hslots, hview, hentries⟩ := he
  have hfs : t.ec.fs = s.ec.fs := by rw [Engine.fs, hrate, Engine.fs]
  refine ⟨?_, fun c hc => ?_, hentries ▸ h.entries⟩
  · rw [hfs, forall_mem_toList]
    exact fun i => ((forall_mem_toList _ _).mp h.slots i).of_ranged (congrFun hslots i)
  · rw [hc, Option.map_some, eq_comm, Option.map_eq_some_iff] at hview
    obtain ⟨d, hd, hdv⟩ := hview
    rw [hfs, ← hdv]
    exact h.view d hd

/-! ## The operations that write none of it -/

theorem State.slotted_of_tables {s t : State} (h : t.tables = s.tables) : t.slotted = s.slotted := by
  simp only [State.tables, Prod.mk.injEq] at h
  obtain ⟨hec, -, -, -, -, hfe, hsru⟩ := h
  simp only [State.slotted, hec, hfe, hsru]

theorem State.mapSlot_slotted (s : State) (i : SlotIx) {f : Slot → Slot} (hf : ∀ x, (f x).ranged = x.ranged) :
    (s.mapSlot i f).slotted = s.slotted := by
  simp only [State.slotted, Prod.mk.injEq]
  refine ⟨rfl, funext fun j => ?_, rfl, rfl⟩
  rw [State.mapSlot_sru, updateAt_get]
  split
  · exact hf _
  · rfl

@[simp] theorem State.countSlot_slotted (s : State) (i : SlotIx) (f : SlotCounters → SlotCounters) :
    (s.countSlot i f).slotted = s.slotted := s.mapSlot_slotted i fun _ => rfl

@[simp] theorem State.countDelayClamp_slotted (s : State) (i : SlotIx) (b : Bool) :
    (s.countDelayClamp i b).slotted = s.slotted := by
  unfold State.countDelayClamp; split <;> simp

@[simp] theorem State.raiseAt_slotted (s : State) (n : Word32) (d : Detail) : (s.raiseAt n d).slotted = s.slotted :=
  State.slotted_of_tables (by simp)

@[simp] theorem State.raise_slotted (s : State) (d : Detail) : (s.raise d).slotted = s.slotted := State.slotted_of_tables (by simp)

@[simp] theorem State.post_slotted (s : State) (n : Word32) (d : Detail) : (s.post n d).slotted = s.slotted := rfl

@[simp] theorem State.alertTest_slotted (s : State) : s.alertTest.slotted = s.slotted := State.slotted_of_tables (by simp)

@[simp] theorem State.note_slotted (s : State) (f : Written → Written) : (s.note f).slotted = s.slotted := by
  simp [State.slotted, State.note, Option.map_map, Function.comp_def]

@[simp] theorem State.withMu_slotted (s : State) (u : ModUnit) : ({ s with mu := u } : State).slotted = s.slotted := rfl

@[simp] theorem State.withPort_slotted (s : State) (p : Port) : ({ s with port := p } : State).slotted = s.slotted := rfl

@[simp] theorem State.withDmc_slotted (s : State) (d : Dmc) : ({ s with dmc := d } : State).slotted = s.slotted := rfl

@[simp] theorem State.withCu_slotted (s : State) (u : CondUnit) : ({ s with cu := u } : State).slotted = s.slotted := rfl

theorem State.withEc_slotted (s : State) (e : Engine) (h : e.rate = s.ec.rate) : ({ s with ec := e } : State).slotted = s.slotted := by
  simp only [State.slotted, h]

@[simp] theorem State.mapLine_slotted (s : State) (k : LineIx) (f : Line → Line) : (s.mapLine k f).slotted = s.slotted := rfl

@[simp] theorem State.mapTap_slotted (s : State) (t : TapIx) (f : Tap → Tap) : (s.mapTap t f).slotted = s.slotted := rfl

@[simp] theorem State.mapMod_slotted (s : State) (m : ModIx) (f : Modulator → Modulator) : (s.mapMod m f).slotted = s.slotted := rfl

@[simp] theorem State.charge_slotted (s : State) (n : Nat) : (s.charge n).slotted = s.slotted := rfl

@[simp] theorem State.refund_slotted (s : State) (n : Nat) : (s.refund n).slotted = s.slotted := rfl

@[simp] theorem State.setFade_slotted (s : State) (m g : Nat) : (s.setFade m g).slotted = s.slotted :=
  (State.note_slotted _ _).trans rfl

@[simp] theorem State.mapLines_slotted (l : List LineIx) (f : Line → Line) (s : State) :
    (l.foldl (fun u k => u.mapLine k f) s).slotted = s.slotted :=
  foldl_keeps State.slotted _ (fun u k => u.mapLine_slotted k f) l s

/-! ## Lines and taps -/

@[simp] theorem State.startScrub_slotted (s : State) : s.startScrub.slotted = s.slotted := by simp [State.slotted]

@[simp] theorem State.activateLine_slotted (s : State) (k : LineIx) : (s.activateLine k).slotted = s.slotted := rfl

@[simp] theorem State.serveWaitList_slotted (s : State) : s.serveWaitList.slotted = s.slotted := by simp [State.slotted]

@[simp] theorem State.releaseTapsOf_slotted (s : State) (k : LineIx) : (s.releaseTapsOf k).slotted = s.slotted := rfl

@[simp] theorem State.freeLine_slotted (s : State) (k : LineIx) : (s.freeLine k).slotted = s.slotted := by simp [State.freeLine]

@[simp] theorem State.completeClose_slotted (s : State) (k : LineIx) : (s.completeClose k).slotted = s.slotted := by
  unfold State.completeClose; split <;> simp

@[simp] theorem State.completeCloses_slotted (s : State) : s.completeCloses.slotted = s.slotted :=
  (State.startScrub_slotted _).trans (foldl_keeps State.slotted _ State.completeClose_slotted _ s)

@[simp] theorem State.removeTap_slotted (s : State) (t : TapIx) : (s.removeTap t).slotted = s.slotted := by simp [State.removeTap]

@[simp] theorem State.removeTapsOf_slotted (s : State) (k : LineIx) : (s.removeTapsOf k).slotted = s.slotted :=
  foldl_keeps State.slotted (State.removeTapOf k) (fun u t => by unfold State.removeTapOf; split <;> simp) _ s

@[simp] theorem State.dropWaiting_slotted (s : State) (k : LineIx) : (s.dropWaiting k).slotted = s.slotted := by
  simp [State.dropWaiting]

@[simp] theorem State.beginClose_slotted (s : State) (k : LineIx) : (s.beginClose k).slotted = s.slotted := by
  simp [State.beginClose]

@[simp] theorem State.closeWaiting_slotted (s : State) (k : LineIx) : (s.closeWaiting k).slotted = s.slotted := by
  simp [State.closeWaiting]

@[simp] theorem State.closeActive_slotted (s : State) (k : LineIx) : (s.closeActive k).slotted = s.slotted := by
  simp [State.closeActive]

@[simp] theorem State.groupClose_slotted (s : State) (p : Line → Bool) : (s.groupClose p).slotted = s.slotted := by
  have dropped (l : List LineIx) (u : State) : (l.foldl (fun u k => u.dropWaiting k) u).slotted = u.slotted :=
    foldl_keeps State.slotted _ State.dropWaiting_slotted l u
  have begun (l : List LineIx) (u : State) : (l.foldl (fun u k => u.beginClose k) u).slotted = u.slotted :=
    foldl_keeps State.slotted _ State.beginClose_slotted l u
  simp [State.groupClose, dropped, begun]

@[simp] theorem State.enterTap_slotted (s : State) (t : TapIx) (x : Tap) : (s.enterTap t x).slotted = s.slotted := by
  simp [State.enterTap]

@[simp] theorem State.handTarget_slotted (s : State) (t : TapIx) (n : Nat) : (s.handTarget t n).slotted = s.slotted := by
  unfold State.handTarget; dsimp only; split <;> simp

@[simp] theorem State.formTarget_slotted (s : State) (t : TapIx) : (s.formTarget t).slotted = s.slotted := by
  simp [State.formTarget]

@[simp] theorem State.followTempo_slotted (s : State) (t : TapIx) : (s.followTempo t).slotted = s.slotted := by
  unfold State.followTempo; split <;> simp

@[simp] theorem State.applyTapSet_slotted (s : State) (t : TapIx) (p : TapParts) : (s.applyTapSet t p).slotted = s.slotted := by
  unfold State.applyTapSet; dsimp only; split <;> simp

@[simp] theorem State.fillTap_slotted (s : State) (f : FillField) (t : TapIx) : (s.fillTap f t).slotted = s.slotted := by
  cases f <;> simp [State.fillTap]

@[simp] theorem State.applyTapFill_slotted (s : State) (i : SlotIx) (a b : TapIx) (f : FillField) :
    (s.applyTapFill i a b f).slotted = s.slotted :=
  foldl_keeps State.slotted _ (fun u t => u.fillTap_slotted f t) _ _

/-! ## Modulators and tempo, the output map -/

@[simp] theorem State.beatOccurs_slotted (s : State) : s.beatOccurs.slotted = s.slotted := by simp [State.beatOccurs]

@[simp] theorem State.markBeat_slotted (s : State) : s.markBeat.slotted = s.slotted := by simp [State.markBeat]

@[simp] theorem State.setTempo_slotted (s : State) (b : Nat) : (s.setTempo b).slotted = s.slotted := by
  have follow (l : List TapIx) (u : State) : (l.foldl State.followTempo u).slotted = u.slotted :=
    foldl_keeps State.slotted _ State.followTempo_slotted l u
  unfold State.setTempo; dsimp only; (repeat' split) <;> simp [follow]

@[simp] theorem State.armTracker_slotted (s : State) : s.armTracker.slotted = s.slotted := by simp [State.armTracker]

@[simp] theorem State.acceptMark_slotted (s : State) (i : Nat) : (s.acceptMark i).slotted = s.slotted := by simp [State.acceptMark]

@[simp] theorem State.writeMapEntry_slotted (s : State) (i : EntryIx) (e : MapEntry) :
    (s.writeMapEntry i e).slotted = s.slotted := rfl

@[simp] theorem State.fillMap_slotted (s : State) (i j : EntryIx) (st : Bool) (e : MapEntry) :
    (s.fillMap i j st e).slotted = s.slotted := by
  unfold State.fillMap
  exact foldl_keeps (α := EntryIx × Nat) State.slotted _ (fun u x => u.writeMapEntry_slotted x.1 _) _ _

/-! ## Halts and the clock -/

@[simp] theorem State.haltCause_slotted (s : State) (n : Word32) (w : HaltReason) : (s.haltCause n w).slotted = s.slotted := by
  simp [State.slotted]

@[simp] theorem State.memoryClean_slotted (s : State) : s.memoryClean.slotted = s.slotted := by
  unfold State.memoryClean
  split
  · rw [State.raise_slotted]; exact s.withEc_slotted _ rfl
  · rfl

@[simp] theorem State.checkWord_slotted (s : State) (n : Nat) (w : Word24) (fresh : Bool) :
    (s.checkWord n w fresh).slotted = s.slotted := by
  unfold State.checkWord; dsimp only; (repeat' split) <;> simp

end Sys2Proof.Machine
end

section
/-! SUPPORT. Slot records in their ranges (R145): the kinds that write none of what the ranges are about. -/

namespace Sys2Proof.Machine

/-- The kinds that write ranges of slots, or that form or apply entries (R149, R153, R164, R165). -/
def Kind.writesSlots : Kind → Bool
  | .init | .start | .outmapSet | .outmapFill | .lineSet | .tapSet | .tapFill | .modSet | .tempoSet | .slotSet | .commit | .discard
  | .schedCancel => true
  | _ => false

/-- Every other kind leaves the ranges of the slots alone. -/
theorem ownerOf_slotted (k : Kind) (hk : k.writesSlots = false) (b : Bool) (p : List Byte) (s : State) :
    (ownerOf k b p s).Leaves fun t => t.slotted = s.slotted := by
  cases k with
  | init | start | outmapSet | outmapFill | lineSet | tapSet | tapFill | modSet | tempoSet | slotSet | commit | discard
  | schedCancel => cases hk
  | status | reset | timeGet | outmapGet | poolGet | tempoGet | schedGet | condGet | checkRead | checkClear | probeGet => rfl
  | stop => show (ownStop b p s).Leaves _; unfold ownStop; split <;> simp [State.slotted]
  | halt => show (ownHalt b p s).Leaves _; unfold ownHalt; split <;> simp
  | resume => show (ownResume b p s).Leaves _; unfold ownResume; (repeat' split) <;> simp [State.slotted, Function.comp_def]
  | portDrive => show (ownPortDrive b p s).Leaves _; unfold ownPortDrive; (repeat' split) <;> simp
  | portBypass => show (ownPortBypass b p s).Leaves _; unfold ownPortBypass; (repeat' split) <;> simp
  | checkSet => show (ownCheckSet b p s).Leaves _; unfold ownCheckSet; (repeat' split) <;> simp
  | lineOpen =>
    show (ownLineOpen b p s).Leaves _
    unfold ownLineOpen
    (repeat' split) <;> try exact Verdict.leaves_refuse _ _
    dsimp only
    split
    · exact Verdict.leaves_refuse _ _
    · unfold admitLine
      dsimp only
      split
      · rfl
      · exact (State.raise_slotted _ _).trans rfl
  | lineClose => show (ownLineClose b p s).Leaves _; unfold ownLineClose; (repeat' split) <;> simp
  | lineReleaseTag => show (ownLineReleaseTag b p s).Leaves _; unfold ownLineReleaseTag; split <;> simp
  | lineReleaseAll => exact (State.withDmc_slotted _ _).trans (s.groupClose_slotted _)
  | lineGet => show (ownLineGet b p s).Leaves _; unfold ownLineGet; (repeat' split) <;> simp
  | tapCreate => show (ownTapCreate b p s).Leaves _; unfold ownTapCreate; (repeat' split) <;> simp
  | tapFree => show (ownTapFree b p s).Leaves _; unfold ownTapFree; (repeat' split) <;> simp
  | tapGet => show (ownTapGet b p s).Leaves _; unfold ownTapGet; (repeat' split) <;> simp
  | modSync => show (ownModSync b p s).Leaves _; unfold ownModSync; (repeat' split) <;> simp
  | modGet => show (ownModGet b p s).Leaves _; unfold ownModGet; (repeat' split) <;> simp
  | beat => show (ownBeat b p s).Leaves _; unfold ownBeat; (repeat' split) <;> simp
  | slotClear => show (ownSlotClear b p s).Leaves _; unfold ownSlotClear; (repeat' split) <;> simp
  | slotGet => show (ownSlotGet b p s).Leaves _; unfold ownSlotGet; (repeat' split) <;> simp
  | condEnable => show (ownCondEnable b p s).Leaves _; unfold ownCondEnable; split <;> simp
  | alertRelease => show (ownAlertRelease b p s).Leaves _; unfold ownAlertRelease; split <;> simp
  | probeSet => show (ownProbeSet b p s).Leaves _; unfold ownProbeSet; (repeat' split) <;> simp
  | countersGet => show (ownCountersGet b p s).Leaves _; unfold ownCountersGet; (repeat' split) <;> simp

/-- Halts, the clock and the tracker leave the ranges of the slots alone (R140, R169, R170). -/
theorem timed_slotted {s t : State} (ht : (∃ n, execRateMeasurementComplete n s = .next t) ∨ execRateMeasurementLoss s = .next t ∨
    execClockLost s = .next t ∨ execTrackerTimeout s = .next t) : t.slotted = s.slotted := by
  obtain ⟨n, ht⟩ | ht | ht | ht := ht <;> obtain rfl := Host.Outcome.next.inj ht <;> (repeat' split) <;> simp [State.slotted]

end Sys2Proof.Machine
end

section
/-! SUPPORT. Slot records in their ranges (R145): every owner and every event keeps them. -/

namespace Sys2Proof.Machine

/-! ## One slot -/

/-- SLOT_SET writes parts in their ranges (R149). -/
theorem Slot.InRange.write {W : Nat} {x : Slot} (h : x.InRange W) {p : SlotParts}
    (hl : ∀ l, p.level = some l → l ≤ 16384) (hn : ∀ n, p.limit = some n → 1 ≤ n ∧ n ≤ 255) : (x.write p).InRange W where
  target := by
    show p.level.getD x.levelTarget ≤ 16384
    cases hp : p.level with
    | none => exact h.target
    | some l => exact hl l hp
  level := h.level
  limit := by
    show 1 ≤ p.limit.getD x.limit ∧ p.limit.getD x.limit ≤ 255
    cases hp : p.limit with
    | none => exact h.limit
    | some n => exact hn n hp
  runaway := h.runaway
  window := h.window
  left := h.left

/-- Below the limit a saturation is counted; at the limit the window's count starts over (R147). -/
theorem Slot.InRange.hit {W : Nat} {x : Slot} (h : x.InRange W) (kept : Bool) : (x.hit kept).InRange W := by
  unfold Slot.hit
  split
  · exact h
  · split
    · exact { h with runaway := Nat.min_le_left 4 _, window := Nat.zero_le _ }
    · rename_i hk ht
      refine { h with window := ?_ }
      have hlimit := h.limit.2
      simp only [Slot.trips, hk, Bool.not_false, Bool.true_and, decide_eq_true_eq, Nat.not_le] at ht
      show x.windowCount + 1 ≤ 254
      omega

theorem Slot.InRange.hits {W : Nat} {x : Slot} (h : x.InRange W) (kept : Bool) (n : Nat) :
    (Nat.repeat (Slot.hit kept) n x).InRange W := by
  induction n with
  | zero => exact h
  | succ n ih => exact ih.hit kept

/-- A window that runs out starts over with its full length (R148). -/
theorem Slot.InRange.window_of {W : Nat} {x : Slot} (h : x.InRange W) (kept : Bool) : (x.window kept W).InRange W := by
  unfold Slot.window Slot.advanceWindow
  split
  · exact h
  · split
    · exact { h with left := (Nat.sub_le _ 1).trans h.left }
    · refine { h with runaway := ?_, window := Nat.zero_le _, left := Nat.le_refl W }
      have hrunaway := h.runaway
      show (if _ then _ else _) ≤ 4
      split
      · exact (Nat.sub_le _ 1).trans hrunaway
      · exact hrunaway

/-- A level that steps toward its effective target stays in the range of the two (R146). -/
theorem Slot.InRange.level_step {W : Nat} {x : Slot} (h : x.InRange W) :
    (approach 64 x.level x.effectiveTarget).toNat ≤ 16384 := by
  have htarget : x.effectiveTarget ≤ 16384 := by
    unfold Slot.effectiveTarget
    split
    · exact Nat.zero_le _
    · exact h.target
  have hlevel := h.level
  have hstep := approach_cases 64 x.level x.effectiveTarget (by decide)
  omega

theorem Sru.withSlots_entries (u : Sru) (v : Vector Slot 8) : ({ u with slots := v } : Sru).entries = u.entries := rfl

/-- A verdict that leaves what the ranges are about as it was keeps the ranges. -/
theorem Verdict.Leaves.slotsInRange {v : Verdict} {s : State} (hv : v.Leaves fun t => t.slotted = s.slotted) (h : s.SlotsInRange) :
    v.Leaves State.SlotsInRange := by
  cases v with
  | refuse st => trivial
  | done t st p => exact h.of_slotted hv

namespace State.SlotsInRange

variable {s : State}

theorem slot (h : s.SlotsInRange) (i : SlotIx) : (s.sru.slots[i]).InRange (s.ec.fs / 10) := (forall_mem_toList _ _).mp h.slots i

theorem mapSlot (h : s.SlotsInRange) (i : SlotIx) {f : Slot → Slot}
    (hf : ∀ x, x.InRange (s.ec.fs / 10) → (f x).InRange (s.ec.fs / 10)) : (s.mapSlot i f).SlotsInRange :=
  { h with slots := forall_mem_updateAt h.slots i hf }

/-! ## Entries and lists -/

theorem withSru (h : s.SlotsInRange) {u : Sru} (hs : u.slots = s.sru.slots) (hu : ∀ e ∈ u.entries, e ∈ s.sru.entries) :
    SlotsInRange { s with sru := u } :=
  ⟨hs ▸ h.slots, h.view, fun e he => h.entries e (hu e he)⟩

theorem applyEntry (h : s.SlotsInRange) {e : Entry} (he : e.slotFits) : (e.apply s).SlotsInRange := by
  cases e with
  | lineSet k p i => exact h.of_slotted (mapLine_slotted s k _)
  | tapSet t p i => exact h.of_slotted (applyTapSet_slotted s t p)
  | tapFill i a b f => exact h.of_slotted (applyTapFill_slotted s i a b f)
  | slotSet i p => exact h.mapSlot i fun _ hx => hx.write he.1 he.2
  | modSet m p => exact h.of_slotted (mapMod_slotted s m _)
  | tempoSet b => exact h.of_slotted (setTempo_slotted s b)
  | outmapSet i v => exact h.of_slotted (writeMapEntry_slotted s i v)
  | outmapFill i j st v => exact h.of_slotted (fillMap_slotted s i j st v)

theorem handleEntry {x : State × Tallied} (h : x.1.SlotsInRange) {e : Entry} (he : e.slotFits) :
    (handleEntry x e).1.SlotsInRange := by
  have counted (f : SlotCounters → SlotCounters) : SlotsInRange (e.slot.elim x.1 fun i => x.1.countSlot i f) := by
    cases e.slot with
    | none => exact h
    | some i => exact h.of_slotted (countSlot_slotted _ i _)
  unfold Machine.handleEntry
  split
  · exact counted _
  · split
    · exact counted _
    · exact h.applyEntry he

theorem applyList (h : s.SlotsInRange) {l : List Entry} (hl : ∀ e ∈ l, e.slotFits) : (applyList l s).1.SlotsInRange := by
  have fold (n : Tallied) : SlotsInRange (l.foldl Machine.handleEntry (s, n)).1 :=
    List.foldlRecOn (motive := fun x : State × Tallied => x.1.SlotsInRange) l _ h fun _ hx e he => handleEntry hx (hl e he)
  unfold Machine.applyList
  dsimp only
  split
  · exact fold _
  · exact (fold _).of_slotted (raise_slotted _ _)

theorem applyAction (h : s.SlotsInRange) {a : Action} (ha : ∀ e ∈ a.entries, e.slotFits) : (s.applyAction a).SlotsInRange := by
  unfold State.applyAction
  dsimp only
  refine applyList ?_ ha
  split
  · exact h
  · exact h.of_slotted ((raise_slotted _ _).trans rfl)

theorem applyDueWork (h : s.SlotsInRange) : s.applyDueWork.SlotsInRange := by
  have hq (a : Action) (ha : a ∈ s.sru.queue) (e : Entry) (he : e ∈ a.entries) : e.slotFits :=
    h.entries e (by simp only [Sru.entries, List.mem_append, List.mem_flatMap]; exact .inr ⟨a, ha, he⟩)
  have h1 : SlotsInRange { s with sru := { s.sru with queue := s.sru.queue.filter fun a => !a.isDue, dueNow := [] } } :=
    h.withSru rfl fun e he => by
      simp only [Sru.entries, List.mem_append, List.mem_flatMap, List.mem_filter] at he ⊢
      aesop
  refine applyList (List.foldlRecOn _ _ h1 fun _ hu a ha => hu.applyAction (hq a (List.mem_filter.mp ha).1)) fun e he => ?_
  exact h.entries e (by simp only [Sru.entries, List.mem_append]; exact .inl (.inr he))

/-! ## The frame computation -/

/-- A completion leaves each slot its saturations, its window and the level step of the view (R104, R146 to R148). -/
theorem slotAfter_inRange {c : Computation} (hc : ∀ r ∈ c.view.slots.toList, r.InRange (s.ec.fs / 10))
    (h : s.SlotsInRange) (o : Vector TapOut 256) (cs : List (Dest × Int)) (i : SlotIx) :
    (c.slotAfter o cs s i).InRange (s.ec.fs / 10) := by
  have window := ((h.slot i).hits c.written.windows
    ((List.finRange 64).filter (c.saturatesSlot cs i)).length).window_of c.written.windows
  have level := ((forall_mem_toList _ _).mp hc i).level_step
  exact ⟨window.target, level, window.limit, window.runaway, window.window, window.left⟩

/-- What the completion writes of the SRU is those slots; no computation is in progress after it (R104). -/
theorem finish (h : s.SlotsInRange) {c : Computation} (hc : ∀ r ∈ c.view.slots.toList, r.InRange (s.ec.fs / 10)) :
    (s.finish c).SlotsInRange := by
  have hfs (o : Vector TapOut 256) (cs : List (Dest × Int)) : (s.finishFrom c o cs).ec.fs = s.ec.fs := by
    rw [finishFrom_ec]; exact Engine.faulted_fs _ _ _
  have hsru (o : Vector TapOut 256) (cs : List (Dest × Int)) := finishFrom_sru c o cs s
  have idle := State.Idle.finish s c
  rw [finish_eq] at idle ⊢
  generalize c.contributions (c.tapOuts s.dmc.memory) = cs at idle ⊢
  generalize c.tapOuts s.dmc.memory = o at idle ⊢
  refine of_slotted ⟨?_, fun d hd => ?_, ?_⟩ (alertTest_slotted _)
  · rw [hfs, forall_mem_toList]
    exact fun i => by rw [(hsru o cs).2 i]; exact slotAfter_inRange hc h o cs i
  · have none : (s.finishFrom c o cs).fe.computation = none :=
      (congrArg FrameEngine.computation (State.Idle.alertTest_fe _)).symm.trans idle
    rw [none] at hd
    cases hd
  · have entries : (s.finishFrom c o cs).sru.entries = s.sru.entries := (congrArg Sru.entries (hsru o cs).1).trans (Sru.withSlots_entries _ _)
    exact fun e he => h.entries e ((congrArg (e ∈ ·) entries).mp he)

theorem completeComputation (h : s.SlotsInRange) (l : List Strike) : (s.completeComputation l).SlotsInRange := by
  have h1 : SlotsInRange { s with dmc := { s.dmc with memory := l.foldl Memory.strike s.dmc.memory } } := h.of_slotted rfl
  unfold State.completeComputation
  dsimp only
  split
  · exact h1
  · rename_i c hc; exact h1.finish (h.view c hc)

/-! ## The frame boundary, resets and the clear -/

theorem testSchedule (h : s.SlotsInRange) : s.testSchedule.SlotsInRange :=
  h.withSru rfl fun e he => by simpa [Sru.entries, List.mem_flatMap] using he

theorem clockBack (h : s.SlotsInRange) : s.clockBack.SlotsInRange := by
  unfold State.clockBack
  split
  · exact h.of_slotted (by rw [raise_slotted, setFade_slotted]; exact s.withEc_slotted _ rfl)
  · exact h

theorem beginComputation (h : s.SlotsInRange) : s.beginComputation.SlotsInRange := by
  have h1 := h.applyDueWork
  exact { h1 with view := fun c hc => by cases hc; exact h1.slots }

theorem initBlocks (s : State) (rate : Rate) (action : HaltAction) : (s.initBlocks rate action).SlotsInRange := by
  unfold State.initBlocks
  refine of_slotted ?_ (startScrub_slotted _)
  exact {
    slots := forall_mem_toList_replicate 8 (Slot.resetValue_inRange _)
    view := nofun
    entries := nofun }

theorem pageClear {t : State} (h : s.SlotsInRange) (ht : execPageClearComplete s = .next t) : t.SlotsInRange := by
  obtain rfl := Host.Outcome.next.inj ht
  split
  · exact h
  · exact h.of_slotted (by rw [memoryClean_slotted, startScrub_slotted, serveWaitList_slotted, withDmc_slotted])

theorem inputSlot {t : State} {n : Nat} {w : Word24} {fresh : Bool} (h : s.SlotsInRange)
    (ht : execInputSlotReceived n w fresh s = .next t) : t.SlotsInRange := by
  obtain rfl := Host.Outcome.next.inj ht
  split
  · exact h.of_slotted (by rw [checkWord_slotted, withPort_slotted])
  · exact h

/-! ## The owners -/

/-- A START begins the windows at their full length (R148). -/
theorem beginWindows (h : s.SlotsInRange) : s.beginWindows.SlotsInRange := by
  refine of_slotted (s := { s with sru := { s.sru with slots := mapIx (fun _ r => { r with
    windowCount := 0, windowSaturated := false, windowLeft := s.ec.windowLength }) s.sru.slots } })
    ⟨?_, h.view, h.entries⟩ (note_slotted _ _)
  rw [forall_mem_toList]
  intro i
  rw [mapIx_get]
  exact { h.slot i with window := Nat.zero_le _, left := Nat.le_refl _ }

/-- A staged entry in its ranges joins the list (R154). -/
theorem stageEntry (h : s.SlotsInRange) {e : Entry} (he : e.slotFits) (clamped : Bool) :
    (stageEntry e clamped s).Leaves State.SlotsInRange := by
  unfold Machine.stageEntry
  split
  · trivial
  · refine { h with entries := fun x hx => ?_ }
    simp only [Sru.entries, List.mem_append, List.mem_singleton] at hx
    rcases hx with ((hx | rfl) | hx) | hx
    · exact h.entries x (by simp [Sru.entries, hx])
    · exact he
    · exact h.entries x (by simp [Sru.entries, hx])
    · exact h.entries x (List.mem_append_right _ hx)

/-- A staged request joins the list; the direct one leaves the ranges alone. -/
theorem staged_or (h : s.SlotsInRange) {b : Bool} {e : Entry} (he : e.slotFits) {clamped : Bool} {t : State} {st : Status}
    {q : List Byte} (ht : t.slotted = s.slotted) :
    (if b then Machine.stageEntry e clamped s else .done t st q).Leaves State.SlotsInRange := by
  split
  · exact h.stageEntry he _
  · exact h.of_slotted ht

theorem ownStart (h : s.SlotsInRange) (b : Bool) (p : List Byte) : (ownStart b p s).Leaves State.SlotsInRange := by
  unfold Machine.ownStart
  split
  · exact (h.of_slotted (by rw [enterRunning, setFade_slotted]; exact s.withEc_slotted _ rfl)).beginWindows
  · exact h
  · exact h.of_slotted (s.withEc_slotted _ rfl)
  · trivial

/-- The parts of a SLOT_SET are clamped to their ranges (R149). -/
theorem ownSlotSet (h : s.SlotsInRange) (b : Bool) (p : List Byte) : (ownSlotSet b p s).Leaves State.SlotsInRange := by
  unfold Machine.ownSlotSet
  iterate 5 (split <;> try exact Verdict.leaves_refuse _ _)
  have hl (c : Bool) (n : Nat) : ∀ l, (if c then some (clampNat 0 16384 n) else none) = some l → l ≤ 16384 := fun l hl => by
    split at hl
    · cases hl; exact (clampNat_mem (by decide) _).2
    · cases hl
  have hn (c : Bool) (n : Nat) : ∀ l, (if c then some (clampNat 1 255 n) else none) = some l → 1 ≤ l ∧ l ≤ 255 := fun l hl => by
    split at hl
    · cases hl; exact clampNat_mem (by decide) _
    · cases hl
  cases b
  · exact h.mapSlot _ fun _ hx => hx.write (hl _ _) (hn _ _)
  · exact h.stageEntry (e := .slotSet _ _) ⟨hl _ _, hn _ _⟩ _

theorem commitNow (h : s.SlotsInRange) : (commitNow s).Leaves State.SlotsInRange := by
  have hdue : ∀ e ∈ s.sru.dueNow, e.slotFits := fun e he => h.entries e (by simp [Sru.entries, he])
  have hstaging : ∀ e ∈ s.sru.staging, e.slotFits := fun e he => h.entries e (by simp [Sru.entries, he])
  unfold Machine.commitNow
  split
  · split
    · exact h
    · exact h.withSru (u := { s.sru with staging := [], dueNow := s.sru.dueNow ++ s.sru.staging }) rfl fun e he => by
        simp only [Sru.entries, List.mem_append, List.nil_append] at he ⊢
        tauto
  · have h1 : SlotsInRange { s with sru := { s.sru with staging := [], dueNow := [] } } := h.withSru rfl fun e he => by
      simp only [Sru.entries, List.nil_append] at he
      exact List.mem_append_right _ he
    exact (h1.applyList hdue).applyList hstaging

theorem commitAt (h : s.SlotsInRange) (f : Word32) : (commitAt f s).Leaves State.SlotsInRange := by
  unfold Machine.commitAt
  (repeat' split) <;> try exact Verdict.leaves_refuse _ _
  refine h.withSru rfl fun e he => ?_
  simp only [Sru.entries, List.mem_append, List.mem_flatMap, List.nil_append, mem_placeAction] at he ⊢
  obtain he | ⟨a, rfl | ha, he⟩ := he
  · exact .inl (.inr he)
  · exact .inl (.inl he)
  · exact .inr ⟨a, ha, he⟩

theorem ownCommit (h : s.SlotsInRange) (b : Bool) (p : List Byte) : (ownCommit b p s).Leaves State.SlotsInRange := by
  unfold Machine.ownCommit
  (repeat' split) <;> try exact Verdict.leaves_refuse _ _
  · exact h.commitNow
  · exact h.commitAt _

theorem ownDiscard (h : s.SlotsInRange) (b : Bool) (p : List Byte) : (ownDiscard b p s).Leaves State.SlotsInRange :=
  h.withSru (u := { s.sru with staging := [] }) rfl fun e he => by
    simp only [Sru.entries, List.mem_append, List.nil_append] at he ⊢
    tauto

theorem ownSchedCancel (h : s.SlotsInRange) (b : Bool) (p : List Byte) : (ownSchedCancel b p s).Leaves State.SlotsInRange := by
  unfold Machine.ownSchedCancel
  (repeat' split) <;> try exact Verdict.leaves_refuse _ _
  refine h.withSru rfl fun e he => ?_
  simp only [Sru.entries, List.mem_append, List.mem_flatMap, List.mem_filter] at he ⊢
  obtain he | ⟨a, ⟨ha, -⟩, he⟩ := he
  · exact .inl he
  · exact .inr ⟨a, ha, he⟩

/-- Every owner keeps the ranges. -/
theorem owner (h : s.SlotsInRange) (k : Kind) (b : Bool) (p : List Byte) : (ownerOf k b p s).Leaves State.SlotsInRange := by
  cases k with
  | init =>
    show (ownInit b p s).Leaves _
    unfold ownInit
    (repeat' split) <;> try exact Verdict.leaves_refuse _ _
    exact initBlocks s _ _
  | start => exact h.ownStart b p
  | outmapSet =>
    show (ownOutmapSet b p s).Leaves _
    unfold ownOutmapSet
    (repeat' split) <;> try exact Verdict.leaves_refuse _ _
    · exact h.stageEntry (e := .outmapSet _ _) True.intro _
    · exact h.of_slotted (writeMapEntry_slotted _ _ _)
  | outmapFill =>
    show (ownOutmapFill b p s).Leaves _
    unfold ownOutmapFill
    (repeat' split) <;> try exact Verdict.leaves_refuse _ _
    · exact h.stageEntry (e := .outmapFill _ _ _ _) True.intro _
    · exact h.of_slotted (fillMap_slotted _ _ _ _ _)
  | lineSet =>
    show (ownLineSet b p s).Leaves _
    unfold ownLineSet
    iterate 4 (split <;> try exact Verdict.leaves_refuse _ _)
    exact h.staged_or (e := .lineSet _ _ _) True.intro (mapLine_slotted _ _ _)
  | tapSet =>
    show (ownTapSet b p s).Leaves _
    unfold ownTapSet
    (repeat' split) <;> try exact Verdict.leaves_refuse _ _
    · exact h.stageEntry (e := .tapSet _ _ _) True.intro _
    · exact h.of_slotted (applyTapSet_slotted _ _ _)
  | tapFill =>
    show (ownTapFill b p s).Leaves _
    unfold ownTapFill
    (repeat' split) <;> try exact Verdict.leaves_refuse _ _
    · exact h.stageEntry (e := .tapFill _ _ _ _) True.intro _
    · exact h.of_slotted (applyTapFill_slotted _ _ _ _ _)
  | modSet =>
    show (ownModSet b p s).Leaves _
    unfold ownModSet
    iterate 5 (split <;> try exact Verdict.leaves_refuse _ _)
    exact h.staged_or (e := .modSet _ _) True.intro (mapMod_slotted _ _ _)
  | tempoSet =>
    show (ownTempoSet b p s).Leaves _
    unfold ownTempoSet
    (repeat' split) <;> try exact Verdict.leaves_refuse _ _
    · exact h.stageEntry (e := .tempoSet _) True.intro _
    · exact h.of_slotted (setTempo_slotted _ _)
  | slotSet => exact h.ownSlotSet b p
  | commit => exact h.ownCommit b p
  | discard => exact h.ownDiscard b p
  | schedCancel => exact h.ownSchedCancel b p
  | _ => exact (ownerOf_slotted _ rfl b p s).slotsInRange h

end State.SlotsInRange

/-- The ranges of the slots are kept by every owner and every event. -/
theorem State.SlotsInRange.kept : KeptByTables State.SlotsInRange where
  frame ht h := h.of_slotted (State.slotted_of_tables ht)
  owner k b p _ h := h.owner k b p
  reset _ _ := State.reset_slotsInRange.of_slotted rfl
  completion l _ h := h.completeComputation l
  boundary _ h := h.of_slotted (State.withEc_slotted _ _ rfl)
  schedule _ h := h.testSchedule
  clockBack _ h := h.clockBack
  computation _ h := h.beginComputation
  clear _ _ h ht := h.pageClear ht
  input _ _ _ _ _ h ht := h.inputSlot ht
  measured _ _ _ h ht := h.of_slotted (timed_slotted (.inl ⟨_, ht⟩))
  lost _ _ h ht := h.of_slotted (timed_slotted (.inr (ht.imp_right .inl)))
  timeout _ _ h ht := h.of_slotted (timed_slotted (.inr (.inr (.inr ht))))

end Sys2Proof.Machine
end

section
/-! SUPPORT. Taps in their ranges (R66, R75): one tap record under the operations that write it. -/

namespace Sys2Proof.Machine

/-- A clamped gain is one that its destination admits (R75). -/
theorem Dest.admitsGain_clamp (d : Dest) (g : Int) : d.admitsGain (clampGainFor d g) := by
  cases d with
  | bus _ => exact clampInt_mem (by decide) g
  | line _ => exact clampInt_mem (by decide) g

theorem Dest.admitsGain_zero (d : Dest) : d.admitsGain 0 := by cases d <;> exact ⟨by decide, by decide⟩

/-- A gain that steps toward its target is admitted where both are (R76). -/
theorem Dest.admitsGain_approach {d : Dest} {g n : Int} (hg : d.admitsGain g) (hn : d.admitsGain n) :
    d.admitsGain (approach 64 g n) := by
  have step := approach_cases 64 g n (by decide)
  cases d <;> simp only [Dest.admitsGain] at hg hn ⊢ <;> omega

/-- A target is clamped to the range of the source line, if the line has one (R74). -/
theorem delayFits_targetFor {L : Nat} (h : 256 ≤ (L - 1) * 256) (sp : DelaySpec) (tempo : Nat) :
    DelayFits L (targetFor sp tempo L) := clampNat_mem h _

namespace Tap.InRange

variable {L : Nat} {t : Tap}

/-- The source line of a tap in its ranges is long enough for a delay (R66). -/
theorem room (h : t.InRange L) : 256 ≤ (L - 1) * 256 := h.target.1.trans h.target.2

theorem startRetune (h : t.InRange L) {n : Nat} (hn : DelayFits L n) : (t.startRetune n).InRange L := by
  unfold Tap.startRetune
  split
  · refine { h with target := hn, fading := fun m k F p he => ?_ }
    cases he
    exact ⟨hn, nofun⟩
  · exact { h with target := hn, fading := nofun }

/-- A new target in the range keeps the tap in its ranges, in every retune state (R109 to R112). -/
theorem retarget (h : t.InRange L) {n : Nat} (hn : DelayFits L n) : (t.retarget n).1.InRange L := by
  unfold Tap.retarget
  split
  · exact h
  · split
    · exact h.startRetune hn
    · rename_i m k F p hr
      have hm : DelayFits L m := (h.fading m k F p hr).1
      split
      · refine { h with target := hm, fading := fun m' k' F' p' he => ?_ }
        cases he
        exact ⟨hm, nofun⟩
      · refine { h with target := hn, fading := fun m' k' F' p' he => ?_ }
        cases he
        exact ⟨hm, fun q hq => by cases hq; exact hn⟩
    · split
      · exact { h with target := h.position, fading := nofun }
      · exact { h with target := hn, fading := nofun }

/-- A fade ends at a position in the range, and a glide moves between two (R113, R114, R116). -/
theorem advanceRetune (h : t.InRange L) : t.advanceRetune.1.InRange L := by
  unfold Tap.advanceRetune
  split
  · exact h
  · rename_i n k F p hr
    obtain ⟨hn, hp⟩ := h.fading n k F p hr
    split
    · refine { h with fading := fun n' k' F' p' he => ?_ }
      cases he
      exact ⟨hn, hp⟩
    · have arrived : Tap.InRange L { t with position := n, retune := .idle } := { h with position := hn, fading := nofun }
      split
      · exact arrived
      · exact arrived.startRetune (hp _ rfl)
  · rename_i step hr
    have moved : DelayFits L (approach step t.position t.target).toNat := by
      obtain ⟨hlo, hhi⟩ := h.position
      obtain ⟨tlo, thi⟩ := h.target
      have between := approach_cases step t.position t.target (Int.natCast_nonneg step)
      constructor <;> omega
    dsimp only
    split
    · exact { h with position := moved, fading := nofun }
    · exact { h with position := moved }

theorem release (h : t.InRange L) : t.release.InRange L := by
  unfold Tap.release
  split
  · exact { h with gainTarget := Dest.admitsGain_zero _ }
  · exact h

/-- The gain part of a TAP_SET is clamped for the tap's destination (R75, R78). -/
theorem write (h : t.InRange L) (p : TapParts) : (t.write p).InRange L := by
  refine { h with gainTarget := ?_ }
  show t.dest.admitsGain ((p.gain.map (clampGainFor t.dest)).getD t.gainTarget)
  cases p.gain with
  | none => exact h.gainTarget
  | some g => exact Dest.admitsGain_clamp _ g

/-- The gain step of a view whose gains the tap's destination admits (R76). -/
theorem stepGain (h : t.InRange L) {c : Computation} {j : TapIx} (hg : t.dest.admitsGain (c.view.taps[j]).gain)
    (hn : t.dest.admitsGain (c.view.taps[j]).gainTarget) : (c.stepGain j t).InRange L :=
  { h with gain := Dest.admitsGain_approach hg hn }

/-- The advances of stage 7 (R76, R104, R113, R120). -/
theorem advanceOf (h : t.InRange L) {c : Computation} {j : TapIx}
    (hv : c.advancesTap j = true → t.dest.admitsGain (c.view.taps[j]).gain ∧ t.dest.admitsGain (c.view.taps[j]).gainTarget) :
    (c.advanceOf j t).1.InRange L := by
  unfold Computation.advanceOf
  split
  · rename_i ha
    obtain ⟨hg, hn⟩ := hv ha
    split
    · exact h.stepGain hg hn
    · exact (h.stepGain hg hn).advanceRetune
  · exact h

end Tap.InRange

end Sys2Proof.Machine
end

section
/-! SUPPORT. Taps in their ranges (R66, R75): the operations that open, free, enter and remove no record keep each tap in the range of
its source line. -/

namespace Sys2Proof.Machine

/-- The taps as the computation in progress, if any, sees them. -/
def State.viewedTaps (s : State) : Option (Vector Tap 256) := s.fe.computation.map (·.view.taps)

@[simp] theorem State.note_viewedTaps (s : State) (f : Written → Written) : (s.note f).viewedTaps = s.viewedTaps := by
  simp [State.viewedTaps, State.note, Option.map_map, Function.comp_def]

theorem State.viewedTaps_of_fe {s t : State} (h : t.fe = s.fe) : t.viewedTaps = s.viewedTaps := by
  rw [State.viewedTaps, h, State.viewedTaps]

/-- The length of the source line of a tap. -/
def State.sourceLength (s : State) (j : TapIx) : Nat := (s.dmc.lines[(s.taps[j]).source]).length

/-- The state `t` has the accounts, the line lengths and the viewed taps of `s`, and a tap that is in its ranges in `s` still is. -/
structure State.Steers (s t : State) : Prop where
  accounts : t.accounts = s.accounts
  lengths  : ∀ k : LineIx, (t.dmc.lines[k]).length = (s.dmc.lines[k]).length
  viewed   : t.viewedTaps = s.viewedTaps
  taps     : ∀ j : TapIx, (s.taps[j]).InRange (s.sourceLength j) → (t.taps[j]).InRange (s.sourceLength j)

theorem Tap.account_eq {x y : Tap} (h : y.account = x.account) :
    y.takesPart = x.takesPart ∧ y.slot = x.slot ∧ y.source = x.source ∧ y.dest = x.dest := by
  simpa only [Tap.account, Prod.mk.injEq] using h

namespace State.Steers

variable {s t u : State}

theorem tap_account (h : s.Steers t) (j : TapIx) : (t.taps[j]).account = (s.taps[j]).account :=
  (State.account_of_accounts h.accounts).2.2.2.1 j

theorem source (h : s.Steers t) (j : TapIx) : (t.taps[j]).source = (s.taps[j]).source := (Tap.account_eq (h.tap_account j)).2.2.1

theorem sourceLength (h : s.Steers t) (j : TapIx) : t.sourceLength j = s.sourceLength j := by
  simp only [State.sourceLength, h.source j, h.lengths]

theorem refl (s : State) : s.Steers s := ⟨rfl, fun _ => rfl, rfl, fun _ h => h⟩

theorem trans (h : s.Steers t) (g : t.Steers u) : s.Steers u := by
  refine ⟨g.accounts.trans h.accounts, fun k => (g.lengths k).trans (h.lengths k), g.viewed.trans h.viewed, fun j hj => ?_⟩
  exact h.sourceLength j ▸ g.taps j (h.sourceLength j ▸ h.taps j hj)

theorem foldl {α : Type} {f : State → α → State} (h : ∀ v a, State.Steers v (f v a)) (l : List α) (s : State) :
    s.Steers (l.foldl f s) := by
  induction l generalizing s with
  | nil => exact refl s
  | cons a l ih => exact (h s a).trans (ih _)

/-- An operation that writes neither lines nor taps. -/
theorem of_eq (ha : t.accounts = s.accounts) (hd : t.dmc.lines = s.dmc.lines) (ht : t.taps = s.taps)
    (hv : t.viewedTaps = s.viewedTaps) : s.Steers t :=
  ⟨ha, fun k => by rw [hd], hv, fun j h => by rw [ht]; exact h⟩

theorem of_fe (ha : t.accounts = s.accounts) (hd : t.dmc.lines = s.dmc.lines) (ht : t.taps = s.taps) (hf : t.fe = s.fe) :
    s.Steers t := of_eq ha hd ht (viewedTaps_of_fe hf)

theorem of_tables (h : t.tables = s.tables) : s.Steers t := by
  have ha := State.accounts_of_tables h
  simp only [State.tables, Prod.mk.injEq] at h
  obtain ⟨-, -, hd, ht, -, hf, -⟩ := h
  exact of_fe ha (by rw [hd]) ht hf

/-! ## Parts of the state -/

variable (s)

theorem raise (d : Detail) : s.Steers (s.raise d) := of_tables (s.raise_tables d)

theorem alertTest : s.Steers s.alertTest := of_tables s.alertTest_tables

theorem note (f : Written → Written) (hf : ∀ w, (f w).tapLeft = w.tapLeft) : s.Steers (s.note f) :=
  of_eq (s.note_accounts f hf) rfl rfl (s.note_viewedTaps f)

theorem withMu (m : ModUnit) : s.Steers { s with mu := m } := of_fe rfl rfl rfl rfl

theorem withSru (r : Sru) : s.Steers { s with sru := r } := of_fe rfl rfl rfl rfl

theorem withPort (p : Port) : s.Steers { s with port := p } := of_fe rfl rfl rfl rfl

theorem withCu (c : CondUnit) : s.Steers { s with cu := c } := of_fe rfl rfl rfl rfl

theorem withRoundRobin (k : LineIx) : s.Steers { s with dmc := { s.dmc with roundRobin := k } } := of_fe rfl rfl rfl rfl

theorem countDelayClamp (i : SlotIx) (b : Bool) : s.Steers (s.countDelayClamp i b) :=
  of_fe (s.countDelayClamp_accounts i b) (by simp) (by simp) (by simp)

/-- One tap record changed, within its ranges. -/
theorem mapTap (j : TapIx) {f : Tap → Tap} (ha : ∀ x, (f x).account = x.account)
    (hf : (s.taps[j]).InRange (s.sourceLength j) → (f s.taps[j]).InRange (s.sourceLength j)) : s.Steers (s.mapTap j f) := by
  refine ⟨s.mapTap_accounts j ha, fun _ => rfl, rfl, fun i hi => ?_⟩
  rw [State.mapTap_taps, updateAt_get]
  split
  · rename_i hij; subst hij; exact hf hi
  · exact hi

theorem mapLine (k : LineIx) {f : Line → Line} (ha : (f s.dmc.lines[k]).account = (s.dmc.lines[k]).account)
    (hl : (f s.dmc.lines[k]).length = (s.dmc.lines[k]).length) : s.Steers (s.mapLine k f) := by
  refine ⟨s.mapLine_accounts ha, fun i => ?_, rfl, fun _ h => h⟩
  rw [State.mapLine_dmc, updateAt_get]
  split
  · rename_i hi; subst hi; exact hl
  · rfl

/-! ## Targets -/

/-- A target in the range of the source line is handed to retuning (R109). -/
theorem handTarget (j : TapIx) {n : Nat} (hn : 256 ≤ (s.sourceLength j - 1) * 256 → DelayFits (s.sourceLength j) n) :
    s.Steers (s.handTarget j n) := by
  rw [State.handTarget_eq s j n rfl]
  refine (mapTap s j (Tap.retarget_account n) fun h => h.retarget (hn h.room)).trans ((withSru _ _).trans (note _ _ fun w => ?_))
  unfold Written.retuneTapIf
  split <;> rfl

theorem formTarget (j : TapIx) : s.Steers (s.formTarget j) := by
  have counted := countDelayClamp s (s.taps[j]).slot
    (targetClamped (s.taps[j]).spec s.mu.tempo (s.sourceLength j))
  refine counted.trans (handTarget _ j ?_)
  rw [counted.sourceLength j]
  exact fun h => delayFits_targetFor h _ _

theorem followTempo (j : TapIx) : s.Steers (s.followTempo j) := by
  unfold State.followTempo
  split
  · exact formTarget s j
  · exact refl s

theorem setTempo (b : Nat) : s.Steers (s.setTempo b) := by
  have follow (v : State) := foldl followTempo (List.finRange 256) v
  unfold State.setTempo
  dsimp only
  split
  · exact refl s
  · split
    · exact (withMu s _).trans ((follow _).trans ((withMu _ _).trans (note _ Written.setBeatPhase fun _ => rfl)))
    · exact (withMu s _).trans (follow _)

theorem applyTapSet (j : TapIx) (p : TapParts) : s.Steers (s.applyTapSet j p) := by
  have written := mapTap s j (Tap.write_account p) fun h => h.write p
  unfold State.applyTapSet
  dsimp only
  split
  · exact written.trans (formTarget _ j)
  · exact written

theorem fillTap (f : FillField) (j : TapIx) : s.Steers (s.fillTap f j) := by
  cases f with
  | gain g => exact mapTap s j (fun _ => rfl) fun h => { h with gainTarget := Dest.admitsGain_clamp _ g }
  | delay d =>
    exact (mapTap s j (f := fun x => { x with spec := .fixed d }) (fun _ => rfl) fun h => { h with }).trans (formTarget _ j)
  | depth d => exact mapTap s j (fun _ => rfl) fun h => { h with }

theorem applyTapFill (i : SlotIx) (a b : TapIx) (f : FillField) : s.Steers (s.applyTapFill i a b f) :=
  foldl (fun v j => fillTap v f j) _ s

/-- A tap that is asked to release keeps its ranges (R57). -/
theorem releaseTapsOf (k : LineIx) : s.Steers (s.releaseTapsOf k) := by
  refine ⟨s.releaseTapsOf_accounts k, fun _ => rfl, rfl, fun j h => ?_⟩
  rw [State.releaseTapsOf_taps, mapIx_get]
  split
  · exact h.release
  · exact h

/-! ## Beats, entries and lists -/

theorem beatOccurs : s.Steers s.beatOccurs := (withMu s _).trans (note _ _ fun _ => rfl)

theorem markBeat : s.Steers s.markBeat := ((withMu s _).trans (note _ Written.setBeatPhase fun _ => rfl)).trans (beatOccurs _)

theorem acceptMark (i : Nat) : s.Steers (s.acceptMark i) := by
  unfold State.acceptMark
  exact ((withMu s _).trans (setTempo _ _)).trans (markBeat _)

theorem fillMap (i j : EntryIx) (st : Bool) (e : MapEntry) : s.Steers (s.fillMap i j st e) :=
  of_fe (s.fillMap_accounts i j st e) (by simp) (by simp) (by simp)

theorem applyEntry (e : Entry) : s.Steers (e.apply s) := by
  cases e with
  | lineSet k p i => exact mapLine s k (Line.write_account p _) rfl
  | tapSet j p i => exact applyTapSet s j p
  | tapFill i a b f => exact applyTapFill s i a b f
  | tempoSet b => exact setTempo s b
  | slotSet | modSet | outmapSet => exact of_fe rfl rfl rfl rfl
  | outmapFill i j st v => exact fillMap s i j st v

variable {s}

theorem handleEntry {x : State × Tallied} (h : s.Steers x.1) (e : Entry) : s.Steers (handleEntry x e).1 := by
  have counted (f : SlotCounters → SlotCounters) : s.Steers (e.slot.elim x.1 fun i => x.1.countSlot i f) := by
    cases e.slot with
    | none => exact h
    | some i => exact h.trans (withSru _ _)
  unfold Machine.handleEntry
  split
  · exact counted _
  · split
    · exact counted _
    · exact h.trans (applyEntry _ e)

theorem applyList (l : List Entry) (s : State) : s.Steers (applyList l s).1 := by
  have fold (n : Tallied) : s.Steers (l.foldl Machine.handleEntry (s, n)).1 :=
    List.foldlRecOn (motive := fun x : State × Tallied => s.Steers x.1) l _ (refl s) fun _ hx e _ => handleEntry hx e
  unfold Machine.applyList
  dsimp only
  split
  · exact fold _
  · exact (fold _).trans (raise _ _)

theorem applyAction (s : State) (a : Action) : s.Steers (s.applyAction a) := by
  unfold State.applyAction
  dsimp only
  refine State.Steers.trans ?_ (applyList _ _)
  split
  · exact refl s
  · exact (withCu s _).trans (raise _ _)

theorem applyDueWork (s : State) : s.Steers s.applyDueWork :=
  (withSru s _).trans ((foldl applyAction _ _).trans (applyList _ _))

/-! ## Engine and pages -/

variable (s)

theorem withEc (e : Engine) (hb : e.budgetUsed = s.ec.budgetUsed) (hr : e.rate = s.ec.rate) : s.Steers { s with ec := e } :=
  of_fe (State.accounts_congr hb hr rfl rfl rfl) rfl rfl rfl

theorem haltCause (n : Word32) (w : HaltReason) : s.Steers (s.haltCause n w) :=
  of_fe (s.haltCause_accounts n w) (by simp) (by simp) (by simp)

theorem setFade (m g : Nat) : s.Steers (s.setFade m g) := 
  of_eq (s.setFade_accounts m g) rfl rfl (State.note_viewedTaps _ _)

theorem clockBack : s.Steers s.clockBack := by
  unfold State.clockBack
  split
  · exact trans (t := { s with ec := { s.ec with clockAbsent := false } }) (withEc s _ rfl rfl)
      ((setFade _ _ _).trans (raise _ _))
  · exact refl s

theorem beginWindows : s.Steers s.beginWindows := (withSru s _).trans (note _ Written.setWindows fun _ => rfl)

theorem startScrub : s.Steers s.startScrub := by
  unfold State.startScrub
  (repeat' split) <;> exact of_fe rfl rfl rfl rfl

theorem memoryClean : s.Steers s.memoryClean := by
  unfold State.memoryClean
  split
  · exact trans (t := { s with ec := { s.ec with engine := .stopped } }) (withEc s _ rfl rfl) (raise _ _)
  · exact refl s

theorem beginClose {k : LineIx} (hk : (s.dmc.lines[k]).state ≠ .free) : s.Steers (s.beginClose k) := by
  have free := (Line.isNotFree_iff _).mpr hk
  refine (releaseTapsOf s k).trans (mapLine _ k ?_ rfl)
  simp only [Line.account, State.releaseTapsOf_dmc, free]
  rfl

theorem activateLine {k : LineIx} (hk : (s.dmc.lines[k]).state ≠ .free) : s.Steers (s.activateLine k) := by
  have free := (Line.isNotFree_iff _).mpr hk
  exact (mapLine s k (f := Line.activate (s.dmc.clean.take (s.dmc.lines[k]).pageCount))
    (by simp only [Line.account, free]; rfl) rfl).trans (of_fe rfl rfl rfl rfl)

end State.Steers

/-- Wait-list service activates lines and keeps their lengths (R48). -/
theorem serveUpTo_lengths (n : Nat) (s : State) (i : LineIx) :
    ((serveUpTo n s).dmc.lines[i]).length = (s.dmc.lines[i]).length := by
  induction n generalizing s with
  | zero => rfl
  | succ n ih =>
    obtain h | ⟨k, rest, -, -, h⟩ := serveUpTo_succ_cases n s
    · rw [h]
    · rw [h, ih, (State.raise_keeps _ _).2.2.1, State.activateLine_dmc, updateAt_get]
      split <;> rfl

theorem State.Paged.serveWaitList_steers {s : State} (h : s.Paged) : s.Steers s.serveWaitList where
  accounts := h.serveWaitList_accounts
  lengths := serveUpTo_lengths _ s
  viewed := State.viewedTaps_of_fe (by simp)
  taps j hj := by rw [State.serveWaitList_keeps s |>.2.2.1]; exact hj

end Sys2Proof.Machine
end

section
/-! SUPPORT. Taps in their ranges (R66, R75) under the operations that open, free, enter and remove a record. -/

namespace Sys2Proof.Machine

/-! ## What the view of a computation in progress gives -/

/-- A state that sees the same taps and advances the same holds a computation with the view and the advances of the other. -/
theorem State.computation_of_viewed {s t : State} (ha : t.fe.advances = s.fe.advances) (hv : t.viewedTaps = s.viewedTaps)
    {c : Computation} (hc : t.fe.computation = some c) :
    ∃ d, s.fe.computation = some d ∧ d.advancesTap = c.advancesTap ∧ d.view.taps = c.view.taps := by
  simp only [FrameEngine.advances, State.viewedTaps, hc, Option.map_some] at ha hv
  obtain ⟨d, hd, hda⟩ := Option.map_eq_some_iff.mp ha.symm
  obtain ⟨e, he, hev⟩ := Option.map_eq_some_iff.mp hv.symm
  obtain rfl : d = e := Option.some.inj (hd.symm.trans he)
  exact ⟨d, hd, hda, hev⟩

theorem Tap.InRange.congr {L M : Nat} {x y : Tap} (h : x.InRange L) (hy : y = x) (hm : M = L) : y.InRange M := by
  rw [hy, hm]; exact h

namespace State.TapsInRange

variable {s t : State}

/-- The second part of the invariant in a state that sees the same taps, where those that will be advanced have not changed. -/
theorem view_of_viewed (h : s.TapsInRange) (ha : t.fe.advances = s.fe.advances) (hv : t.viewedTaps = s.viewedTaps)
    (ht : ∀ j : TapIx, (s.taps[j]).state ≠ .unused →
      (t.taps[j]).state ≠ .unused ∧ (t.taps[j]).dest = (s.taps[j]).dest) (c : Computation) (hc : t.fe.computation = some c)
    (j : TapIx) (hj : c.advancesTap j = true) :
    (t.taps[j]).state ≠ .unused ∧ (t.taps[j]).dest = (c.view.taps[j]).dest ∧
      (c.view.taps[j]).dest.admitsGain (c.view.taps[j]).gain ∧ (c.view.taps[j]).dest.admitsGain (c.view.taps[j]).gainTarget := by
  obtain ⟨d, hd, hda, hdv⟩ := State.computation_of_viewed ha hv hc
  obtain ⟨used, dest, gain, target⟩ := h.view d hd j (by rw [hda]; exact hj)
  obtain ⟨used', dest'⟩ := ht j used
  rw [hdv] at dest gain target
  exact ⟨used', dest'.trans dest, gain, target⟩

theorem of_steers (h : s.TapsInRange) (hs : s.Steers t) : t.TapsInRange := by
  have account (j : TapIx) := Tap.account_eq (hs.tap_account j)
  have used (j : TapIx) : (t.taps[j]).state ≠ .unused ↔ (s.taps[j]).state ≠ .unused := by
    rw [← Tap.takesPart_iff, ← Tap.takesPart_iff, (account j).1]
  refine ⟨fun j hj => ?_, h.view_of_viewed (State.account_of_accounts hs.accounts).2.2.2.2 hs.viewed fun j hj =>
    ⟨(used j).mpr hj, (account j).2.2.2⟩⟩
  exact (hs.taps j (h.taps j ((used j).mp hj))).congr rfl (hs.sourceLength j)

/-! ## Lines -/

/-- A line that is the source of no tap in use takes any record. -/
theorem setLine (h : s.TapsInRange) {k : LineIx}
    (hk : ∀ j : TapIx, (s.taps[j]).state ≠ .unused → (s.taps[j]).references k = false) (l : Line) :
    (s.mapLine k fun _ => l).TapsInRange := by
  refine ⟨fun j hj => ?_, h.view⟩
  have other : k ≠ (s.taps[j]).source := by
    rintro rfl
    have named : (s.taps[j]).references (s.taps[j]).source = true := (Tap.references_iff _ _).mpr (.inl rfl)
    rw [hk j hj] at named
    cases named
  have same : (s.mapLine k fun _ => l).sourceLength j = s.sourceLength j := by
    rw [State.sourceLength, State.mapLine_dmc, updateAt_get]
    exact congrArg Line.length (if_neg other)
  exact (h.taps j hj).congr rfl same

theorem freeLine (h : s.TapsInRange) {k : LineIx}
    (hk : ∀ j : TapIx, (s.taps[j]).state ≠ .unused → (s.taps[j]).references k = false) : (s.freeLine k).TapsInRange :=
  ⟨(h.setLine hk Line.freeValue).taps,
    h.view_of_viewed (State.note_advances _ fun _ => rfl) (State.note_viewedTaps _ (Written.leaveLine k)) fun _ hj => ⟨hj, rfl⟩⟩

/-! ## Taps -/

/-- A tap that becomes UNUSED is not advanced any more (R85, R104). -/
theorem removeTap (h : s.TapsInRange) (i : TapIx) : (s.removeTap i).TapsInRange := by
  refine ⟨fun j hj => ?_, fun c hc j hj => ?_⟩
  · have other : i ≠ j := fun hij => by rw [State.removeTap_tap, if_pos hij] at hj; exact hj rfl
    have same : (s.removeTap i).taps[j] = s.taps[j] := by rw [State.removeTap_tap, if_neg other]
    have lengths (k : LineIx) : ((s.removeTap i).dmc.lines[k]).length = (s.dmc.lines[k]).length := by
      rw [State.removeTap_line]; split <;> rfl
    have length : (s.removeTap i).sourceLength j = s.sourceLength j := by simp only [State.sourceLength, same, lengths]
    rw [same] at hj
    exact (h.taps j hj).congr same length
  · have hfe : (s.removeTap i).fe.computation = s.fe.computation.map fun c => { c with written := c.written.leaveTap i } := by
      rw [State.removeTap_eq]; rfl
    obtain ⟨d, hd, rfl⟩ := Option.map_eq_some_iff.mp (hfe.symm.trans hc)
    rw [Computation.advancesTap_leaveTap] at hj
    by_cases hij : i = j
    · rw [if_pos hij] at hj; cases hj
    · rw [if_neg hij] at hj
      rw [State.removeTap_tap, if_neg hij]
      exact h.view d hd j hj

/-- An UNUSED record takes a tap that is in the range of its source line; no computation in progress advances it. -/
theorem enterTap (h : s.TapsInRange) {i : TapIx} (hi : (s.taps[i]).state = .unused) {x : Tap}
    (hx : x.InRange (s.dmc.lines[x.source]).length) : (s.enterTap i x).TapsInRange := by
  have lengths (k : LineIx) : ((s.enterTap i x).dmc.lines[k]).length = (s.dmc.lines[k]).length := by
    rw [State.enterTap_line]; split <;> rfl
  have other (j : TapIx) (hj : (s.taps[j]).state ≠ .unused) : i ≠ j := by rintro rfl; exact hj hi
  refine ⟨fun j hj => ?_, fun c hc j hj => ?_⟩
  · rw [State.enterTap_tap] at hj
    by_cases hij : i = j
    · have own : (s.enterTap i x).taps[j] = x := by rw [State.enterTap_tap, if_pos hij]
      have length : (s.enterTap i x).sourceLength j = (s.dmc.lines[x.source]).length := by
        simp only [State.sourceLength, own, lengths]
      exact hx.congr own length
    · rw [if_neg hij] at hj
      have same : (s.enterTap i x).taps[j] = s.taps[j] := by rw [State.enterTap_tap, if_neg hij]
      have length : (s.enterTap i x).sourceLength j = s.sourceLength j := by simp only [State.sourceLength, same, lengths]
      exact (h.taps j hj).congr same length
  · have hfe : (s.enterTap i x).fe = s.fe := by rw [State.enterTap_eq]
    rw [hfe] at hc
    have seen := h.view c hc j hj
    rw [State.enterTap_tap, if_neg (other j seen.1)]
    exact seen

/-! ## The completion and the beginning of a computation -/

/-- A completion up to its releases: the advances, of gains that the view gives (R76, R104, R113). -/
theorem finishBefore (h : s.TapsInRange) {c : Computation} (hc : s.fe.computation = some c) (o : Vector TapOut 256)
    (cs : List (Dest × Int)) : State.Steers { s with fe := { s.fe with computation := none } } (s.finishBefore c o cs) := by
  have accounts := State.finishBefore_accounts c s o cs
  refine ⟨accounts, fun k => ?_, ?_, fun j hj => ?_⟩
  · have line : (s.finishBefore c o cs).dmc.lines[k] = c.storedLine cs k s.dmc.lines[k] := by
      rw [← State.storeLines_line]
      exact congrArg (fun d : Dmc => d.lines[k]) (State.probed_dmc c o cs s)
    rw [line, Computation.storedLine]
    split <;> rfl
  · have idle : (s.finishBefore c o cs).fe.computation = none :=
      Option.map_eq_none_iff.mp (State.account_of_accounts accounts).2.2.2.2
    rw [State.viewedTaps, idle]
    rfl
  · have tap : (s.finishBefore c o cs).taps[j] = (c.advanceOf j s.taps[j]).1 := State.probed_tap c o cs s j
    rw [tap]
    refine hj.advanceOf fun ha => ?_
    obtain ⟨-, dest, gain, target⟩ := h.view c hc j ha
    rw [← dest] at gain target
    exact ⟨gain, target⟩

/-- The view of a computation that begins holds the taps as they are (R91). -/
theorem begun (h : s.TapsInRange) {c : Computation} (hv : c.view.taps = s.taps) :
    State.TapsInRange { s with fe := { s.fe with computation := some c } } := by
  refine ⟨h.taps, fun d hd j hj => ?_⟩
  obtain rfl := Option.some.inj hd
  have used : (s.taps[j]).state ≠ .unused := by
    rw [← hv, ← Tap.takesPart_iff]
    exact ((Bool.and_eq_true _ _).mp hj).1
  have kept := h.taps j used
  rw [hv]
  exact ⟨used, rfl, kept.gain, kept.gainTarget⟩

end State.TapsInRange

end Sys2Proof.Machine
end

section
/-! SUPPORT. The owners that open, free, enter and remove no record keep each tap in the range of its source line (R66, R75). -/

namespace Sys2Proof.Machine

theorem stageEntry_steers (e : Entry) (c : Bool) (s : State) : (stageEntry e c s).Leaves s.Steers := by
  unfold stageEntry
  split
  · trivial
  · exact State.Steers.withSru s _

/-- A COMMIT NOW applies its lists, or leaves them to the boundary (R155). -/
theorem commitNow_steers (s : State) : (commitNow s).Leaves s.Steers := by
  unfold commitNow
  split
  · split
    · exact State.Steers.refl s
    · exact State.Steers.withSru s _
  · exact (State.Steers.withSru s _).trans ((State.Steers.applyList _ _).trans (State.Steers.applyList _ _))

theorem commitAt_steers (f : Word32) (s : State) : (commitAt f s).Leaves s.Steers := by
  unfold commitAt
  (repeat' split) <;> first | trivial | exact State.Steers.withSru s _

open State.Steers in
/-- Every kind but those that open or close lines or taps, and INIT. -/
theorem ownerOf_steers (k : Kind) (hk : k.movesUnits = false) (b : Bool) (p : List Byte) (s : State) :
    (ownerOf k b p s).Leaves s.Steers := by
  cases k with
  | init | lineOpen | lineClose | lineReleaseTag | lineReleaseAll | slotClear | tapCreate => cases hk
  | status | reset | timeGet | outmapGet | poolGet | tempoGet | schedGet | condGet | discard | checkRead | checkClear | probeGet =>
    exact of_fe rfl rfl rfl rfl
  | start =>
    show (ownStart b p s).Leaves _
    unfold ownStart
    split
    · exact trans (t := { s with ec := { s.ec with engine := .running, clockTimer := true } }) (withEc s _ rfl rfl)
        ((setFade _ _ _).trans (beginWindows _))
    · exact refl s
    · exact withEc s _ rfl rfl
    · trivial
  | stop =>
    show (ownStop b p s).Leaves _
    unfold ownStop
    split
    · exact refl s
    · exact refl s
    · exact withEc s _ rfl rfl
    · exact of_fe (State.raise_accounts _ _) (by simp) (by simp) (by simp)
    · trivial
  | halt => show (ownHalt b p s).Leaves _; unfold ownHalt; split <;> first | trivial | exact haltCause s _ _
  | resume =>
    show (ownResume b p s).Leaves _
    unfold ownResume
    (repeat' split)
    · trivial
    · trivial
    · exact of_eq (State.setFade_accounts _ _ _) rfl rfl (State.note_viewedTaps _ _)
  | portDrive => show (ownPortDrive b p s).Leaves _; unfold ownPortDrive; (repeat' split) <;> first | trivial | exact withPort s _
  | portBypass => show (ownPortBypass b p s).Leaves _; unfold ownPortBypass; (repeat' split) <;> first | trivial | exact withPort s _
  | outmapSet =>
    show (ownOutmapSet b p s).Leaves _
    unfold ownOutmapSet
    (repeat' split) <;> first | trivial | exact stageEntry_steers _ _ _ | exact withPort s _
  | outmapFill =>
    show (ownOutmapFill b p s).Leaves _
    unfold ownOutmapFill
    (repeat' split) <;> first | trivial | exact stageEntry_steers _ _ _ | exact fillMap s _ _ _ _
  | checkSet => show (ownCheckSet b p s).Leaves _; unfold ownCheckSet; (repeat' split) <;> first | trivial | exact withPort s _
  | lineSet =>
    show (ownLineSet b p s).Leaves _
    unfold ownLineSet
    iterate 4 (split <;> try exact Verdict.leaves_refuse _ _)
    cases b
    · exact mapLine s _ (Line.write_account _ _) rfl
    · exact stageEntry_steers _ _ _
  | lineGet => show (ownLineGet b p s).Leaves _; unfold ownLineGet; (repeat' split) <;> first | trivial | exact refl s
  | tapSet =>
    show (ownTapSet b p s).Leaves _
    unfold ownTapSet
    (repeat' split) <;> first | trivial | exact stageEntry_steers _ _ _ | exact applyTapSet s _ _
  | tapFill =>
    show (ownTapFill b p s).Leaves _
    unfold ownTapFill
    (repeat' split) <;> first | trivial | exact stageEntry_steers _ _ _ | exact applyTapFill s _ _ _ _
  | tapFree =>
    show (ownTapFree b p s).Leaves _
    unfold ownTapFree
    (repeat' split) <;> first | trivial | exact mapTap s _ Tap.release_account fun h => h.release
  | tapGet => show (ownTapGet b p s).Leaves _; unfold ownTapGet; (repeat' split) <;> first | trivial | exact refl s
  | modSet =>
    show (ownModSet b p s).Leaves _
    unfold ownModSet
    iterate 5 (split <;> try exact Verdict.leaves_refuse _ _)
    cases b
    · exact withMu s _
    · exact stageEntry_steers _ _ _
  | modSync =>
    show (ownModSync b p s).Leaves _
    unfold ownModSync
    (repeat' split) <;> first | trivial | exact (withMu s _).trans (note _ (Written.setPhase _) fun _ => rfl)
  | modGet => show (ownModGet b p s).Leaves _; unfold ownModGet; (repeat' split) <;> first | trivial | exact refl s
  | tempoSet =>
    show (ownTempoSet b p s).Leaves _
    unfold ownTempoSet
    (repeat' split) <;> first | trivial | exact stageEntry_steers _ _ _ | exact setTempo s _
  | beat =>
    show (ownBeat b p s).Leaves _
    unfold ownBeat
    split
    · exact (withMu s _).trans (markBeat _)
    · split
      · exact refl s
      · exact acceptMark s _
  | slotSet =>
    show (ownSlotSet b p s).Leaves _
    unfold ownSlotSet
    iterate 5 (split <;> try exact Verdict.leaves_refuse _ _)
    cases b
    · exact withSru s _
    · exact stageEntry_steers _ _ _
  | slotGet => show (ownSlotGet b p s).Leaves _; unfold ownSlotGet; (repeat' split) <;> first | trivial | exact withSru s _
  | commit =>
    show (ownCommit b p s).Leaves _
    unfold ownCommit
    (repeat' split) <;> first | trivial | exact commitNow_steers s | exact commitAt_steers _ s
  | schedCancel => show (ownSchedCancel b p s).Leaves _; unfold ownSchedCancel; (repeat' split) <;> first | trivial | exact withSru s _
  | condEnable =>
    show (ownCondEnable b p s).Leaves _
    unfold ownCondEnable
    split <;> first | trivial | exact (withCu s _).trans (alertTest _)
  | alertRelease =>
    show (ownAlertRelease b p s).Leaves _
    unfold ownAlertRelease
    split <;> first | exact refl s | exact (withCu s _).trans (alertTest _)
  | probeSet =>
    show (ownProbeSet b p s).Leaves _
    unfold ownProbeSet
    (repeat' split) <;> first | trivial | exact (withCu s _).trans (note _ Written.setProbe fun _ => rfl)
  | countersGet =>
    show (ownCountersGet b p s).Leaves _
    unfold ownCountersGet
    (repeat' split) <;> first | trivial | exact refl s | exact withCu s _

open State.Steers in
/-- The measured rate, the clock and the tracker (R140, R169, R170). -/
theorem timed_steers {s t : State} (ht : (∃ n, execRateMeasurementComplete n s = .next t) ∨
    (execRateMeasurementLoss s = .next t ∨ execClockLost s = .next t) ∨ execTrackerTimeout s = .next t) : s.Steers t := by
  have ha := timed_accounts ht
  obtain ⟨n, ht⟩ | (ht | ht) | ht := ht <;> obtain rfl := Host.Outcome.next.inj ht <;> revert ha <;> (repeat' split) <;> intro ha <;>
    exact of_fe ha (by simp) (by simp) (by simp)

/-- A received sample (R3). -/
theorem input_steers {s t : State} {n : Nat} {w : Word24} {fresh : Bool} (ht : execInputSlotReceived n w fresh s = .next t) :
    s.Steers t := by
  have ha := input_accounts ht
  obtain rfl := Host.Outcome.next.inj ht
  revert ha
  split <;> intro ha <;> exact State.Steers.of_fe ha (by simp) (by simp) (by simp)

end Sys2Proof.Machine
end

section
/-! SUPPORT. Taps in their ranges (R66, R75), with the reference counts, at every step: the owners that open and close, the completion
and the beginning of a computation, and the other events. -/

namespace Sys2Proof.Machine

/-- The reference counts are exact and the taps in use keep their ranges. The counts say when a line that becomes FREE, or takes a new
record, is the source of no tap in use. -/
structure State.Fed (s : State) : Prop where
  references : s.ReferencesExact
  taps       : s.TapsInRange

namespace State.Fed
variable {s t : State}

theorem of_steers (h : s.Fed) (hs : s.Steers t) : t.Fed := ⟨h.references.of_accounts hs.accounts, h.taps.of_steers hs⟩

/-! ## Taps that become UNUSED, lines that become FREE -/

/-- Taps in use that become UNUSED, each once (R85, R86). -/
theorem removeTaps (h : s.Fed) (l : List TapIx) (hl : l.Nodup) (hu : ∀ j ∈ l, (s.taps[j]).state ≠ .unused) :
    State.Fed (l.foldl (fun u j => u.removeTap j) s) := by
  induction l generalizing s with
  | nil => exact h
  | cons i l ih =>
    obtain ⟨hi, hl⟩ := List.nodup_cons.mp hl
    refine ih ⟨h.references.removeTap (hu i List.mem_cons_self), h.taps.removeTap i⟩ hl fun j hj => ?_
    rw [State.removeTap_tap, if_neg (by rintro rfl; exact hi hj)]
    exact hu j (List.mem_cons_of_mem i hj)

theorem removeTapsOf (h : s.Fed) (k : LineIx) : (s.removeTapsOf k).Fed := by
  rw [State.removeTapsOf_eq]
  refine h.removeTaps _ ((List.nodup_finRange 256).filter _) fun j hj => ?_
  have used := (List.mem_filter.mp hj).2
  rw [Tap.usesAny_singleton, Bool.and_eq_true] at used
  exact (Tap.takesPart_iff _).mp used.1

theorem freeLine (h : s.Fed) {k : LineIx}
    (hk : ∀ j : TapIx, (s.taps[j]).state ≠ .unused → (s.taps[j]).references k = false) : (s.freeLine k).Fed :=
  ⟨h.references.freeLine hk, h.taps.freeLine hk⟩

/-- A WAITING line that is dropped has lost its taps before it becomes FREE (R58). -/
theorem dropWaiting (h : s.Fed) (k : LineIx) : (s.dropWaiting k).Fed := by
  have left : (s.leaveWaitList k).Fed := h.of_steers (.of_fe rfl rfl rfl rfl)
  rw [State.dropWaiting_eq]
  refine (left.removeTapsOf k).freeLine fun j hj => ?_
  rw [State.removeTapsOf_tap] at hj ⊢
  split at hj
  · exact absurd rfl hj
  · rename_i hn
    rw [if_neg hn]
    rw [Tap.usesAny_singleton, (Tap.takesPart_iff _).mpr hj, Bool.true_and] at hn
    exact Bool.eq_false_iff.mpr hn

theorem dropAll (h : s.Fed) (l : List LineIx) : (s.dropAll l).Fed :=
  List.foldlRecOn l _ h fun _ hu k _ => hu.dropWaiting k

/-- Lines that are not FREE become CLOSING (R59). -/
theorem closeAll (h : s.Fed) (l : List LineIx) (ha : ∀ k ∈ l, (s.dmc.lines[k]).state ≠ .free) : (s.closeAll l).Fed := by
  induction l generalizing s with
  | nil => exact h
  | cons k l ih =>
    rw [State.closeAll_cons]
    refine ih (h.of_steers (.beginClose s (ha k List.mem_cons_self))) fun i hi => ?_
    rw [State.beginClose_dmc, updateAt_get]
    split
    · nofun
    · exact ha i (List.mem_cons_of_mem k hi)

/-- The close of a CLOSING line without references completes (R60). -/
theorem completeClose (h : s.Fed) (k : LineIx) : (s.completeClose k).Fed := by
  unfold State.completeClose
  split
  · rename_i hk
    have moved : State.Fed { s with dmc := { s.dmc with dirty := s.dmc.dirty ++ s.dmc.lines[k].pages } } :=
      h.of_steers (.of_fe rfl rfl rfl rfl)
    exact moved.freeLine (h.references.unreferenced_of_refs (of_decide_eq_true hk).2)
  · exact h

theorem completeCloses (h : s.Fed) : s.completeCloses.Fed :=
  of_steers (List.foldlRecOn _ _ h fun _ hu k _ => hu.completeClose k) (.startScrub _)

/-! ## The closes -/

theorem closeWaiting (h : s.Fed) (hp : s.Paged) {k : LineIx} (hk : (s.dmc.lines[k]).state = .waiting) : (s.closeWaiting k).Fed :=
  of_steers (h.dropWaiting k).completeCloses (hp.dropWaiting (.inl hk)).completeCloses.serveWaitList_steers

theorem closeActive (h : s.Fed) {k : LineIx} (hk : (s.dmc.lines[k]).state = .active) : (s.closeActive k).Fed :=
  completeCloses (h.of_steers (.beginClose s (by rw [hk]; nofun)))

/-- The pages of a group close before its service (R61). -/
theorem paged_closing (hp : s.Paged) (p : Line → Bool) :
    (((s.dropAll (s.waitingOf p)).closeAll (s.activeOf p)).completeCloses).Paged := by
  have begun : s.Grouped (s.waitingOf p) (s.activeOf p) :=
    ⟨hp, fun k hk => .inl (State.mem_waitingOf.mp hk).2, fun k hk => .inl (State.mem_activeOf.mp hk).2⟩
  have dropped := List.foldlRecOn _ (fun u k => State.dropWaiting k u) begun fun _ hu k hk => hu.dropWaiting hk
  have closing := List.foldlRecOn _ (fun u k => State.beginClose k u) dropped fun _ hu k hk => hu.beginClose hk
  exact closing.paged.completeCloses

/-- The lines of a group close that are ACTIVE stay so while the WAITING ones are dropped (R61). -/
theorem groupClose (h : s.Fed) (hp : s.Paged) (p : Line → Bool) : (s.groupClose p).Fed := by
  have closing := (h.dropAll (s.waitingOf p)).closeAll (s.activeOf p) fun k hk => by
    have ha := (State.mem_activeOf.mp hk).2
    rw [State.dropAll_line, if_neg fun hw => nomatch ha.symm.trans (State.mem_waitingOf.mp hw).2]
    show (s.dmc.lines[k]).state ≠ .free
    rw [ha]; nofun
  rw [State.groupClose_eq]
  exact closing.completeCloses.of_steers (paged_closing hp p).serveWaitList_steers

/-! ## The owners that open and close -/

/-- An admitted line takes its FREE record, which no tap in use references (R46, R68). -/
theorem admitLine (h : s.Fed) {k : LineIx} (hk : (s.dmc.lines[k]).state = .free) {l : Line} (hs : l.state = .waiting)
    (hr : l.refs = 0) (clamped : Bool) : (admitLine k l clamped s).Leaves State.Fed := by
  have unreferenced := h.references.unreferenced_of_free hk
  have set := h.references.setLine unreferenced hr
  have opened : State.Fed ((s.mapLine k fun _ => l).charge 2) :=
    ⟨⟨set.counts, set.lines⟩, (h.taps.setLine unreferenced l).taps, (h.taps.setLine unreferenced l).view⟩
  unfold Machine.admitLine
  dsimp only
  split
  · have pointed : State.Fed { (s.mapLine k fun _ => l).charge 2 with
        dmc := { ((s.mapLine k fun _ => l).charge 2).dmc with roundRobin := k + 1 } } := opened.of_steers (.of_fe rfl rfl rfl rfl)
    refine pointed.of_steers (.activateLine _ ?_)
    show ((updateAt s.dmc.lines k fun _ => l)[k]).state ≠ .free
    rw [updateAt_get, if_pos rfl, hs]
    nofun
  · exact opened.of_steers (.of_fe ((State.raise_accounts _ _).trans rfl) (by simp) (by simp) (by simp))

theorem ownLineOpen (h : s.Fed) (b : Bool) (p : List Byte) : (ownLineOpen b p s).Leaves State.Fed := by
  unfold Machine.ownLineOpen
  (repeat' split) <;> try exact Verdict.leaves_refuse _ _
  dsimp only
  split
  · exact Verdict.leaves_refuse _ _
  · rename_i hk _
    exact h.admitLine (Dmc.chooseRecord_free hk) rfl rfl _

theorem ownLineClose (h : s.Fed) (hp : s.Paged) (b : Bool) (p : List Byte) : (ownLineClose b p s).Leaves State.Fed := by
  unfold Machine.ownLineClose
  (repeat' split) <;> try exact Verdict.leaves_refuse _ _
  · rename_i hk; exact h.closeWaiting hp hk
  · rename_i hk; exact h.closeActive hk
  · exact h

/-- A created tap starts at its target, with its gain at 0 (R73 to R75). -/
theorem createdTap_inRange {L n : Nat} (hn : DelayFits L n) (i : SlotIx) (k : LineIx) (d : Dest) (sp : DelaySpec) (m : Option ModIx)
    (e : Nat) (g : Int) (rm : RetuneMode × Nat) : (createdTap i k d sp n m e (clampGainFor d g) rm).InRange L where
  target := hn
  position := hn
  fading := nofun
  gainTarget := Dest.admitsGain_clamp d g
  gain := Dest.admitsGain_zero d

/-- A live line is long enough for a delay (R42, R66). -/
theorem room_of_live (hp : s.Paged) {k : LineIx} (hk : (s.dmc.lines[k]).isLive = true) :
    256 ≤ ((s.dmc.lines[k]).length - 1) * 256 := by
  have length := ((hp.lines k).length (Line.not_free_of_isLive hk)).1
  omega

/-- An admitted tap takes an UNUSED record, and its lines are live and of its slot (R71, R73). -/
theorem ownTapCreate (h : s.Fed) (hp : s.Paged) (b : Bool) (p : List Byte) : (ownTapCreate b p s).Leaves State.Fed := by
  unfold Machine.ownTapCreate
  (repeat' split) <;> try exact Verdict.leaves_refuse _ _
  rename_i i k _ _ _ dest _ _ spec sc _ _ m _ _ retune rc _ hlive hslot _ t hfree hb
  have unused : (s.taps[t]).state = .unused :=
    of_decide_eq_true (List.find?_some (p := fun j : TapIx => decide ((s.taps[j]).state = .unused)) hfree)
  simp only [List.any_eq_true, not_exists, not_and, Bool.not_eq_true, Bool.not_eq_false', bne_eq_false_iff_eq] at hlive hslot
  have created (x : Tap) (hx : x.state = .live) (hi : x.slot = i) (hk : x.source = k) (hd : x.dest = dest)
      (hr : x.InRange (s.dmc.lines[x.source]).length) : (s.enterTap t x).Fed := by
    refine ⟨h.references.enterTap unused (by rw [hx]; nofun) fun j hj => ?_, h.taps.enterTap unused hr⟩
    rw [Tap.references_iff, hk, hd] at hj
    have named := (mem_namedLines k dest j).mpr hj
    rw [hi]
    exact ⟨Line.not_free_of_isLive (hlive j named), hslot j named⟩
  have room := room_of_live hp (hlive k ((mem_namedLines k dest k).mpr (.inl rfl)))
  exact of_steers (created _ rfl rfl rfl rfl (createdTap_inRange (delayFits_targetFor room _ _) ..)) (.countDelayClamp _ _ _)

/-! ## Resets and INIT -/

/-- Where every tap is UNUSED, every count is 0 and no computation is in progress, there is nothing to keep. -/
theorem of_free (ht : t.taps = Vector.replicate 256 Tap.freeValue) (hl : t.dmc.lines = Vector.replicate 64 Line.freeValue)
    (hc : t.fe.computation = none) : t.Fed := by
  have unused (j : TapIx) : (t.taps[j]).state = .unused := by rw [ht]; simp [Tap.freeValue]
  have refs (k : LineIx) : (t.dmc.lines[k]).refs = 0 := by rw [hl]; simp [Line.freeValue]
  refine ⟨⟨fun k => ?_, fun j _ h => absurd (unused j) h⟩, fun j h => absurd (unused j) h, fun c h => ?_⟩
  · rw [refs, eq_comm, List.length_eq_zero_iff, List.filter_eq_nil_iff]
    intro j _
    rw [Bool.and_eq_true, Tap.takesPart_iff]
    exact fun h => h.1 (unused j)
  · rw [hc] at h
    cases h

theorem resetBlocks (s : State) : s.resetBlocks.Fed := of_free rfl rfl rfl

theorem ownInit (b : Bool) (p : List Byte) : (ownInit b p s).Leaves State.Fed := by
  unfold Machine.ownInit
  (repeat' split) <;> try exact Verdict.leaves_refuse _ _
  unfold State.initBlocks
  exact of_steers (of_free rfl rfl rfl) (.startScrub _)

theorem owner (h : s.Fed) (hp : s.Paged) (k : Kind) (b : Bool) (p : List Byte) : (ownerOf k b p s).Leaves State.Fed := by
  cases hk : k.movesUnits with
  | false =>
    have hv := ownerOf_steers k hk b p s
    cases hv' : ownerOf k b p s with
    | refuse st => trivial
    | done t st q => rw [hv'] at hv; exact h.of_steers hv
  | true =>
    cases k with
    | init => exact ownInit b p
    | lineOpen => exact h.ownLineOpen b p
    | lineClose => exact h.ownLineClose hp b p
    | lineReleaseTag =>
      show (ownLineReleaseTag b p s).Leaves _
      unfold ownLineReleaseTag
      split
      · exact h.groupClose hp _
      · exact Verdict.leaves_refuse _ _
    | lineReleaseAll =>
      show (ownLineReleaseAll b p s).Leaves _
      unfold ownLineReleaseAll
      exact of_steers (h.groupClose hp _) (.withRoundRobin _ _)
    | slotClear =>
      show (ownSlotClear b p s).Leaves _
      unfold ownSlotClear
      (repeat' split) <;> try exact Verdict.leaves_refuse _ _
      exact h.groupClose hp _
    | tapCreate => exact h.ownTapCreate hp b p
    | _ => cases hk

/-! ## Computations and the clear -/

/-- The releases that complete are of taps that the computation advances, and those are in use (R85, R104). -/
theorem completeReleases (h : s.Fed) (c : Computation) (hu : ∀ j : TapIx, c.advancesTap j = true → (s.taps[j]).takesPart = true) :
    (s.completeReleases c).Fed := by
  rw [State.completeReleases_eq]
  refine h.removeTaps _ ((List.nodup_finRange 256).filter _) fun j hj => (Tap.takesPart_iff _).mp (hu j ?_)
  have released := (List.mem_filter.mp hj).2
  simp only [Computation.releasesTap, Bool.and_eq_true] at released
  exact released.1.1

theorem finish (h : s.Fed) {c : Computation} (hc : s.fe.computation = some c) : (s.finish c).Fed := by
  have idle : State.Fed { s with fe := { s.fe with computation := none } } :=
    ⟨⟨h.references.counts, h.references.lines⟩, h.taps.taps, nofun⟩
  have before (o : Vector TapOut 256) (cs : List (Dest × Int)) := h.taps.finishBefore hc o cs
  rw [State.finish_eq, State.finishFrom_eq]
  refine of_steers (completeCloses (completeReleases (idle.of_steers (before _ _)) c fun j hj => ?_)) (.alertTest _)
  have same := (Tap.account_eq ((before (c.tapOuts s.dmc.memory) (c.contributions (c.tapOuts s.dmc.memory))).tap_account j)).1
  exact same.trans ((Tap.takesPart_iff _).mpr (h.taps.view c hc j hj).1)

theorem completeComputation (h : s.Fed) (l : List Strike) : (s.completeComputation l).Fed := by
  have struck : State.Fed { s with dmc := { s.dmc with memory := l.foldl Memory.strike s.dmc.memory } } :=
    h.of_steers (.of_fe rfl rfl rfl rfl)
  unfold State.completeComputation
  dsimp only
  split
  · exact struck
  · rename_i c hc; exact struck.finish hc

theorem beginComputation (h : s.Fed) : s.beginComputation.Fed := by
  have worked := h.of_steers (.applyDueWork s)
  exact ⟨⟨worked.references.counts, worked.references.lines⟩, worked.taps.begun rfl⟩

theorem pageClear (h : s.Fed) (hp : s.Paged) (ht : execPageClearComplete s = .next t) : t.Fed := by
  cases hs : s.dmc.scrubber with
  | none =>
    obtain rfl := Host.Outcome.next.inj ht
    rw [hs]
    exact h
  | some p =>
    obtain rfl := Host.Outcome.next.inj ((execPageClearComplete_eq hs).symm.trans ht)
    have cleared : (s.pageJoined p).Paged := Dmc.Partitioned.pageCleared hp hs _
    have joined : s.Steers (s.pageJoined p) := .of_fe rfl rfl rfl rfl
    exact h.of_steers (joined.trans (cleared.serveWaitList_steers.trans ((State.Steers.startScrub _).trans (.memoryClean _))))

end State.Fed

/-- The ranges of the taps and the reference counts, beside the invariant of the pages, are kept by every owner and every event. -/
theorem State.Fed.kept : KeptByTables fun s => s.Paged ∧ s.Fed where
  frame ht h := ⟨State.Paged.kept.frame ht h.1, h.2.of_steers (.of_tables ht)⟩
  owner k b p s h := by
    have paged := h.1.owner k b p
    have fed := h.2.owner h.1 k b p
    cases hv : ownerOf k b p s with
    | refuse st => trivial
    | done t st q => rw [hv] at paged fed; exact ⟨paged, fed⟩
  reset s h := ⟨State.Paged.kept.reset s h.1, State.Fed.resetBlocks s⟩
  completion l s h := ⟨h.1.completeComputation l, h.2.completeComputation l⟩
  boundary s h := ⟨State.Paged.kept.boundary s h.1, h.2.of_steers (.of_fe rfl rfl rfl rfl)⟩
  schedule s h := ⟨State.Paged.kept.schedule s h.1, h.2.of_steers (.withSru s _)⟩
  clockBack s h := ⟨State.Paged.kept.clockBack s h.1, h.2.of_steers (.clockBack s)⟩
  computation s h := ⟨State.Paged.kept.computation s h.1, h.2.beginComputation⟩
  clear s t h ht := ⟨h.1.pageClear ht, h.2.pageClear h.1 ht⟩
  input n w fresh s t h ht := ⟨State.Paged.kept.input n w fresh s t h.1 ht, h.2.of_steers (input_steers ht)⟩
  measured n s t h ht := ⟨State.Paged.kept.measured n s t h.1 ht, h.2.of_steers (timed_steers (.inl ⟨n, ht⟩))⟩
  lost s t h ht := ⟨State.Paged.kept.lost s t h.1 ht, h.2.of_steers (timed_steers (.inr (.inl ht)))⟩
  timeout s t h ht := ⟨State.Paged.kept.timeout s t h.1 ht, h.2.of_steers (timed_steers (.inr (.inr ht)))⟩

/-- Settles O13: a step clamps what it writes into a slot or a tap, or moves a level, a gain or a position between two values in
range; a line changes its length only where the reference counts show that no tap in use reads it. -/
theorem slotsAndTapsStayInRange : Obligations.SlotsAndTapsStayInRange :=
  ⟨fun _ _ => State.SlotsInRange.kept.step, fun _ _ hp hr ht h => (State.Fed.kept.step ⟨hp, hr, ht⟩ h).2.taps⟩

end Sys2Proof.Machine
end

section
/-! SUPPORT. The arithmetic of one read and its scaling, and the read of one sample (R36, R49, R94, R95, R97, R98). -/

namespace Sys2Proof.Machine

/-! ## The feedback gain (R98) -/

theorem feedbackGain_zero (g : Int) : feedbackGain g 0 = g := by
  rw [feedbackGain, Int.pow_zero, Int.tdiv_one]

theorem feedbackGain_neg (g : Int) (n : Nat) : feedbackGain (-g) n = -feedbackGain g n := Int.neg_tdiv g (2 ^ n)

/-- Halving toward zero leaves no gain further from zero. -/
theorem feedbackGain_natAbs_le (g : Int) (n : Nat) : (feedbackGain g n).natAbs ≤ g.natAbs := by
  rw [feedbackGain, Int.natAbs_tdiv]
  exact Nat.div_le_self _ _

theorem View.effectiveGain_line {v : View} {t : TapIx} {k : LineIx} (h : (v.taps[t]).dest = .line k) :
    v.effectiveGain t = feedbackGain (v.taps[t]).gain (v.slots[(v.taps[t]).slot]).runaway := by
  unfold View.effectiveGain; rw [h]

/-- Settles O59: the gain of a line tap is a function of its gain current and of the runaway level of its slot alone. -/
theorem View.feedbackGain : Obligations.FeedbackGain := by
  refine ⟨fun v t k hd => ?_, fun u v t k hd htap hlevel => ?_, feedbackGain_neg⟩
  · rw [View.effectiveGain_line hd]
    refine ⟨rfl, fun h => ?_, fun h hg => ?_, fun h hg => ?_, fun low high => ?_⟩
    · rw [h, feedbackGain_zero]
    · rw [h, hg]; rfl
    · rw [h, hg]; rfl
    · have := feedbackGain_natAbs_le (v.taps[t]).gain (v.slots[(v.taps[t]).slot]).runaway
      omega
  · rw [View.effectiveGain_line hd, View.effectiveGain_line (htap ▸ hd)]
    simp only [htap, hlevel]

/-! ## The interpolated read (R95) -/

/-- The interpolated value lies between its samples: what is added to the first is at most the rounded f/256 of their difference,
and f is below 256. -/
theorem interpolate_between (a b : Int) {f : Nat} (hf : f < 256) :
    min a b ≤ interpolate a b f ∧ interpolate a b f ≤ max a b := by
  unfold interpolate
  rcases le_total a b with h | h
  · have low : 0 ≤ (b - a) * f := mul_nonneg (by omega) (by omega)
    have high : (b - a) * f ≤ (b - a) * 255 := mul_le_mul_of_nonneg_left (by omega) (by omega)
    omega
  · have low : (b - a) * 255 ≤ (b - a) * f := mul_le_mul_of_nonpos_left (by omega) (by omega)
    have high : (b - a) * f ≤ 0 := mul_nonpos_of_nonpos_of_nonneg (by omega) (by omega)
    omega

theorem interpolate_zero (a b : Int) : interpolate a b 0 = a := by
  unfold interpolate; omega

/-- A value between two samples is a sample. -/
theorem inSample_of_between {a b x : Int} (ha : InSample a) (hb : InSample b) (low : min a b ≤ x) (high : x ≤ max a b) :
    InSample x :=
  ⟨(le_min ha.1 hb.1).trans low, high.trans (max_le ha.2 hb.2)⟩

/-- The position at a delay, without a negative difference (R49). -/
theorem Line.positionAt_eq {l : Line} {d : Nat} (hd : d ≤ l.length) : l.positionAt d = (l.w + l.length - d) % l.length := by
  have sum : ((l.w + l.length - d : Nat) : Int) = (l.w - d) + l.length := by omega
  unfold Line.positionAt
  rw [← Int.add_emod_right, ← sum, ← Int.natCast_emod, Int.toNat_natCast]

/-- The read of a position that the page list maps (R36). -/
theorem readSample_of_mapped (m : Memory) (k : LineIx) {l : Line} {d : Nat} {g : Page}
    (hg : l.pages[l.positionAt d / 4096]? = some g) :
    readSample m k l d =
      if (m.read (g.val * 4096 + l.positionAt d % 4096)).damage = some .uncorrectable then
        { value := 0, faults := [(k, l.positionAt d)] }
      else { value := (m.read (g.val * 4096 + l.positionAt d % 4096)).value, faults := [] } := by
  have address : l.address (l.positionAt d) = some (g.val * 4096 + l.positionAt d % 4096) := by rw [Line.address, hg]; rfl
  rw [readSample, address]

/-- Settles O60: the two reads by definition, their bounds from those of the interpolation, each read from its address. -/
theorem Memory.interpolatedRead : Obligations.InterpolatedRead := by
  refine ⟨fun m k l q => ?_, fun m k l d g _ hd _ => ?_⟩
  · intro D f a b r
    obtain ⟨low, high⟩ : min a.value b.value ≤ r.value ∧ r.value ≤ max a.value b.value :=
      interpolate_between a.value b.value (Nat.mod_lt q (by decide))
    refine ⟨?_, rfl, low, high, fun hf => ?_, fun ha hb => inSample_of_between ha hb low high, fun least greatest => ?_⟩
    · rw [Int.fdiv_eq_ediv_of_nonneg _ (by decide)]; rfl
    · show interpolate a.value b.value f = a.value
      rw [hf, interpolate_zero]
    · omega
  · intro x hg y
    have position : l.positionAt d = x := Line.positionAt_eq hd
    rw [← position] at hg
    have read := readSample_of_mapped m k hg
    rw [position] at read
    exact ⟨fun damaged => by rw [read, if_pos damaged], fun sound => by rw [read, if_neg sound]⟩

end Sys2Proof.Machine
end

section
/-! SUPPORT. What stages 3 and 4 form for one tap of the view (R93, R94, R96, R97, R99). -/

namespace Sys2Proof.Machine

/-! ## Read positions (R94) -/

/-- The clamp leaves a read position at 256 or above, so that it is a natural number. -/
theorem readPosition_cast (length base : Nat) (offset : Int) :
    (readPosition length base offset : Int) = clampInt 256 (rangeTop length) (base + offset) :=
  Int.toNat_of_nonneg ((by decide : (0 : Int) ≤ 256).trans (le_max_left _ _))

/-- A read counts as clamped where its position differs from base plus offset. -/
theorem readClamped_count (length base : Nat) (offset : Int) :
    (if readClamped length base offset then 1 else 0) =
      if (readPosition length base offset : Int) = base + offset then 0 else 1 := by
  rw [readPosition_cast, readClamped]
  by_cases h : clampInt 256 (rangeTop length) (base + offset) = base + offset <;> simp [h]

/-! ## Base positions and the mix (R94, R96) -/

theorem Tap.bases_of_fading {t : Tap} {n k F : Nat} {p : Option Nat} (h : t.retune = .fading n k F p) :
    t.bases = [t.position, n] := by
  unfold Tap.bases; rw [h]

theorem Tap.mix_of_fading {t : Tap} {n k F : Nat} {p : Option Nat} (h : t.retune = .fading n k F p) (va vb : Int) :
    t.mix [va, vb] = fadeMix va vb k F := by
  unfold Tap.mix; rw [h]

theorem Tap.bases_of_not_fading {t : Tap} (h : ∀ n k F p, t.retune ≠ .fading n k F p) : t.bases = [t.position] := by
  unfold Tap.bases
  cases hr : t.retune with
  | fading n k F p => exact absurd hr (h n k F p)
  | idle => rfl
  | gliding step => rfl

theorem Tap.mix_of_not_fading {t : Tap} (h : ∀ n k F p, t.retune ≠ .fading n k F p) (x : Int) : t.mix [x] = x := by
  unfold Tap.mix
  cases hr : t.retune with
  | fading n k F p => exact absurd hr (h n k F p)
  | idle => rfl
  | gliding step => rfl

/-! ## One tap -/

/-- A tap whose reads a computation makes: readable in the view, its source line still in its life (R91, R94). -/
def Computation.makesReads (c : Computation) (t : TapIx) : Bool :=
  c.view.readable t && !c.written.lineLeft[(c.view.taps[t]).source]

theorem Computation.makesReads_iff (c : Computation) (t : TapIx) :
    c.makesReads t = true ↔ (c.view.taps[t]).state ≠ .unused ∧
      ((c.view.lines[(c.view.taps[t]).source]).state = .active ∨ (c.view.lines[(c.view.taps[t]).source]).state = .closing) ∧
      c.written.lineLeft[(c.view.taps[t]).source] = false := by
  rw [makesReads, View.readable_eq, Bool.and_eq_true, decide_eq_true_eq, Bool.not_eq_true', and_assoc]

/-- The interpolated read of a tap from one of its base positions (R94, R95). -/
def Computation.readFrom (c : Computation) (m : Memory) (t : TapIx) (base : Nat) : Reading :=
  let tap := c.view.taps[t]
  let line := c.view.lines[tap.source]
  interpolatedRead m tap.source line (readPosition line.length base (c.view.offset t))

/-- Whether R94 clamps that read, as a count. -/
def Computation.clampFrom (c : Computation) (t : TapIx) (base : Nat) : Nat :=
  if readClamped (c.view.lines[(c.view.taps[t]).source]).length base (c.view.offset t) then 1 else 0

/-- What a tap gives from the reads that a computation makes for it. -/
theorem Computation.tapOut_of_makesReads {c : Computation} {t : TapIx} (h : c.makesReads t = true) (m : Memory)
    {bases : List Nat} {sample : Int} (hb : (c.view.taps[t]).bases = bases)
    (hs : (c.view.taps[t]).mix (bases.map fun q => (c.readFrom m t q).value) = sample) :
    c.tapOut m t =
      { sample := sample
        clamps := (bases.map (c.clampFrom t)).sum
        faults := bases.flatMap fun q => (c.readFrom m t q).faults
        contribution := scaled sample (c.view.effectiveGain t) } := by
  subst hb hs
  refine (if_pos h).trans ?_
  simp only [List.map_map, List.flatMap_map, length_filter_eq_sum]
  rfl

/-- A tap whose reads are not made gives nothing: a contribution that it forms is that of sample 0. -/
theorem Computation.tapOut_of_not_makesReads {c : Computation} {t : TapIx} (h : ¬ c.makesReads t = true) (m : Memory) :
    c.tapOut m t = { sample := 0, clamps := 0, faults := [], contribution := 0 } := by
  have nothing : scaled 0 (c.view.effectiveGain t) = 0 := by rw [scaled, Int.zero_mul]; rfl
  refine (if_neg h).trans ?_
  rw [nothing, ite_self]

/-- Settles O54: the abbreviations of the statement are the model's own functions; then a tap is not read, or is read at its one
base position, or is read at two and mixed. -/
theorem tapsAreReadAndScaled : Obligations.TapsAreReadAndScaled := by
  intro c m t v tap line readable offset at' clamps read gain out
  have hoffset : v.offset t = offset := by
    show Option.elim tap.modulator _ _ = _
    cases h : tap.modulator <;> simp only [offset, h] <;> rfl
  have hgain : v.effectiveGain t = gain := by
    unfold View.effectiveGain gain
    cases h : tap.dest <;> rfl
  have hread (q : Nat) : c.readFrom m t q = read q := by
    show interpolatedRead m _ _ (readPosition _ q (v.offset t)) = _
    rw [hoffset]; rfl
  have hclamps (q : Nat) : c.clampFrom t q = clamps q := by
    refine (readClamped_count line.length q (v.offset t)).trans ?_
    rw [hoffset]; rfl
  refine ⟨fun h => ?_, fun h => ?_⟩
  · have hout : out = _ := Computation.tapOut_of_not_makesReads (mt (c.makesReads_iff t).mp h) m
    rw [hout]
    exact ⟨rfl, rfl, rfl, rfl⟩
  · have made := (c.makesReads_iff t).mpr h
    refine ⟨?_, fun single => ?_, fun n k F p fading => ?_⟩
    · show (c.tapOut m t).contribution = ((c.tapOut m t).sample * gain + 8192) / 16384
      rw [Computation.tapOut_of_makesReads made m rfl rfl, ← hgain]; rfl
    · have hout : out = _ :=
        Computation.tapOut_of_makesReads made m (Tap.bases_of_not_fading single) (Tap.mix_of_not_fading single _)
      rw [hout, ← hread, ← hclamps]
      exact ⟨rfl, rfl, List.append_nil _⟩
    · have hout : out = _ :=
        Computation.tapOut_of_makesReads made m (Tap.bases_of_fading fading) (Tap.mix_of_fading fading _ _)
      rw [hout, ← hread, ← hread, ← hclamps, ← hclamps]
      exact ⟨rfl, rfl, congrArg _ (List.append_nil _)⟩

end Sys2Proof.Machine
end

section
/-! SUPPORT. The retune of one tap, rule by rule: how it starts, what a new target does in each retune state, and its advance (R108 to
R116, R124). -/

namespace Sys2Proof.Machine

/-! ## The start of a retune (R110, R114) -/

/-- The glide step of R110 and R112, with the distance as R110 says it. -/
theorem glideStep_eq (a b G : Nat) : glideStep a b G = max 1 ((if a ≤ b then b - a else a - b) / G) := by
  rw [glideStep, delayDistance]
  split <;> congr 2 <;> omega

/-- A retune that starts, by the mode of the tap. -/
theorem Tap.startRetune_eq (n : Nat) (x : Tap) : x.startRetune n = { x with
    target := n
    retune := match x.retuneMode with
      | .fade => .fading n 0 x.retuneLength none
      | .glide => .gliding (max 1 ((if n ≤ x.position then x.position - n else n - x.position) / x.retuneLength)) } := by
  rw [Tap.startRetune, glideStep_eq]
  cases x.retuneMode <;> rfl

theorem Tap.startRetune_fade {x : Tap} (h : x.retuneMode = .fade) (n : Nat) :
    x.startRetune n = { x with target := n, retune := .fading n 0 x.retuneLength none } := by rw [Tap.startRetune, h]

theorem Tap.startRetune_glide {x : Tap} (h : x.retuneMode = .glide) (n : Nat) :
    x.startRetune n = { x with target := n, retune := .gliding (glideStep n x.position x.retuneLength) } := by
  rw [Tap.startRetune, h]

/-! ## The advance (R113, R114, R116) -/

section
variable {x : Tap} {n k F p st : Nat} {q : Option Nat}

theorem Tap.advanceRetune_idle (h : x.retune = .idle) : x.advanceRetune = (x, false) := by rw [Tap.advanceRetune, h]

theorem Tap.advanceRetune_counts (h : x.retune = .fading n k F q) (hk : k + 1 < F) :
    x.advanceRetune = ({ x with retune := .fading n (k + 1) F q }, false) := by
  rw [Tap.advanceRetune, h]
  exact if_pos hk

theorem Tap.advanceRetune_rests (h : x.retune = .fading n k F none) (hk : F ≤ k + 1) :
    x.advanceRetune = ({ x with position := n, retune := .idle }, false) := by
  rw [Tap.advanceRetune, h]
  exact if_neg (Nat.not_lt.mpr hk)

theorem Tap.advanceRetune_pending (h : x.retune = .fading n k F (some p)) (hk : F ≤ k + 1) :
    x.advanceRetune = (({ x with position := n, retune := .idle } : Tap).startRetune p, true) := by
  rw [Tap.advanceRetune, h]
  exact if_neg (Nat.not_lt.mpr hk)

/-- Where a glide stands after one advance (R116). -/
def Tap.glideMove (st : Nat) (x : Tap) : Nat :=
  if x.position ≤ x.target then min x.target (x.position + st) else max x.target (x.position - st)

theorem approach_toNat (st a b : Nat) :
    (approach st a b).toNat = if a ≤ b then min b (a + st) else max b (a - st) := by
  unfold approach
  split <;> split <;> omega

theorem Tap.advanceRetune_glides (h : x.retune = .gliding st) :
    x.advanceRetune =
      ({ x with position := x.glideMove st, retune := if x.glideMove st = x.target then .idle else .gliding st }, false) := by
  rw [Tap.advanceRetune, h]
  dsimp only
  rw [approach_toNat, ← Tap.glideMove]
  split
  · rfl
  · rw [← h]

end

/-! ## A new target, by the retune state (R109 to R112) -/

section
variable {x : Tap} {n m k F st : Nat} {q : Option Nat}

theorem Tap.retarget_idle (hn : n ≠ x.effectiveDestination) (h : x.retune = .idle) :
    x.retarget n = (x.startRetune n, .started) := by
  rw [Tap.retarget, if_neg hn, h]

/-- A fade drops its pending target for its own new position. -/
theorem Tap.retarget_fading_same (hn : n ≠ x.effectiveDestination) (h : x.retune = .fading m k F q) (hm : n = m) :
    x.retarget n = ({ x with target := n, retune := .fading m k F none }, .changed) := by
  rw [Tap.retarget, if_neg hn, h]
  subst hm
  exact if_pos rfl

/-- A fade sets or replaces its pending target. -/
theorem Tap.retarget_fading (hn : n ≠ x.effectiveDestination) (h : x.retune = .fading m k F q) (hm : n ≠ m) :
    x.retarget n =
      ({ x with target := n, retune := .fading m k F (some n) }, if q.isSome then .superseded else .changed) := by
  rw [Tap.retarget, if_neg hn, h]
  exact if_neg hm

theorem Tap.retarget_gliding_here (hn : n ≠ x.effectiveDestination) (h : x.retune = .gliding st) (hp : n = x.position) :
    x.retarget n = ({ x with target := n, retune := .idle }, .changed) := by
  rw [Tap.retarget, if_neg hn, h]
  subst hp
  exact if_pos rfl

theorem Tap.retarget_gliding (hn : n ≠ x.effectiveDestination) (h : x.retune = .gliding st) (hp : n ≠ x.position) :
    x.retarget n = ({ x with target := n, retune := .gliding (glideStep n x.position x.retuneLength) }, .changed) := by
  rw [Tap.retarget, if_neg hn, h]
  exact if_neg hp

end

/-! ## A target handed over (R120, R124) -/

section
variable {s : State} {t : TapIx} {n : Nat} {x y : Tap}

/-- The state with the tap's record written and the write marked (R120). -/
def State.retuned (t : TapIx) (y : Tap) (s : State) : State := { s with taps := s.taps.set t y }.note (Written.retuneTap t)

/-- What a new target does to the part, besides the tap: the counter of its slot (R124). -/
def Retarget.counts (i : SlotIx) (s : State) : Retarget → State
  | .started => s.countSlot i fun c => { c with started := c.started + 1 }
  | .superseded => s.countSlot i fun c => { c with superseded := c.superseded + 1 }
  | .same | .changed => s

theorem State.handTarget_of_same (h : n = (s.taps[t]).effectiveDestination) : s.handTarget t n = s := by
  rw [State.handTarget, Tap.retarget_same h]

theorem State.handTarget_of_new {r : Retarget} (hy : (s.taps[t]).retarget n = (y, r)) (hr : r ≠ .same) :
    s.handTarget t n = (r.counts (s.taps[t]).slot s).retuned t y := by
  obtain rfl : ((s.taps[t]).retarget n).1 = y := congrArg Prod.fst hy
  have outcome : ((s.taps[t]).retarget n).2 = r := congrArg Prod.snd hy
  rw [State.handTarget, outcome]
  cases r with
  | same => exact absurd rfl hr
  | started | superseded | changed => rfl

end

/-- Settles O37: the retune state and, for an IDLE tap, the mode choose the rule; what a new target does to the part besides the tap
is told by its outcome alone. -/
theorem newTargetsByRetuneState : Obligations.NewTargetsByRetuneState := by
  refine ⟨fun x => ⟨Tap.advanceRetune_idle, fun _ _ _ _ => Tap.advanceRetune_counts, fun _ _ _ => Tap.advanceRetune_rests,
    fun _ _ _ p h hk => ?_, fun _ => Tap.advanceRetune_glides⟩, ?_⟩
  · exact (Tap.advanceRetune_pending h hk).trans (congrArg (·, true) (Tap.startRetune_eq p _))
  · intro s t T x written step counted
    have hstep : glideStep T x.position x.retuneLength = step := glideStep_eq T x.position x.retuneLength
    refine ⟨State.handTarget_of_same, fun hT => ⟨fun h hm => ?_, fun h hm => ?_, fun n k F p h hn => ?_, fun n k F h hn => ?_,
      fun n k F p h hn => ?_, fun st h hp => ?_, fun st h hp => ?_⟩⟩
    · exact State.handTarget_of_new (r := .started) ((Tap.retarget_idle hT h).trans (by rw [Tap.startRetune_fade hm])) nofun
    · exact State.handTarget_of_new (r := .started) ((Tap.retarget_idle hT h).trans (by rw [Tap.startRetune_glide hm, hstep])) nofun
    · exact State.handTarget_of_new (Tap.retarget_fading_same hT h hn) nofun
    · exact State.handTarget_of_new (Tap.retarget_fading hT h hn) nofun
    · exact State.handTarget_of_new (Tap.retarget_fading hT h hn) nofun
    · exact State.handTarget_of_new (Tap.retarget_gliding_here hT h hp) nofun
    · exact State.handTarget_of_new (r := .changed) (hstep ▸ Tap.retarget_gliding hT h hp) nofun

end Sys2Proof.Machine
end

section
/-! SUPPORT. The retune fields of one tap in agreement (R108), under the operations that write the tap. -/

namespace Sys2Proof.Machine

/-- The fields of a tap that its retune turns on (R108). -/
def Tap.steering (x : Tap) : Nat × RetuneMode × Nat × Retune × Nat :=
  (x.target, x.retuneMode, x.retuneLength, x.retune, x.position)

theorem Tap.effectiveDestination_idle {x : Tap} (h : x.retune = .idle) : x.effectiveDestination = x.target := by
  rw [Tap.effectiveDestination, h]

theorem Tap.effectiveDestination_gliding {x : Tap} {st : Nat} (h : x.retune = .gliding st) : x.effectiveDestination = x.target := by
  rw [Tap.effectiveDestination, h]

theorem Tap.effectiveDestination_fading {x : Tap} {n k F : Nat} {q : Option Nat} (h : x.retune = .fading n k F q) :
    x.effectiveDestination = q.getD n := by
  rw [Tap.effectiveDestination, h]
  cases q <;> rfl

/-- The range of a fade length (R66). -/
theorem retuneLengthFits_fade {n : Nat} : retuneLengthFits .fade n ↔ 16 ≤ n ∧ n ≤ 16384 := Iff.rfl

namespace Tap.RetuneAgrees

variable {x y : Tap}

/-- The agreement is about those fields alone. -/
theorem of_steering (h : x.RetuneAgrees) (he : y.steering = x.steering) : y.RetuneAgrees := by
  simp only [Tap.steering, Prod.mk.injEq] at he
  obtain ⟨htarget, hmode, hlength, hretune, hposition⟩ := he
  have dest : y.effectiveDestination = x.effectiveDestination := by
    rw [Tap.effectiveDestination, Tap.effectiveDestination, hretune, htarget]
  refine ⟨?_, ?_, ?_, ?_, ?_⟩
  · rw [htarget, dest]; exact h.target
  · rw [hretune, hposition, htarget]; exact h.idle
  · rw [hretune]; exact h.fading
  · rw [hretune, hposition, htarget]; exact h.gliding
  · rw [hmode, hlength]; exact h.length

/-- A tap that rests. -/
theorem of_idle (hr : x.retune = .idle) (hp : x.position = x.target) (hl : retuneLengthFits x.retuneMode x.retuneLength) :
    x.RetuneAgrees where
  target := (Tap.effectiveDestination_idle hr).symm
  idle _ := hp
  fading _ _ _ _ he := nomatch hr.symm.trans he
  gliding _ he := nomatch hr.symm.trans he
  length := hl

/-- A tap in a fade that has not run out. -/
theorem of_fading {n k F : Nat} {q : Option Nat} (hr : x.retune = .fading n k F q) (ht : x.target = q.getD n) (hk : k < F)
    (hF : 16 ≤ F ∧ F ≤ 16384) (hq : q ≠ some n) (hl : retuneLengthFits x.retuneMode x.retuneLength) : x.RetuneAgrees where
  target := ht.trans (Tap.effectiveDestination_fading hr).symm
  idle he := nomatch hr.symm.trans he
  fading _ _ _ _ he := by cases hr.symm.trans he; exact ⟨hk, hF.1, hF.2, hq⟩
  gliding _ he := nomatch hr.symm.trans he
  length := hl

/-- A tap in a glide that has not arrived. -/
theorem of_gliding {st : Nat} (hr : x.retune = .gliding st) (hst : 1 ≤ st) (hp : x.position ≠ x.target)
    (hl : retuneLengthFits x.retuneMode x.retuneLength) : x.RetuneAgrees where
  target := (Tap.effectiveDestination_gliding hr).symm
  idle he := nomatch hr.symm.trans he
  fading _ _ _ _ he := nomatch hr.symm.trans he
  gliding _ he := by cases hr.symm.trans he; exact ⟨hst, hp⟩
  length := hl

/-- A retune starts toward a target away from the tap's position (R110, R114). -/
theorem startRetune {n : Nat} (hl : retuneLengthFits x.retuneMode x.retuneLength) (hn : n ≠ x.position) :
    (x.startRetune n).RetuneAgrees := by
  cases hm : x.retuneMode with
  | fade =>
    have hF := retuneLengthFits_fade.mp (hm ▸ hl)
    rw [Tap.startRetune_fade hm]
    exact of_fading rfl rfl (by omega) hF nofun hl
  | glide =>
    rw [Tap.startRetune_glide hm]
    exact of_gliding rfl (Nat.le_max_left 1 _) hn.symm hl

/-- A new target, in every retune state (R109 to R112). -/
theorem retarget (h : x.RetuneAgrees) (n : Nat) : (x.retarget n).1.RetuneAgrees := by
  by_cases hn : n = x.effectiveDestination
  · rw [Tap.retarget_same hn]
    exact h
  · have hnew : n ≠ x.target := h.target ▸ hn
    cases hr : x.retune with
    | idle =>
      rw [Tap.retarget_idle hn hr]
      exact startRetune h.length (h.idle hr ▸ hnew)
    | fading m k F q =>
      obtain ⟨hk, hlo, hhi, -⟩ := h.fading m k F q hr
      by_cases hm : n = m
      · rw [Tap.retarget_fading_same hn hr hm]
        exact of_fading rfl hm hk ⟨hlo, hhi⟩ nofun h.length
      · rw [Tap.retarget_fading hn hr hm]
        exact of_fading rfl rfl hk ⟨hlo, hhi⟩ (fun he => hm (Option.some.inj he)) h.length
    | gliding st =>
      by_cases hp : n = x.position
      · rw [Tap.retarget_gliding_here hn hr hp]
        exact of_idle rfl hp.symm h.length
      · rw [Tap.retarget_gliding hn hr hp]
        exact of_gliding rfl (Nat.le_max_left 1 _) (Ne.symm hp) h.length

/-- A fade counts below its length, rests or goes on to its pending target; a glide rests where it arrives (R113, R114, R116). -/
theorem advanceRetune (h : x.RetuneAgrees) : x.advanceRetune.1.RetuneAgrees := by
  cases hr : x.retune with
  | idle => rw [Tap.advanceRetune_idle hr]; exact h
  | fading n k F q =>
    obtain ⟨-, hlo, hhi, hq⟩ := h.fading n k F q hr
    have dest : x.target = q.getD n := h.target.trans (Tap.effectiveDestination_fading hr)
    by_cases hk : k + 1 < F
    · rw [Tap.advanceRetune_counts hr hk]
      exact of_fading rfl dest hk ⟨hlo, hhi⟩ hq h.length
    · have ended := Nat.not_lt.mp hk
      cases q with
      | none =>
        rw [Tap.advanceRetune_rests hr ended]
        exact of_idle rfl dest.symm h.length
      | some p =>
        rw [Tap.advanceRetune_pending hr ended]
        exact startRetune (x := { x with position := n, retune := .idle }) h.length fun hp => hq (congrArg some hp)
  | gliding st =>
    rw [Tap.advanceRetune_glides hr]
    by_cases harrived : x.glideMove st = x.target
    · exact of_idle (if_pos harrived) harrived h.length
    · exact of_gliding (if_neg harrived) (h.gliding st hr).1 harrived h.length

/-- A tap that is asked to release goes on with its retune (R57, R83). -/
theorem release (h : x.RetuneAgrees) : x.release.RetuneAgrees := by
  unfold Tap.release
  split
  · exact h.of_steering rfl
  · exact h

/-- The parts of a TAP_SET: of the fields it writes the mode and the length alone, together (R78). -/
theorem write (h : x.RetuneAgrees) {p : TapParts} (hp : ∀ m n, p.retune = some (m, n) → retuneLengthFits m n) :
    (x.write p).RetuneAgrees := by
  have length : retuneLengthFits ((p.retune.map Prod.fst).getD x.retuneMode) ((p.retune.map Prod.snd).getD x.retuneLength) := by
    cases hr : p.retune with
    | none => exact h.length
    | some r => exact hp r.1 r.2 hr
  exact { h with length := length }

/-- The advances of stage 7 (R76, R104, R113, R120). -/
theorem advanceOf (h : x.RetuneAgrees) (c : Computation) (t : TapIx) : (c.advanceOf t x).1.RetuneAgrees := by
  have stepped : (c.stepGain t x).RetuneAgrees := h.of_steering rfl
  unfold Computation.advanceOf
  (repeat' split)
  · exact stepped
  · exact stepped.advanceRetune
  · exact h

end Tap.RetuneAgrees

/-- A created tap rests at its target (R73). -/
theorem createdTap_retuneAgrees (i : SlotIx) (k : LineIx) (d : Dest) (sp : DelaySpec) (n : Nat) (m : Option ModIx) (e : Nat) (g : Int)
    {rm : RetuneMode × Nat} (h : retuneLengthFits rm.1 rm.2) : (createdTap i k d sp n m e g rm).RetuneAgrees :=
  .of_idle rfl rfl h

/-! ## The lengths that a request gives (R70, R78) -/

/-- The clamp puts a length in the range of its mode (R70). -/
theorem retuneLengthFits_clamp (m : RetuneMode) (n : Nat) : retuneLengthFits m (clampNat 16 m.top n) := by
  cases m <;> exact clampNat_mem (by decide) n

theorem retunePartOf_fits {mode l1 l0 : Byte} {r : RetuneMode × Nat} {clamped : Bool}
    (h : retunePartOf mode l1 l0 = some (r, clamped)) : retuneLengthFits r.1 r.2 := by
  by_cases hmode : mode.toNat ≤ 1
  · obtain ⟨m, rfl⟩ := RetuneMode.code_of_le hmode
    rw [retunePartOf_code] at h
    cases h
    exact retuneLengthFits_clamp m _
  · rw [retunePartOf_bad (Nat.lt_of_not_le hmode)] at h
    cases h

theorem tapPartsOf_retuneFits {dest : Dest} {mask kind v3 v2 v1 v0 modu e1 e0 g1 g0 mode l1 l0 : Byte} {p : TapParts} {clamped : Bool}
    (h : tapPartsOf dest mask kind v3 v2 v1 v0 modu e1 e0 g1 g0 mode l1 l0 = .ok (p, clamped)) (m : RetuneMode) (n : Nat)
    (hp : p.retune = some (m, n)) : retuneLengthFits m n := by
  have part : p.retune = (if mask.getLsbD 3 then retunePartOf mode l1 l0 else none).map Prod.fst := by
    unfold tapPartsOf at h
    split at h
    · cases h
    · split at h
      · cases h
      · split at h
        · cases h
        · cases h; rfl
  rw [part] at hp
  split at hp
  · obtain ⟨⟨r, c⟩, hr, rfl⟩ := Option.map_eq_some_iff.mp hp
    exact retunePartOf_fits hr
  · cases hp

end Sys2Proof.Machine
end

section
/-! SUPPORT. The recall lists as an induction (R153 to R160): what every entry that may wait in them keeps, an applied list, the due
work, the commits and the requests of the lists keep. -/

namespace Sys2Proof.Machine

/-- A property of states that the entries with a property of their own keep, and what waits in the lists has that property. -/
structure KeptByLists (P : State → Prop) (Q : Entry → Prop) : Prop where
  frame : ∀ {s t : State}, t.tables = s.tables → P s → P t
  held  : ∀ {s : State}, P s → ∀ e ∈ s.sru.entries, Q e
  lists : ∀ {s : State} {u : Sru}, u.slots = s.sru.slots → (∀ e ∈ u.entries, Q e) → P s → P { s with sru := u }
  count : ∀ {s : State} (i : SlotIx) (f : SlotCounters → SlotCounters), P s → P (s.countSlot i f)
  entry : ∀ {s : State} {e : Entry}, Q e → P s → P (e.apply s)

theorem Sru.mem_entries {u : Sru} {e : Entry} :
    e ∈ u.entries ↔ (e ∈ u.staging ∨ e ∈ u.dueNow) ∨ ∃ a ∈ u.queue, e ∈ a.entries := by
  simp only [Sru.entries, List.mem_append, List.mem_flatMap]

namespace KeptByLists

variable {P : State → Prop} {Q : Entry → Prop} {s : State}

/-! ## The lists -/

theorem handleEntry (hP : KeptByLists P Q) {x : State × Tallied} {e : Entry} (he : Q e) (h : P x.1) : P (handleEntry x e).1 := by
  have counted (f : SlotCounters → SlotCounters) : P (e.slot.elim x.1 fun i => x.1.countSlot i f) := by
    cases e.slot with
    | none => exact h
    | some i => exact hP.count i f h
  unfold Machine.handleEntry
  (repeat' split)
  · exact counted _
  · exact counted _
  · exact hP.entry he h

theorem applyList (hP : KeptByLists P Q) {l : List Entry} (hl : ∀ e ∈ l, Q e) (h : P s) : P (applyList l s).1 := by
  have fold (n : Tallied) : P (l.foldl Machine.handleEntry (s, n)).1 :=
    List.foldlRecOn (motive := fun x : State × Tallied => P x.1) l _ h fun _ hx e he => hP.handleEntry (hl e he) hx
  unfold Machine.applyList
  dsimp only
  split
  · exact fold _
  · exact hP.frame (State.raise_tables _ _) (fold _)

theorem applyAction (hP : KeptByLists P Q) {a : Action} (ha : ∀ e ∈ a.entries, Q e) (h : P s) : P (s.applyAction a) := by
  unfold State.applyAction
  dsimp only
  refine hP.applyList ha ?_
  split
  · exact h
  · exact hP.frame (State.raise_tables _ _) (hP.frame (s := s) rfl h)

theorem staging (hP : KeptByLists P Q) (h : P s) : ∀ e ∈ s.sru.staging, Q e := fun e he =>
  hP.held h e (Sru.mem_entries.mpr (.inl (.inl he)))

theorem dueNow (hP : KeptByLists P Q) (h : P s) : ∀ e ∈ s.sru.dueNow, Q e := fun e he =>
  hP.held h e (Sru.mem_entries.mpr (.inl (.inr he)))

theorem queue (hP : KeptByLists P Q) (h : P s) : ∀ a ∈ s.sru.queue, ∀ e ∈ a.entries, Q e := fun a ha e he =>
  hP.held h e (Sru.mem_entries.mpr (.inr ⟨a, ha, he⟩))

/-- Other lists of such entries take the place of the lists. -/
theorem relist (hP : KeptByLists P Q) {u : Sru} (hu : u.slots = s.sru.slots) (hs : ∀ e ∈ u.staging, Q e)
    (hd : ∀ e ∈ u.dueNow, Q e) (hq : ∀ a ∈ u.queue, ∀ e ∈ a.entries, Q e) (h : P s) : P { s with sru := u } :=
  hP.lists hu (fun e he => by
    obtain (he | he) | ⟨a, ha, he⟩ := Sru.mem_entries.mp he
    · exact hs e he
    · exact hd e he
    · exact hq a ha e he) h

/-- The due work of a computation leaves the other lists as they were (R158). -/
theorem applyDueWork (hP : KeptByLists P Q) (h : P s) : P s.applyDueWork := by
  have taken : P { s with sru := { s.sru with queue := s.sru.queue.filter fun a => !a.isDue, dueNow := [] } } :=
    hP.relist rfl (hP.staging h) nofun (fun a ha => hP.queue h a (List.mem_filter.mp ha).1) h
  exact hP.applyList (hP.dueNow h) (List.foldlRecOn _ _ taken fun _ hu a ha =>
    hP.applyAction (hP.queue h a (List.mem_filter.mp ha).1) hu)

theorem testSchedule (hP : KeptByLists P Q) (h : P s) : P s.testSchedule :=
  hP.relist rfl (hP.staging h) (hP.dueNow h) (fun a ha => by
    obtain ⟨b, hb, rfl⟩ := List.mem_map.mp ha
    exact hP.queue h b hb) h

/-! ## The requests -/

theorem stageEntry (hP : KeptByLists P Q) {e : Entry} (he : Q e) (clamped : Bool) (h : P s) : (stageEntry e clamped s).Leaves P := by
  unfold Machine.stageEntry
  split
  · trivial
  · refine hP.relist rfl (fun x hx => ?_) (hP.dueNow h) (hP.queue h) h
    obtain hx | hx := List.mem_append.mp hx
    · exact hP.staging h x hx
    · exact List.mem_singleton.mp hx ▸ he

/-- A request that is staged joins the list; the direct one is applied. -/
theorem staged_or (hP : KeptByLists P Q) {b : Bool} {e : Entry} (he : Q e) {clamped : Bool} {t : State} {st : Status} {q : List Byte}
    (ht : P t) (h : P s) : (if b then Machine.stageEntry e clamped s else .done t st q).Leaves P := by
  split
  · exact hP.stageEntry he _ h
  · exact ht

theorem commitNow (hP : KeptByLists P Q) (h : P s) : (commitNow s).Leaves P := by
  unfold Machine.commitNow
  (repeat' split)
  · exact h
  · refine hP.relist rfl nofun (fun e he => ?_) (hP.queue h) h
    exact (List.mem_append.mp he).elim (hP.dueNow h e) (hP.staging h e)
  · have taken : P { s with sru := { s.sru with staging := [], dueNow := [] } } := hP.relist rfl nofun nofun (hP.queue h) h
    exact hP.applyList (hP.staging h) (hP.applyList (hP.dueNow h) taken)

theorem commitAt (hP : KeptByLists P Q) (f : Word32) (h : P s) : (commitAt f s).Leaves P := by
  unfold Machine.commitAt
  (repeat' split) <;> try exact Verdict.leaves_refuse _ _
  refine hP.relist rfl nofun (hP.dueNow h) (fun a ha => ?_) h
  obtain rfl | ha := (mem_placeAction _ _ _ _).mp ha
  · exact hP.staging h
  · exact hP.queue h a ha

theorem ownCommit (hP : KeptByLists P Q) (b : Bool) (p : List Byte) (h : P s) : (ownCommit b p s).Leaves P := by
  unfold Machine.ownCommit
  (repeat' split) <;> try exact Verdict.leaves_refuse _ _
  · exact hP.commitNow h
  · exact hP.commitAt _ h

theorem ownDiscard (hP : KeptByLists P Q) (b : Bool) (p : List Byte) (h : P s) : (ownDiscard b p s).Leaves P :=
  hP.relist (u := { s.sru with staging := [] }) rfl nofun (hP.dueNow h) (hP.queue h) h

theorem ownSchedCancel (hP : KeptByLists P Q) (b : Bool) (p : List Byte) (h : P s) : (ownSchedCancel b p s).Leaves P := by
  unfold Machine.ownSchedCancel
  (repeat' split) <;> try exact Verdict.leaves_refuse _ _
  exact hP.relist rfl (hP.staging h) (hP.dueNow h) (fun a ha => hP.queue h a (List.mem_filter.mp ha).1) h

end KeptByLists

end Sys2Proof.Machine
end

section
/-! SUPPORT. The retune fields of every tap in agreement (R108), with what waits in the lists: the shared operations. -/

namespace Sys2Proof.Machine

theorem State.entries_of_slotted {s t : State} (h : t.slotted = s.slotted) : t.sru.entries = s.sru.entries := by
  simp only [State.slotted, Prod.mk.injEq] at h
  exact h.2.2.2

theorem State.handTarget_taps (s : State) (t : TapIx) (n : Nat) :
    (s.handTarget t n).taps = updateAt s.taps t fun y => (y.retarget n).1 := by
  rw [State.handTarget_eq s t n rfl]
  rfl

namespace State.RetunesAgree

variable {s t : State}

/-- Each tap keeps its agreement, and the lists hold what they held. -/
theorem tapwise (h : s.RetunesAgree) (he : t.sru.entries = s.sru.entries)
    (ht : ∀ j : TapIx, (s.taps[j]).RetuneAgrees → (t.taps[j]).RetuneAgrees) : t.RetunesAgree :=
  ⟨fun j => ht j (h.taps j), he ▸ h.entries⟩

theorem of_taps (h : s.RetunesAgree) (ht : t.taps = s.taps) (he : t.sru.entries = s.sru.entries) : t.RetunesAgree :=
  h.tapwise he fun _ hx => ht ▸ hx

theorem of_taps_sru (h : s.RetunesAgree) (ht : t.taps = s.taps ∧ t.sru = s.sru) : t.RetunesAgree :=
  h.of_taps ht.1 (congrArg Sru.entries ht.2)

theorem of_tables (h : s.RetunesAgree) (he : t.tables = s.tables) : t.RetunesAgree := by
  simp only [State.tables, Prod.mk.injEq] at he
  obtain ⟨-, -, -, htaps, -, -, hsru⟩ := he
  exact h.of_taps_sru ⟨htaps, hsru⟩

/-- Where every tap is UNUSED and the lists are empty there is nothing to keep. -/
theorem of_free (ht : t.taps = Vector.replicate 256 Tap.freeValue) (he : t.sru.entries = []) : t.RetunesAgree :=
  State.reset_retunesAgree.of_taps ht he

theorem mapTap (h : s.RetunesAgree) (j : TapIx) {f : Tap → Tap} (hf : ∀ x : Tap, x.RetuneAgrees → (f x).RetuneAgrees) :
    (s.mapTap j f).RetunesAgree :=
  h.tapwise rfl fun i hx => by
    rw [State.mapTap_taps, updateAt_get]
    split
    · exact hf _ hx
    · exact hx

theorem withMu (h : s.RetunesAgree) (u : ModUnit) : RetunesAgree { s with mu := u } := h.of_taps rfl rfl

theorem withDmc (h : s.RetunesAgree) (d : Dmc) : RetunesAgree { s with dmc := d } := h.of_taps rfl rfl

theorem note (h : s.RetunesAgree) (f : Written → Written) : (s.note f).RetunesAgree := h.of_taps rfl rfl

theorem countDelayClamp (h : s.RetunesAgree) (i : SlotIx) (b : Bool) : (s.countDelayClamp i b).RetunesAgree :=
  h.of_taps (by simp) (entries_of_slotted (s.countDelayClamp_slotted i b))

theorem startScrub (h : s.RetunesAgree) : s.startScrub.RetunesAgree := h.of_taps_sru (by simp)

/-! ## Targets and tempo -/

theorem handTarget (h : s.RetunesAgree) (j : TapIx) (n : Nat) : (s.handTarget j n).RetunesAgree :=
  (h.mapTap j fun _ hx => hx.retarget n).of_taps (s.handTarget_taps j n) (entries_of_slotted (s.handTarget_slotted j n))

theorem formTarget (h : s.RetunesAgree) (j : TapIx) : (s.formTarget j).RetunesAgree :=
  (h.countDelayClamp _ _).handTarget j _

theorem followTempo (h : s.RetunesAgree) (j : TapIx) : (s.followTempo j).RetunesAgree := by
  unfold State.followTempo
  split
  · exact h.formTarget j
  · exact h

theorem setTempo (h : s.RetunesAgree) (b : Nat) : (s.setTempo b).RetunesAgree := by
  have follow {v : State} (hv : v.RetunesAgree) : ((List.finRange 256).foldl State.followTempo v).RetunesAgree :=
    List.foldlRecOn _ _ hv fun _ hu j _ => hu.followTempo j
  unfold State.setTempo
  dsimp only
  (repeat' split)
  · exact h
  · exact ((follow (h.withMu _)).withMu _).note _
  · exact follow (h.withMu _)

theorem markBeat (h : s.RetunesAgree) : s.markBeat.RetunesAgree := h.of_taps rfl rfl

theorem acceptMark (h : s.RetunesAgree) (i : Nat) : (s.acceptMark i).RetunesAgree := by
  unfold State.acceptMark
  exact ((h.withMu _).setTempo _).markBeat

/-! ## The tap requests -/

theorem applyTapSet (h : s.RetunesAgree) (j : TapIx) {p : TapParts}
    (hp : ∀ m n, p.retune = some (m, n) → retuneLengthFits m n) : (s.applyTapSet j p).RetunesAgree := by
  have written := h.mapTap j fun _ hx => hx.write hp
  unfold State.applyTapSet
  dsimp only
  split
  · exact written.formTarget j
  · exact written

theorem fillTap (h : s.RetunesAgree) (f : FillField) (j : TapIx) : (s.fillTap f j).RetunesAgree := by
  cases f with
  | gain g => exact h.mapTap j fun _ hx => hx.of_steering rfl
  | delay d => exact (h.mapTap j (f := fun x => { x with spec := .fixed d }) fun _ hx => hx.of_steering rfl).formTarget j
  | depth d => exact h.mapTap j fun _ hx => hx.of_steering rfl

theorem applyTapFill (h : s.RetunesAgree) (i : SlotIx) (a b : TapIx) (f : FillField) : (s.applyTapFill i a b f).RetunesAgree :=
  List.foldlRecOn _ _ h fun _ hu j _ => hu.fillTap f j

theorem enterTap (h : s.RetunesAgree) (i : TapIx) {x : Tap} (hx : x.RetuneAgrees) : (s.enterTap i x).RetunesAgree :=
  h.tapwise (entries_of_slotted (s.enterTap_slotted i x)) fun j hj => by
    rw [State.enterTap_tap]
    split
    · exact hx
    · exact hj

/-! ## The closes: a tap becomes UNUSED, is released, or stays as it is -/

theorem dropWaiting (h : s.RetunesAgree) (k : LineIx) : (s.dropWaiting k).RetunesAgree :=
  h.tapwise (entries_of_slotted (s.dropWaiting_slotted k)) fun j hj => by
    rw [State.dropWaiting_tap]
    split
    · exact Tap.freeValue_retuneAgrees
    · exact hj

theorem beginClose (h : s.RetunesAgree) (k : LineIx) : (s.beginClose k).RetunesAgree :=
  h.tapwise rfl fun j hj => by
    rw [State.beginClose_tap]
    split
    · exact hj.release
    · exact hj

theorem completeCloses (h : s.RetunesAgree) : s.completeCloses.RetunesAgree := h.of_taps_sru (by simp)

theorem serveWaitList (h : s.RetunesAgree) : s.serveWaitList.RetunesAgree := h.of_taps_sru (by simp)

theorem closeWaiting (h : s.RetunesAgree) (k : LineIx) : (s.closeWaiting k).RetunesAgree :=
  (h.dropWaiting k).completeCloses.serveWaitList

theorem closeActive (h : s.RetunesAgree) (k : LineIx) : (s.closeActive k).RetunesAgree := (h.beginClose k).completeCloses

theorem groupClose (h : s.RetunesAgree) (p : Line → Bool) : (s.groupClose p).RetunesAgree := by
  have dropped : (s.dropAll (s.waitingOf p)).RetunesAgree := List.foldlRecOn _ _ h fun _ hu k _ => hu.dropWaiting k
  have begun : ((s.dropAll (s.waitingOf p)).closeAll (s.activeOf p)).RetunesAgree :=
    List.foldlRecOn _ _ dropped fun _ hu k _ => hu.beginClose k
  rw [State.groupClose_eq]
  exact begun.completeCloses.serveWaitList

/-! ## Entries and lists -/

theorem applyEntry (h : s.RetunesAgree) {e : Entry} (he : e.retuneFits) : (e.apply s).RetunesAgree := by
  cases e with
  | tapSet j p i => exact h.applyTapSet j he
  | tapFill i a b f => exact h.applyTapFill i a b f
  | tempoSet b => exact h.setTempo b
  | lineSet | slotSet | modSet | outmapSet => exact h.of_taps rfl rfl
  | outmapFill i j st v => exact h.of_taps_sru (by simp [Entry.apply])

theorem keptByLists : KeptByLists State.RetunesAgree Entry.retuneFits where
  frame ht h := h.of_tables ht
  held h := h.entries
  lists _ hu h := ⟨h.taps, hu⟩
  count _ _ h := h.of_taps rfl rfl
  entry he h := h.applyEntry he

end State.RetunesAgree

end Sys2Proof.Machine
end

section
/-! SUPPORT. The retune fields of every tap in agreement (R108): every owner and every event keeps them. -/

namespace Sys2Proof.Machine

/-- The kinds that leave the taps and the recall lists alone. -/
def Kind.leavesTaps : Kind → Bool
  | .init | .outmapSet | .outmapFill | .lineSet | .lineClose | .lineReleaseTag | .lineReleaseAll | .tapCreate | .tapSet | .tapFill
  | .tapFree | .modSet | .tempoSet | .beat | .slotSet | .slotClear | .commit | .discard | .schedCancel => false
  | _ => true

theorem ownerOf_taps (k : Kind) (hk : k.leavesTaps = true) (b : Bool) (p : List Byte) (s : State) :
    (ownerOf k b p s).Leaves fun t => t.taps = s.taps ∧ t.sru.entries = s.sru.entries := by
  cases k with
  | init | outmapSet | outmapFill | lineSet | lineClose | lineReleaseTag | lineReleaseAll | tapCreate | tapSet | tapFill | tapFree
  | modSet | tempoSet | beat | slotSet | slotClear | commit | discard | schedCancel => cases hk
  | status | reset | timeGet | outmapGet | poolGet | tempoGet | schedGet | condGet | checkRead | checkClear | probeGet =>
    exact ⟨rfl, rfl⟩
  | start => show (ownStart b p s).Leaves _; unfold ownStart; split <;> simp [Sru.entries]
  | stop => show (ownStop b p s).Leaves _; unfold ownStop; split <;> simp
  | halt => show (ownHalt b p s).Leaves _; unfold ownHalt; split <;> simp
  | resume => show (ownResume b p s).Leaves _; unfold ownResume; (repeat' split) <;> simp
  | portDrive => show (ownPortDrive b p s).Leaves _; unfold ownPortDrive; (repeat' split) <;> simp
  | portBypass => show (ownPortBypass b p s).Leaves _; unfold ownPortBypass; (repeat' split) <;> simp
  | checkSet => show (ownCheckSet b p s).Leaves _; unfold ownCheckSet; (repeat' split) <;> simp
  | lineOpen =>
    show (ownLineOpen b p s).Leaves _
    unfold ownLineOpen
    (repeat' split) <;> try exact Verdict.leaves_refuse _ _
    dsimp only
    split
    · exact Verdict.leaves_refuse _ _
    · unfold admitLine; split <;> simp
  | lineGet => show (ownLineGet b p s).Leaves _; unfold ownLineGet; (repeat' split) <;> simp
  | tapGet => show (ownTapGet b p s).Leaves _; unfold ownTapGet; (repeat' split) <;> simp
  | modSync => show (ownModSync b p s).Leaves _; unfold ownModSync; (repeat' split) <;> simp
  | modGet => show (ownModGet b p s).Leaves _; unfold ownModGet; (repeat' split) <;> simp
  | slotGet => show (ownSlotGet b p s).Leaves _; unfold ownSlotGet; (repeat' split) <;> simp [Sru.entries]
  | condEnable => show (ownCondEnable b p s).Leaves _; unfold ownCondEnable; split <;> simp
  | alertRelease => show (ownAlertRelease b p s).Leaves _; unfold ownAlertRelease; split <;> simp
  | probeSet => show (ownProbeSet b p s).Leaves _; unfold ownProbeSet; (repeat' split) <;> simp
  | countersGet => show (ownCountersGet b p s).Leaves _; unfold ownCountersGet; (repeat' split) <;> simp

/-- The measured rate, the clock, the tracker and a received sample (R3, R140, R169, R170). -/
theorem timed_taps {s t : State} (ht : (∃ n, execRateMeasurementComplete n s = .next t) ∨ execRateMeasurementLoss s = .next t ∨
    execClockLost s = .next t ∨ execTrackerTimeout s = .next t) : t.taps = s.taps ∧ t.sru = s.sru := by
  obtain ⟨n, ht⟩ | ht | ht | ht := ht <;> obtain rfl := Host.Outcome.next.inj ht <;> (repeat' split) <;> simp

theorem input_taps {s t : State} {n : Nat} {w : Word24} {fresh : Bool} (ht : execInputSlotReceived n w fresh s = .next t) :
    t.taps = s.taps ∧ t.sru = s.sru := by
  obtain rfl := Host.Outcome.next.inj ht
  split <;> simp

theorem pageClear_taps {s t : State} (ht : execPageClearComplete s = .next t) : t.taps = s.taps ∧ t.sru = s.sru := by
  obtain rfl := Host.Outcome.next.inj ht
  split <;> simp

namespace State.RetunesAgree

variable {s t : State}

/-! ## The completion (R104) -/

theorem finish (h : s.RetunesAgree) (c : Computation) : (s.finish c).RetunesAgree := by
  rw [State.finish_eq]
  generalize c.contributions (c.tapOuts s.dmc.memory) = cs
  generalize c.tapOuts s.dmc.memory = o
  have entries : (s.finishFrom c o cs).sru.entries = s.sru.entries :=
    (congrArg Sru.entries (s.finishFrom_sru c o cs).1).trans (Sru.withSlots_entries _ _)
  have finished : (s.finishFrom c o cs).RetunesAgree := h.tapwise entries fun j hj => by
    rw [State.finishFrom_tap]
    split
    · exact Tap.freeValue_retuneAgrees
    · exact hj.advanceOf c j
  exact finished.of_tables (State.alertTest_tables _)

theorem completeComputation (h : s.RetunesAgree) (l : List Strike) : (s.completeComputation l).RetunesAgree := by
  have struck : RetunesAgree { s with dmc := { s.dmc with memory := l.foldl Memory.strike s.dmc.memory } } := h.withDmc _
  unfold State.completeComputation
  dsimp only
  split
  · exact struck
  · exact struck.finish _

/-! ## The owners -/

theorem ownInit (s : State) (b : Bool) (p : List Byte) : (ownInit b p s).Leaves RetunesAgree := by
  unfold Machine.ownInit
  (repeat' split) <;> try exact Verdict.leaves_refuse _ _
  unfold State.initBlocks
  exact startScrub (of_free rfl rfl)

/-- A created tap rests at its target, with a length in the range of its mode (R70, R73). -/
theorem ownTapCreate (h : s.RetunesAgree) (b : Bool) (p : List Byte) : (ownTapCreate b p s).Leaves RetunesAgree := by
  unfold Machine.ownTapCreate
  (repeat' split) <;> try exact Verdict.leaves_refuse _ _
  rename_i hretune _ _ _ _ _ _
  exact countDelayClamp (h.enterTap _ (createdTap_retuneAgrees _ _ _ _ _ _ _ _ (retunePartOf_fits hretune))) _ _

theorem ownTapSet (h : s.RetunesAgree) (b : Bool) (p : List Byte) : (ownTapSet b p s).Leaves RetunesAgree := by
  unfold Machine.ownTapSet
  (repeat' split) <;> try exact Verdict.leaves_refuse _ _
  · rename_i hparts _
    exact keptByLists.stageEntry (e := .tapSet _ _ _) (tapPartsOf_retuneFits hparts) _ h
  · rename_i hparts _
    exact h.applyTapSet _ (tapPartsOf_retuneFits hparts)

theorem ownTapFill (h : s.RetunesAgree) (b : Bool) (p : List Byte) : (ownTapFill b p s).Leaves RetunesAgree := by
  unfold Machine.ownTapFill
  (repeat' split) <;> try exact Verdict.leaves_refuse _ _
  · exact keptByLists.stageEntry (e := .tapFill _ _ _ _) True.intro _ h
  · exact h.applyTapFill _ _ _ _

theorem ownBeat (h : s.RetunesAgree) (b : Bool) (p : List Byte) : (ownBeat b p s).Leaves RetunesAgree := by
  unfold Machine.ownBeat
  (repeat' split)
  · exact (h.withMu _).markBeat
  · exact h
  · exact h.acceptMark _

theorem owner (h : s.RetunesAgree) (k : Kind) (b : Bool) (p : List Byte) : (ownerOf k b p s).Leaves RetunesAgree := by
  cases hk : k.leavesTaps with
  | true =>
    have hv := ownerOf_taps k hk b p s
    cases hv' : ownerOf k b p s with
    | refuse st => trivial
    | done t st q => rw [hv'] at hv; exact h.of_taps hv.1 hv.2
  | false =>
    cases k with
    | init => exact ownInit s b p
    | outmapSet =>
      show (ownOutmapSet b p s).Leaves _
      unfold ownOutmapSet
      (repeat' split) <;> try exact Verdict.leaves_refuse _ _
      · exact keptByLists.stageEntry (e := .outmapSet _ _) True.intro _ h
      · exact h.of_taps rfl rfl
    | outmapFill =>
      show (ownOutmapFill b p s).Leaves _
      unfold ownOutmapFill
      (repeat' split) <;> try exact Verdict.leaves_refuse _ _
      · exact keptByLists.stageEntry (e := .outmapFill _ _ _ _) True.intro _ h
      · exact h.of_taps_sru (by simp)
    | lineSet =>
      show (ownLineSet b p s).Leaves _
      unfold ownLineSet
      iterate 4 (split <;> try exact Verdict.leaves_refuse _ _)
      exact keptByLists.staged_or (e := .lineSet _ _ _) True.intro (h.of_taps rfl rfl) h
    | lineClose =>
      show (ownLineClose b p s).Leaves _
      unfold ownLineClose
      (repeat' split) <;> try exact Verdict.leaves_refuse _ _
      · exact h.closeWaiting _
      · exact h.closeActive _
      · exact h
    | lineReleaseTag =>
      show (ownLineReleaseTag b p s).Leaves _
      unfold ownLineReleaseTag
      split
      · exact h.groupClose _
      · exact Verdict.leaves_refuse _ _
    | lineReleaseAll =>
      show (ownLineReleaseAll b p s).Leaves _
      unfold ownLineReleaseAll
      exact (h.groupClose _).withDmc _
    | slotClear =>
      show (ownSlotClear b p s).Leaves _
      unfold ownSlotClear
      (repeat' split) <;> try exact Verdict.leaves_refuse _ _
      exact h.groupClose _
    | tapCreate => exact h.ownTapCreate b p
    | tapSet => exact h.ownTapSet b p
    | tapFill => exact h.ownTapFill b p
    | tapFree =>
      show (ownTapFree b p s).Leaves _
      unfold ownTapFree
      (repeat' split) <;> try exact Verdict.leaves_refuse _ _
      exact h.mapTap _ fun _ hx => hx.release
    | modSet =>
      show (ownModSet b p s).Leaves _
      unfold ownModSet
      iterate 5 (split <;> try exact Verdict.leaves_refuse _ _)
      exact keptByLists.staged_or (e := .modSet _ _) True.intro (h.withMu _) h
    | tempoSet =>
      show (ownTempoSet b p s).Leaves _
      unfold ownTempoSet
      split
      · exact keptByLists.staged_or (e := .tempoSet _) True.intro (h.setTempo _) h
      · exact Verdict.leaves_refuse _ _
    | beat => exact h.ownBeat b p
    | slotSet =>
      show (ownSlotSet b p s).Leaves _
      unfold ownSlotSet
      iterate 5 (split <;> try exact Verdict.leaves_refuse _ _)
      exact keptByLists.staged_or (e := .slotSet _ _) True.intro (h.of_taps rfl rfl) h
    | commit => exact keptByLists.ownCommit b p h
    | discard => exact keptByLists.ownDiscard b p h
    | schedCancel => exact keptByLists.ownSchedCancel b p h
    | _ => cases hk

end State.RetunesAgree

/-- The agreement of the retune fields is kept by every owner and every event. -/
theorem State.RetunesAgree.kept : KeptByTables State.RetunesAgree where
  frame ht h := h.of_tables ht
  owner k b p _ h := h.owner k b p
  reset _ _ := .of_free rfl rfl
  completion l _ h := h.completeComputation l
  boundary _ h := h.of_taps rfl rfl
  schedule _ h := keptByLists.testSchedule h
  clockBack _ h := h.of_taps_sru (by simp)
  computation _ h := (keptByLists.applyDueWork h).of_taps rfl rfl
  clear _ _ h ht := h.of_taps_sru (pageClear_taps ht)
  input _ _ _ _ _ h ht := h.of_taps_sru (input_taps ht)
  measured _ _ _ h ht := h.of_taps_sru (timed_taps (.inl ⟨_, ht⟩))
  lost _ _ h ht := h.of_taps_sru (timed_taps (.inr (ht.imp_right .inl)))
  timeout _ _ h ht := h.of_taps_sru (timed_taps (.inr (.inr (.inr ht))))

/-- Settles O11: a new target starts, re-aims or drops a retune only where it differs from the effective destination, and an advance
stops a fade at its length and a glide at its target. -/
theorem retunesStayInAgreement : Obligations.RetunesStayInAgreement := fun _ _ => State.RetunesAgree.kept.step

end Sys2Proof.Machine
end

section
/-! SUPPORT. The modulators: the value by the shape, the advance, MOD_SET and MOD_SYNC (R127 to R134). -/

namespace Sys2Proof.Machine

/-! ## The value (R127) -/

/-- The floor of a 65,536th part of a distance lies between 0 and the distance. -/
theorem mul_ediv_between {u : Int} (h0 : 0 ≤ u) (h1 : u ≤ 65536) (d : Int) :
    min 0 d ≤ d * u / 65536 ∧ d * u / 65536 ≤ max 0 d := by
  rcases Int.le_total 0 d with hd | hd
  · have hi : d * u ≤ d * 65536 := Int.mul_le_mul_of_nonneg_left h1 hd
    have lo : 0 ≤ d * u := Int.mul_nonneg hd h0
    omega
  · have lo : d * 65536 ≤ d * u := Int.mul_le_mul_of_nonpos_left hd h1
    have hi : d * u ≤ 0 := Int.mul_nonpos_of_nonpos_of_nonneg hd h0
    omega

/-- The value of a modulator by its shape, with floor division (R92, R127). -/
theorem Modulator.value_eq (m : Modulator) :
    let u : Int := ((m.phase / 65536 : Nat) : Int)
    m.value = match m.shape with
      | .triangle => if u < 32768 then 2 * u - 32768 else 98303 - 2 * u
      | .sawUp => u - 32768
      | .sawDown => 32767 - u
      | .randomStep => m.randomCurrent
      | .randomSmooth => m.randomPrevious + Int.fdiv ((m.randomCurrent - m.randomPrevious) * u) 65536 := by
  unfold Modulator.value
  cases m.shape with
  | randomSmooth => exact congrArg (m.randomPrevious + ·) (Int.fdiv_eq_ediv_of_nonneg _ (by decide)).symm
  | triangle | sawUp | sawDown | randomStep => rfl

/-- The value lies in the range of 16 signed bits (R127). -/
theorem Modulator.value_mem {m : Modulator} (hphase : m.phase < 2 ^ 32)
    (hcurrent : -32766 ≤ m.randomCurrent ∧ m.randomCurrent ≤ 32766)
    (hprevious : -32766 ≤ m.randomPrevious ∧ m.randomPrevious ≤ 32766) : -32768 ≤ m.value ∧ m.value ≤ 32767 := by
  have hu : 0 ≤ ((m.phase / 65536 : Nat) : Int) ∧ ((m.phase / 65536 : Nat) : Int) ≤ 65535 := by omega
  unfold Modulator.value
  generalize ((m.phase / 65536 : Nat) : Int) = u at hu
  cases m.shape with
  | triangle => dsimp only; split <;> omega
  | sawUp => dsimp only; omega
  | sawDown => dsimp only; omega
  | randomStep => dsimp only; omega
  | randomSmooth =>
    have between := mul_ediv_between hu.1 (by omega : u ≤ 65536) (m.randomCurrent - m.randomPrevious)
    dsimp only
    omega

/-! ## The advance (R128, R129) -/

section
variable {I P : Nat}

theorem Modulator.advance_within (h : P + I < 2 ^ 32) (m : Modulator) : m.advance I P = { m with phase := P + I } := if_pos h

theorem Modulator.advance_wraps (h : 2 ^ 32 ≤ P + I) (m : Modulator) :
    m.advance I P = { m with
      phase := (P + I) % 2 ^ 32, randomPrevious := m.randomCurrent, random := Nat.repeat seqStep 15 m.random,
      randomCurrent := 2 * ((Nat.repeat seqStep 15 m.random).toNat : Int) - 32768 } := by
  rw [repeat_seqStep, ← cycleRandom_eq]
  exact if_neg (Nat.not_lt.mpr h)

end

/-! ## The parts of MOD_SET (R132) -/

theorem Shape.ofCode_none {n : Nat} (h : 4 < n) : Shape.ofCode n = none :=
  match n, h with
  | _ + 5, _ => rfl

theorem Shape.ofCode_code (sh : Shape) : Shape.ofCode (byteOf sh.code).toNat = some sh := by cases sh <;> rfl

/-- Only a number above the range is changed by a clamp from 0. -/
theorem clampNat_zero_ne_iff {hi v : Nat} : clampNat 0 hi v ≠ v ↔ hi < v := by unfold clampNat; omega

/-- The parts that a MOD_SET with good fields names (R132). -/
def namedModParts (mask num den : Byte) (sh : Shape) (asked : Nat) (b : Bool) : ModParts :=
  { shape := if mask.getLsbD 0 then some sh else none
    rate := if mask.getLsbD 1 then some (clampNat 0 2097151 asked) else none
    lock := if mask.getLsbD 2 then some (lockOf num den) else none
    beatSync := if mask.getLsbD 3 then some b else none }

/-- The record that the parts leave: a rate ends the lock, and of a rate and a lock the lock has the last word (R132). -/
theorem Modulator.write_eq (B : Nat) (p : ModParts) (m : Modulator) :
    m.write B p = { m with
      shape := p.shape.getD m.shape
      increment := (p.lock.getD none).elim (p.rate.getD m.increment) (lockIncrement B)
      lock := p.lock.getD (p.rate.elim m.lock fun _ => none)
      beatSync := p.beatSync.getD m.beatSync } := by
  obtain ⟨shape, rate, lock, beatSync⟩ := p
  match rate, lock with
  | none, none | some _, none | none, some none | some _, some none | none, some (some _) | some _, some (some _) => rfl

theorem lockOf_of_ne {num : Byte} (h : num ≠ 0) (den : Byte) :
    lockOf num den = some { num := clampNat 1 16 num.toNat, den := clampNat 1 16 den.toNat } := if_neg h

/-- A part that the mask names, or the field as it stood. -/
theorem getD_ite_named {α : Type} (b : Bool) (a c : α) : (if b then some a else none).getD c = if b then a else c := by
  cases b <;> rfl

theorem Modulator.write_namedModParts (B : Nat) (mask num den : Byte) (sh : Shape) (asked : Nat) (b : Bool) (m : Modulator) :
    m.write B (namedModParts mask num den sh asked b) = { m with
      shape := if mask.getLsbD 0 then sh else m.shape
      increment :=
        if mask.getLsbD 2 = true ∧ num ≠ 0 then
          lockIncrement B { num := clampNat 1 16 num.toNat, den := clampNat 1 16 den.toNat }
        else if mask.getLsbD 1 = true then clampNat 0 2097151 asked else m.increment
      lock := if mask.getLsbD 2 = true then lockOf num den else if mask.getLsbD 1 = true then none else m.lock
      beatSync := if mask.getLsbD 3 then b else m.beatSync } := by
  have increment (i : Nat) : (if mask.getLsbD 2 then lockOf num den else none).elim i (lockIncrement B) =
      if mask.getLsbD 2 = true ∧ num ≠ 0 then
        lockIncrement B { num := clampNat 1 16 num.toNat, den := clampNat 1 16 den.toNat } else i := by
    cases mask.getLsbD 2 with
    | false => rfl
    | true =>
      by_cases h : num = 0
      · subst h; rfl
      · rw [if_pos rfl, lockOf_of_ne h, if_pos ⟨rfl, h⟩]; rfl
  have ended : (if mask.getLsbD 1 then some (clampNat 0 2097151 asked) else none).elim m.lock (fun _ => none) =
      if mask.getLsbD 1 = true then none else m.lock := by cases mask.getLsbD 1 <;> rfl
  simp only [Modulator.write_eq, namedModParts, getD_ite_named, increment, ended]

section
variable {modu mask shape r3 r2 r1 r0 num den sync : Byte} {s : State} {i : ModIx}

theorem ownModSet_badIndex (h : 15 < modu.toNat) :
    ownModSet false [modu, mask, shape, r3, r2, r1, r0, num, den, sync] s = .refuse .badIndex := by
  rw [ownModSet, index_of_ge h]

theorem ownModSet_badShape (hi : i.val = modu.toNat) (h0 : mask.getLsbD 0 = true) (h : 4 < shape.toNat) :
    ownModSet false [modu, mask, shape, r3, r2, r1, r0, num, den, sync] s = .refuse .badValue := by
  rw [ownModSet, index_of_val i hi]
  exact if_pos ⟨h0, Shape.ofCode_none h⟩

theorem ownModSet_badSync (hi : i.val = modu.toNat) (h3 : mask.getLsbD 3 = true) (h : sync ≠ 0) (h' : sync ≠ 1) :
    ownModSet false [modu, mask, shape, r3, r2, r1, r0, num, den, sync] s = .refuse .badValue := by
  rw [ownModSet, index_of_val i hi]
  exact ite_eq_left_iff.mpr fun _ => if_pos ⟨h3, flagOf_none h h'⟩

theorem ownModSet_rateAndLock (hi : i.val = modu.toNat) (h1 : mask.getLsbD 1 = true) (h2 : mask.getLsbD 2 = true) (h : num ≠ 0) :
    ownModSet false [modu, mask, shape, r3, r2, r1, r0, num, den, sync] s = .refuse .badValue := by
  rw [ownModSet, index_of_val i hi]
  exact ite_eq_left_iff.mpr fun _ => ite_eq_left_iff.mpr fun _ => if_pos ⟨h1, h2, h⟩

/-- With good fields the parts are applied. -/
theorem ownModSet_applied {sh : Shape} {b : Bool} (hi : i.val = modu.toNat) (h0 : mask.getLsbD 0 = true → shape = byteOf sh.code)
    (h3 : mask.getLsbD 3 = true → sync = flagByte b) (h : ¬ (mask.getLsbD 1 = true ∧ mask.getLsbD 2 = true ∧ num ≠ 0)) :
    ownModSet false [modu, mask, shape, r3, r2, r1, r0, num, den, sync] s =
      .done (s.applyModSet i (namedModParts mask num den sh (natOf [r3, r2, r1, r0]) b))
        (okStatus ((mask.getLsbD 1 && decide (clampNat 0 2097151 (natOf [r3, r2, r1, r0]) ≠ natOf [r3, r2, r1, r0])) ||
          (mask.getLsbD 2 && lockClamped num den))) [] := by
  have good (h : mask.getLsbD 0 = true) : Shape.ofCode shape.toNat = some sh := by rw [h0 h, Shape.ofCode_code]
  have flag (h : mask.getLsbD 3 = true) : flagOf sync = some b := by rw [h3 h, flagOf_flagByte]
  have given {α : Type} {c : Bool} {x : Option α} {a : α} (h : c = true → x = some a) : ¬ (c = true ∧ x = none) :=
    fun ⟨hc, hx⟩ => nomatch (h hc).symm.trans hx
  have hshape : (if mask.getLsbD 0 then Shape.ofCode shape.toNat else none) = if mask.getLsbD 0 then some sh else none :=
    ite_congr rfl good fun _ => rfl
  have hsync : (if mask.getLsbD 3 then flagOf sync else none) = if mask.getLsbD 3 then some b else none :=
    ite_congr rfl flag fun _ => rfl
  rw [ownModSet, index_of_val i hi]
  dsimp only
  rw [if_neg (given good), if_neg (given flag), if_neg h, hshape, hsync]
  rfl

end

/-- Whether MOD_SET answers OK_CLAMPED (R132). -/
theorem modSet_clamped_iff (mask num den : Byte) (asked : Nat) :
    ((mask.getLsbD 1 && decide (clampNat 0 2097151 asked ≠ asked)) || (mask.getLsbD 2 && lockClamped num den)) = true ↔
      mask.getLsbD 1 = true ∧ 2097151 < asked ∨
        mask.getLsbD 2 = true ∧ num ≠ 0 ∧ (clampNat 1 16 num.toNat ≠ num.toNat ∨ clampNat 1 16 den.toNat ≠ den.toNat) := by
  rw [Bool.or_eq_true, Bool.and_eq_true, Bool.and_eq_true, decide_eq_true_iff, lockClamped, decide_eq_true_iff, clampNat_zero_ne_iff]

/-- Settles O41: a shape forms the value, an addition that wraps or not forms the advance, and the fields of the two requests are
decoded in order. -/
theorem modulatorRequests : Obligations.ModulatorRequests := by
  refine ⟨fun m => ⟨m.value_eq, Modulator.value_mem⟩,
    fun m I P => ⟨fun h => Modulator.advance_within h m, fun h => Modulator.advance_wraps h m⟩, ?_, ?_⟩
  · intro r s modu mask shape r3 r2 r1 r0 num den sync h hp refused
    have hl : r.payload.length = Kind.modSet.payloadLength := by rw [hp]; rfl
    have refuses {st : Status}
        (ho : ownModSet false [modu, mask, shape, r3, r2, r1, r0, num, den, sync] s.accepted = .refuse st) : refused st :=
      congrArg Host.Outcome.next (State.take_refused h hl (by rw [hp]; exact ho))
    refine ⟨fun hm => refuses (ownModSet_badIndex hm), fun i hi => ⟨fun h0 hs => refuses (ownModSet_badShape hi h0 hs),
      fun h3 hs hs' => refuses (ownModSet_badSync hi h3 hs hs'), fun h1 h2 hn => refuses (ownModSet_rateAndLock hi h1 h2 hn), ?_⟩⟩
    intro sh b h0 h3 hn m asked n d clamped written
    have record : (s.mu.mods[i]).write s.mu.tempo (namedModParts mask num den sh asked b) = written := by
      rw [Modulator.write_namedModParts, show clampNat 0 2097151 asked = min 2097151 asked from Nat.zero_max _]
      rfl
    have applied : s.accepted.applyModSet i (namedModParts mask num den sh asked b) =
        { s.accepted with mu := { s.mu with mods := s.mu.mods.set i written } } := by
      rw [← record]; rfl
    refine congrArg Host.Outcome.next (State.take_done h hl ?_ rfl)
    rw [hp, ownModSet_applied hi h0 h3 hn, applied, okStatus_iff (modSet_clamped_iff mask num den asked)]
    rfl
  · intro r s v h hp
    have hl : r.payload.length = Kind.modSync.payloadLength := by rw [hp]; rfl
    refine ⟨fun hv => congrArg Host.Outcome.next (State.take_refused h hl ?_),
      fun i hi => congrArg Host.Outcome.next (State.take_done h hl ?_ rfl)⟩
    · rw [hp, ownModSync, index_of_ge hv]
    · rw [hp, ownModSync, index_of_val i hi]
      rfl

end Sys2Proof.Machine
end

section
/-! SUPPORT. The tempo and the beat tracker: a change of B, TEMPO_SET, a mark, BEAT and the timeout (R135 to R140). -/

namespace Sys2Proof.Machine

/-! ## A tap that follows the tempo (R74) -/

/-- A tap once B has a value: a LIVE tap whose spec is TEMPO is handed its target (R74, R135). -/
def Tap.followed (B : Nat) (lines : Vector Line 64) (x : Tap) : Tap :=
  if x.followsTempo then (x.retarget (targetFor x.spec B (lines[x.source]).length)).1 else x

theorem Tap.followed_eq (B : Nat) (lines : Vector Line 64) (x : Tap) :
    x.followed B lines = match x.state, x.spec with
      | .live, .tempo num den =>
        (x.retarget (max 256 (min (((lines[x.source]).length - 1) * 256) (B * 256 * num / den)))).1
      | _, _ => x := by
  unfold Tap.followed Tap.followsTempo
  cases x.state with
  | unused | releasing => rfl
  | live =>
    cases x.spec with
    | fixed v => rfl
    | tempo num den => rfl

theorem State.followTempo_taps (s : State) (t : TapIx) :
    (s.followTempo t).taps = updateAt s.taps t (Tap.followed s.mu.tempo s.dmc.lines) := by
  unfold State.followTempo
  split
  · rename_i h
    have clamped : (s.countDelayClamp (s.taps[t]).slot (targetClamped (s.taps[t]).spec s.mu.tempo
        (s.dmc.lines[(s.taps[t]).source]).length)).taps = s.taps := by simp
    rw [State.formTarget_of_tap rfl, State.handTarget_taps, clamped]
    exact congrArg (s.taps.set t ·) (if_pos h).symm
  · rename_i h
    exact (updateAt_of_eq (if_neg h)).symm

/-- The taps are visited one after another, with the tempo and the lines as they stand (R135). -/
theorem State.foldl_followTempo_taps (l : List TapIx) (s : State) :
    (l.foldl State.followTempo s).taps = l.foldl (fun v t => updateAt v t (Tap.followed s.mu.tempo s.dmc.lines)) s.taps := by
  induction l generalizing s with
  | nil => rfl
  | cons t l ih =>
    have hmu : (s.followTempo t).mu = s.mu := by simp
    have hdmc : (s.followTempo t).dmc = s.dmc := by simp
    rw [List.foldl_cons, ih, hmu, hdmc, State.followTempo_taps]
    rfl

theorem State.foldl_followTempo_mu (l : List TapIx) (s : State) : (l.foldl State.followTempo s).mu = s.mu :=
  foldl_keeps State.mu _ (fun u t => by simp) l s

theorem State.followTempo_busValues (s : State) (t : TapIx) : (s.followTempo t).fe.busValues = s.fe.busValues := by
  unfold State.followTempo State.formTarget
  split
  · rw [State.handTarget_eq _ t _ rfl, State.countDelayClamp_eq]
    rfl
  · rfl

/-! ## A change of B (R135) -/

/-- A modulator once B has a value: a locked one has its increment formed from it (R130, R135). -/
def Modulator.retimed (B : Nat) (m : Modulator) : Modulator :=
  match m.lock with
  | some l => { m with increment := lockIncrement B l }
  | none => m

/-- The tempo and the increments that a change of B writes, before the taps follow. -/
def State.withTempo (b : Nat) (s : State) : State :=
  { s with mu := { s.mu with tempo := b, mods := mapIx (fun _ m => m.retimed b) s.mu.mods } }

/-- A beat phase at or above B becomes 0 without a beat, and is marked (R135, R142). -/
def State.capBeatPhase (b : Nat) (u : State) : State :=
  if b ≤ u.mu.beatPhase then ({ u with mu := { u.mu with beatPhase := 0 } } : State).note Written.setBeatPhase else u

theorem State.capBeatPhase_mu (b : Nat) (u : State) :
    (u.capBeatPhase b).mu = { u.mu with beatPhase := if b ≤ u.mu.beatPhase then 0 else u.mu.beatPhase } := by
  unfold State.capBeatPhase
  split <;> rfl

theorem State.capBeatPhase_keeps (b : Nat) (u : State) :
    (u.capBeatPhase b).taps = u.taps ∧ (u.capBeatPhase b).fe.busValues = u.fe.busValues := by
  unfold State.capBeatPhase
  split <;> exact ⟨rfl, rfl⟩

section
variable {s : State} {b : Nat}

theorem State.setTempo_of_eq (h : b = s.mu.tempo) : s.setTempo b = s := if_pos h

/-- The tempo and the increments, then the taps, then the beat phase. -/
theorem State.setTempo_of_ne (h : b ≠ s.mu.tempo) :
    s.setTempo b = ((List.finRange 256).foldl State.followTempo (s.withTempo b)).capBeatPhase b := by
  unfold State.setTempo
  generalize List.finRange 256 = l
  exact if_neg h

theorem State.setTempo_mu (h : b ≠ s.mu.tempo) :
    (s.setTempo b).mu = { s.mu with
      tempo := b, mods := mapIx (fun _ m => m.retimed b) s.mu.mods
      beatPhase := if b ≤ s.mu.beatPhase then 0 else s.mu.beatPhase } := by
  rw [State.setTempo_of_ne h, State.capBeatPhase_mu, State.foldl_followTempo_mu]
  rfl

theorem State.setTempo_taps (h : b ≠ s.mu.tempo) (j : TapIx) : (s.setTempo b).taps[j] = (s.taps[j]).followed b s.dmc.lines := by
  rw [State.setTempo_of_ne h, (State.capBeatPhase_keeps _ _).1, State.foldl_followTempo_taps]
  exact foldl_updateAt_own (fun _ => Tap.followed b s.dmc.lines) s.taps j

theorem State.setTempo_busValues (h : b ≠ s.mu.tempo) : (s.setTempo b).fe.busValues = s.fe.busValues := by
  rw [State.setTempo_of_ne h, (State.capBeatPhase_keeps _ _).2]
  exact foldl_keeps (fun u : State => u.fe.busValues) _ State.followTempo_busValues _ _

end

@[simp] theorem State.setTempo_tempo (s : State) (b : Nat) : (s.setTempo b).mu.tempo = b := by
  by_cases h : b = s.mu.tempo
  · rw [State.setTempo_of_eq h, h]
  · rw [State.setTempo_mu h]

@[simp] theorem State.setTempo_tracker (s : State) (b : Nat) : (s.setTempo b).mu.tracker = s.mu.tracker := by
  by_cases h : b = s.mu.tempo
  · rw [State.setTempo_of_eq h]
  · rw [State.setTempo_mu h]

/-- Settles O42: B is set first, then each tap follows it once, and the beat phase comes last. -/
theorem tempoChangesReachTapsAndLocks : Obligations.TempoChangesReachTapsAndLocks := by
  refine ⟨fun r s b3 b2 b1 b0 h hp => ?_, fun s => State.setTempo_of_eq rfl, fun s b hb => ?_⟩
  · have hl : r.payload.length = Kind.tempoSet.payloadLength := by rw [hp]; rfl
    refine congrArg Host.Outcome.next (State.take_done h hl ?_ (by simp))
    rw [hp, ← okStatus_ne]
    rfl
  · obtain ⟨hlink, hec, hport, hdmc, hcu, -, hpending⟩ := s.setTempo_keeps b
    have hmu := State.setTempo_mu hb
    refine ⟨s.setTempo_tempo b, s.setTempo_tracker b, congrArg ModUnit.beatPhase hmu, fun i => ?_, fun j => ?_,
      hdmc, hec, hport, hcu, hlink, hpending, State.setTempo_busValues hb⟩
    · have mods : (s.setTempo b).mu.mods = mapIx (fun _ m => m.retimed b) s.mu.mods := congrArg ModUnit.mods hmu
      rw [mods, mapIx_get]
      rfl
    · exact (State.setTempo_taps hb j).trans (Tap.followed_eq _ _ _)

/-! ## A mark (R137, R138, R139) -/

/-- A mark writes the beat phase and the phases of the beat-synced modulators, and marks both. -/
theorem State.markBeat_eq (u : State) :
    u.markBeat = ({ u with mu := { u.mu with
        beatPhase := 0, mods := mapIx (fun _ m => if m.beatSync then { m with phase := 0 } else m) u.mu.mods } } : State).note
          fun w => { w with
            beatPhase := true, modPhase := mapIx (fun i x => x || (u.mu.mods[i]).beatSync) w.modPhase } :=
  State.note_note { u with mu := { u.mu with
    beatPhase := 0, mods := mapIx (fun _ m => if m.beatSync then { m with phase := 0 } else m) u.mu.mods } } Written.setBeatPhase
    fun w => { w with modPhase := mapIx (fun i x => x || (u.mu.mods[i]).beatSync) w.modPhase }

/-- A list of at most four intervals keeps its last three before the one that joins (R139). -/
theorem pushInterval_eq {l : List Nat} (h : l.length ≤ 4) (i : Nat) : pushInterval i l = l.drop (l.length - 3) ++ [i] := by
  unfold pushInterval
  rw [List.length_append, List.length_singleton]
  split
  · rename_i hfull
    have four : l.length = 4 := Nat.succ.inj hfull
    rw [List.drop_append_of_le_length (by omega), four]
  · rename_i hroom
    rw [show l.length - 3 = 0 by omega, List.drop_zero]

/-- An accepted mark: the interval joins the list, the floor of the average becomes B, and a beat is made (R139). -/
theorem State.acceptMark_eq {s : State} (h : s.mu.tracker.intervals.length ≤ 4) {i : Nat} {l : List Nat}
    (hl : s.mu.tracker.intervals.drop (s.mu.tracker.intervals.length - 3) ++ [clampNat s.ec.minBeat s.ec.maxBeat i] = l) :
    s.acceptMark i = (State.setTempo (l.sum / l.length) { s with mu := { s.mu with
      tracker := { state := .tracking, lastMark := some s.ec.counter, intervals := l } } }).markBeat := by
  rw [State.acceptMark, pushInterval_eq h, hl]

/-- A mark leaves the tempo and the tracker that BEAT reports as they are (R137, R178). -/
theorem beatPayload_markBeat (c : Word32) (n : Nat) (u : State) :
    beatPayload c n u.markBeat.mu =
      bytesOf 4 c.toNat ++ [byteOf n, byteOf u.mu.tracker.state.code] ++ bytesOf 4 u.mu.tempo := rfl

theorem Tracker.interval_of_mark {t : Tracker} {m : Word32} (h : t.lastMark = some m) (c : Word32) : t.interval c = (c - m).toNat := by
  rw [Tracker.interval, h]; rfl

/-! ## BEAT, by the state of the tracker (R138, R139) -/

section
variable {s : State} {m : Word32}

theorem ownBeat_arms (h : s.mu.tracker.state = .idle) (b : Bool) (p : List Byte) :
    ownBeat b p s = .done s.armTracker .ok (beatPayload s.ec.counter 0 s.armTracker.mu) := if_pos h

theorem ownBeat_bounces (h : s.mu.tracker.state ≠ .idle) (hm : s.mu.tracker.lastMark = some m)
    (hi : (s.ec.counter - m).toNat < s.ec.fs / 10) (b : Bool) (p : List Byte) :
    ownBeat b p s = .done s .ok (beatPayload s.ec.counter 2 s.mu) := by
  rw [ownBeat, if_neg h, Tracker.interval_of_mark hm, if_pos hi]

theorem ownBeat_accepts (h : s.mu.tracker.state ≠ .idle) (hm : s.mu.tracker.lastMark = some m)
    (hi : s.ec.fs / 10 ≤ (s.ec.counter - m).toNat) (b : Bool) (p : List Byte) :
    ownBeat b p s = .done (s.acceptMark (s.ec.counter - m).toNat) .ok
      (beatPayload s.ec.counter 1 (s.acceptMark (s.ec.counter - m).toNat).mu) := by
  rw [ownBeat, if_neg h, Tracker.interval_of_mark hm, if_neg (Nat.not_lt.mpr hi)]

/-! ## The timeout (R140) -/

theorem State.timeoutIsDue_of_mark (h : s.mu.tracker.state ≠ .idle) (hm : s.mu.tracker.lastMark = some m) :
    s.timeoutIsDue = reached s.ec.counter (m + BitVec.ofNat 32 (2 * s.ec.fs)) := by
  rw [State.timeoutIsDue, hm]
  cases ht : s.mu.tracker.state with
  | idle => exact absurd ht h
  | armed | tracking => rfl

theorem State.timeoutIsDue_of_idle (h : s.mu.tracker.state = .idle) : s.timeoutIsDue = false := by rw [State.timeoutIsDue, h]

end

theorem execTrackerTimeout_of_not_due {s : State} (h : s.timeoutIsDue = false) : exec .trackerTimeout s = .next s :=
  congrArg Host.Outcome.next (if_neg (Bool.eq_false_iff.mp h))

/-- Settles O43: the tracker's state and the interval since the last mark decide what a mark does; the timeout is the test of its
frame. -/
theorem beatByTrackerState : Obligations.BeatByTrackerState := by
  refine ⟨fun r s h hp => ?_, fun s => ⟨fun m ht hm hdue => ?_, fun hnot => execTrackerTimeout_of_not_due ?_⟩⟩
  · intro c lo hi mark
    have hl : r.payload.length = Kind.beat.payloadLength := by rw [hp]; rfl
    have marked (u : State) : mark u = u.markBeat := u.markBeat_eq.symm
    refine ⟨fun ht => ?_, fun m ht hm => ⟨fun hi => ?_, fun hi hlen => ?_⟩⟩
    · refine congrArg Host.Outcome.next (State.take_done h hl ((ownBeat_arms (s := s.accepted) ht _ _).trans ?_) rfl)
      rw [State.armTracker, beatPayload_markBeat, marked]
      rfl
    · exact congrArg Host.Outcome.next (State.take_done h hl (ownBeat_bounces (s := s.accepted) ht hm hi _ _) rfl)
    · intro l b
      have accepted : s.accepted.acceptMark (c - m).toNat = _ := State.acceptMark_eq (s := s.accepted) hlen (l := l) rfl
      refine congrArg Host.Outcome.next (State.take_done h hl ((ownBeat_accepts (s := s.accepted) ht hm hi _ _).trans ?_) ?_)
      · show Verdict.done (s.accepted.acceptMark (c - m).toNat) _ (beatPayload c 1 (s.accepted.acceptMark (c - m).toNat).mu) = _
        rw [accepted, beatPayload_markBeat, State.setTempo_tempo, State.setTempo_tracker, marked]
        rfl
      · rw [marked]
        simp
  · refine congrArg Host.Outcome.next (if_pos ?_)
    rw [State.timeoutIsDue_of_mark ht hm]
    exact decide_eq_true hdue
  · by_cases ht : s.mu.tracker.state = .idle
    · exact State.timeoutIsDue_of_idle ht
    · obtain ⟨m, hm, hfar⟩ := hnot.resolve_left ht
      rw [State.timeoutIsDue_of_mark ht hm]
      exact decide_eq_false (Nat.not_lt.mpr hfar)

end Sys2Proof.Machine
end

section
/-! SUPPORT. The tempo, the intervals and the beat phase in their ranges (R135, R137): what they are made of, the operations that write
them, and that every owner and every event keeps them. -/

namespace Sys2Proof.Machine

/-! ## What the ranges are about -/

/-- What has a range in the Modulation Unit: the tempo, the beat phase and the tracker. -/
def ModUnit.paced (u : ModUnit) : Nat × Nat × Tracker := (u.tempo, u.beatPhase, u.tracker)

theorem Engine.tempoFits_of_fs {e f : Engine} (h : e.fs = f.fs) : e.tempoFits = f.tempoFits := by
  funext b
  rw [Engine.tempoFits, Engine.tempoFits, Engine.minBeat, Engine.minBeat, Engine.maxBeat, Engine.maxBeat, h]

theorem Entry.tempoFits_of_fs {e f : Engine} (h : e.fs = f.fs) (x : Entry) : x.tempoFits e ↔ x.tempoFits f := by
  cases x with
  | tempoSet b => exact iff_of_eq (congrFun (Engine.tempoFits_of_fs h) b)
  | lineSet | tapSet | tapFill | slotSet | modSet | outmapSet | outmapFill => exact Iff.rfl

/-! ## Numbers in range -/

theorem Engine.minBeat_pos (e : Engine) : 0 < e.minBeat := by
  unfold Engine.minBeat Engine.fs
  rcases e.rate with _ | _ | _ <;> decide

theorem Engine.minBeat_le_maxBeat (e : Engine) : e.minBeat ≤ e.maxBeat := by
  unfold Engine.minBeat Engine.maxBeat
  omega

theorem Engine.tempoFits_clamp (e : Engine) (n : Nat) : e.tempoFits (clampNat e.minBeat e.maxBeat n) :=
  clampNat_mem e.minBeat_le_maxBeat n

/-- The floor of the average of intervals in range is in range (R139). -/
theorem Engine.tempoFits_average {e : Engine} {l : List Nat} (h : ∀ i ∈ l, e.tempoFits i) (hl : 0 < l.length) :
    e.tempoFits (l.sum / l.length) := by
  have least : l.length * e.minBeat ≤ l.sum := l.card_nsmul_le_sum _ fun i hi => (h i hi).1
  have greatest : l.sum ≤ l.length * e.maxBeat := l.sum_le_card_nsmul _ fun i hi => (h i hi).2
  exact ⟨(Nat.le_div_iff_mul_le hl).mpr (Nat.mul_comm _ _ ▸ least), Nat.div_le_of_le_mul greatest⟩

namespace State.TempoInRange

variable {s t : State}

/-! ## States with the same tempo, tracker and entries -/

theorem of_paced (h : s.TempoInRange) (hfs : t.ec.fs = s.ec.fs) (hmu : t.mu.paced = s.mu.paced)
    (he : t.sru.entries = s.sru.entries) : t.TempoInRange := by
  simp only [ModUnit.paced, Prod.mk.injEq] at hmu
  obtain ⟨htempo, hbeat, htracker⟩ := hmu
  have fits := Engine.tempoFits_of_fs hfs
  exact {
    tempo := by rw [fits, htempo]; exact h.tempo
    count := by rw [htracker]; exact h.count
    intervals := by rw [fits, htracker]; exact h.intervals
    beatPhase := by rw [hbeat, htempo]; exact h.beatPhase
    entries := fun x hx => (Entry.tempoFits_of_fs hfs x).mpr (h.entries x (he ▸ hx)) }

theorem of_slotted (h : s.TempoInRange) (hs : t.slotted = s.slotted) (hmu : t.mu.paced = s.mu.paced) : t.TempoInRange := by
  have he := entries_of_slotted hs
  simp only [State.slotted, Prod.mk.injEq] at hs
  exact h.of_paced (by rw [Engine.fs, hs.1, Engine.fs]) hmu he

theorem of_tables (h : s.TempoInRange) (he : t.tables = s.tables) : t.TempoInRange := by
  simp only [State.tables, Prod.mk.injEq] at he
  obtain ⟨hec, -, -, -, hmu, -, hsru⟩ := he
  exact h.of_paced (by rw [hec]) (by rw [hmu]) (by rw [hsru])

/-! ## Tempo and beat -/

/-- A beat phase that the new tempo does not exceed becomes 0 (R135). -/
theorem setTempo (h : s.TempoInRange) {b : Nat} (hb : s.ec.tempoFits b) : (s.setTempo b).TempoInRange := by
  by_cases hne : b = s.mu.tempo
  · rw [State.setTempo_of_eq hne]
    exact h
  have hmu := State.setTempo_mu hne
  have hec : (s.setTempo b).ec = s.ec := by simp
  refine ⟨?_, ?_, ?_, ?_, ?_⟩
  · rw [hec, hmu]; exact hb
  · rw [hmu]; exact h.count
  · rw [hec, hmu]; exact h.intervals
  · rw [hmu]
    have positive := s.ec.minBeat_pos
    have least := hb.1
    show (if b ≤ s.mu.beatPhase then 0 else s.mu.beatPhase) < b
    split <;> omega
  · rw [hec, entries_of_slotted (s.setTempo_slotted b)]
    exact h.entries

/-- A mark puts the beat phase at 0, below every tempo in range (R137). -/
theorem markBeat (h : s.TempoInRange) : s.markBeat.TempoInRange where
  tempo := h.tempo
  count := h.count
  intervals := h.intervals
  beatPhase := Nat.lt_of_lt_of_le s.ec.minBeat_pos h.tempo.1
  entries := h.entries

/-- The tracker takes a list of at most four intervals in range. -/
theorem withTracker (h : s.TempoInRange) {k : Tracker} (hc : k.intervals.length ≤ 4) (hi : ∀ i ∈ k.intervals, s.ec.tempoFits i) :
    TempoInRange { s with mu := { s.mu with tracker := k } } :=
  { h with count := hc, intervals := hi }

theorem armTracker (h : s.TempoInRange) : s.armTracker.TempoInRange :=
  (h.withTracker (k := { s.mu.tracker with state := .armed, lastMark := some s.ec.counter }) h.count h.intervals).markBeat

/-- The intervals kept, with the one that joins, are in range, and so is their average (R139). -/
theorem acceptMark (h : s.TempoInRange) (i : Nat) : (s.acceptMark i).TempoInRange := by
  rw [State.acceptMark_eq h.count rfl]
  generalize hl : s.mu.tracker.intervals.drop (s.mu.tracker.intervals.length - 3) ++ [clampNat s.ec.minBeat s.ec.maxBeat i] = l
  have fits : ∀ j ∈ l, s.ec.tempoFits j := by
    subst hl
    intro j hj
    obtain hj | hj := List.mem_append.mp hj
    · exact h.intervals j (List.mem_of_mem_drop hj)
    · rw [List.mem_singleton.mp hj]
      exact s.ec.tempoFits_clamp i
  have length : 0 < l.length ∧ l.length ≤ 4 := by
    have four := h.count
    rw [← hl, List.length_append, List.length_drop, List.length_singleton]
    omega
  have tracked := h.withTracker (k := { state := .tracking, lastMark := some s.ec.counter, intervals := l }) length.2 fits
  exact (tracked.setTempo (Engine.tempoFits_average fits length.1)).markBeat

/-! ## Entries and lists -/

theorem applyEntry (h : s.TempoInRange) {e : Entry} (he : e.tempoFits s.ec) : (e.apply s).TempoInRange := by
  cases e with
  | tempoSet b => exact h.setTempo he
  | lineSet | slotSet | modSet | outmapSet => exact h.of_paced rfl rfl rfl
  | tapSet t p i => exact h.of_slotted (State.applyTapSet_slotted s t p) (by simp [Entry.apply])
  | tapFill i a b f => exact h.of_slotted (State.applyTapFill_slotted s i a b f) (by simp [Entry.apply])
  | outmapFill i j st v => exact h.of_slotted (State.fillMap_slotted s i j st v) (by simp [Entry.apply])

/-- INIT sets half a second, which lies in the range of either rate (R144, R164). -/
theorem initBlocks (s : State) (rate : Rate) (action : HaltAction) : (s.initBlocks rate action).TempoInRange := by
  rw [State.initBlocks_eq]
  exact {
    tempo := by
      show rate.fs / 5 ≤ rate.fs / 2 ∧ rate.fs / 2 ≤ 3 * rate.fs / 2
      omega
    count := Nat.zero_le 4
    intervals := nofun
    beatPhase := by
      show 0 < rate.fs / 2
      cases rate <;> decide
    entries := nofun }

/-- The lists keep the ranges at a rate that none of their entries changes. -/
theorem keptByLists (f : Engine) : KeptByLists (fun s => s.TempoInRange ∧ s.ec.fs = f.fs) (Entry.tempoFits f) where
  frame ht h := by
    have hec := congrArg Prod.fst ht
    exact ⟨h.1.of_tables ht, (congrArg Engine.fs hec).trans h.2⟩
  held h e he := (Entry.tempoFits_of_fs h.2 e).mp (h.1.entries e he)
  lists _ hu h := ⟨{ h.1 with entries := fun e he => (Entry.tempoFits_of_fs h.2 e).mpr (hu e he) }, h.2⟩
  count _ _ h := ⟨h.1.of_paced rfl rfl rfl, h.2⟩
  entry {s e} he h := by
    have hec : (e.apply s).ec = s.ec := by simp
    exact ⟨h.1.applyEntry ((Entry.tempoFits_of_fs h.2 e).mpr he), (congrArg Engine.fs hec).trans h.2⟩

end State.TempoInRange

/-! ## The owners -/

/-- Of the kinds that write no range of a slot and no list, BEAT alone writes the tempo, the beat phase or the tracker. -/
theorem ownerOf_paced (k : Kind) (hk : k.writesSlots = false) (hb : k ≠ .beat) (b : Bool) (p : List Byte) (s : State) :
    (ownerOf k b p s).Leaves fun t => t.mu.paced = s.mu.paced := by
  cases k with
  | init | start | outmapSet | outmapFill | lineSet | tapSet | tapFill | modSet | tempoSet | slotSet | commit | discard
  | schedCancel => cases hk
  | beat => exact absurd rfl hb
  | status | reset | timeGet | outmapGet | poolGet | tempoGet | schedGet | condGet | checkRead | checkClear | probeGet => rfl
  | stop | halt | resume | portDrive | portBypass | checkSet | lineClose | lineReleaseTag | lineReleaseAll | lineGet | tapCreate
  | tapFree | tapGet | modGet | slotClear | slotGet | condEnable | alertRelease | probeSet | countersGet =>
    dsimp only [ownerOf, ownStop, ownHalt, ownResume, ownPortDrive, ownPortBypass, ownCheckSet, ownLineClose, ownLineReleaseTag,
      ownLineReleaseAll, ownLineGet, ownTapCreate, ownTapFree, ownTapGet, ownModGet, ownSlotClear, ownSlotGet, ownCondEnable,
      ownAlertRelease, ownProbeSet, ownCountersGet]
    (repeat' split) <;> simp
  | modSync =>
    show (ownModSync b p s).Leaves _
    unfold ownModSync
    (repeat' split) <;> try exact Verdict.leaves_refuse _ _
    rfl
  | lineOpen =>
    show (ownLineOpen b p s).Leaves _
    unfold ownLineOpen
    (repeat' split) <;> try exact Verdict.leaves_refuse _ _
    dsimp only
    split
    · exact Verdict.leaves_refuse _ _
    · unfold admitLine; split <;> simp

/-- A verdict that leaves a property leaves what follows from it. -/
theorem Verdict.Leaves.imp {P Q : State → Prop} {v : Verdict} (hv : v.Leaves P) (h : ∀ t, P t → Q t) : v.Leaves Q := by
  cases v with
  | refuse st => trivial
  | done t st q => exact h t hv

namespace State.TempoInRange

variable {s t : State}

theorem stageEntry (h : s.TempoInRange) {e : Entry} (he : e.tempoFits s.ec) (clamped : Bool) :
    (Machine.stageEntry e clamped s).Leaves TempoInRange :=
  ((keptByLists s.ec).stageEntry he clamped ⟨h, rfl⟩).imp fun _ => And.left

/-- A direct request, or the entry that it is staged as (R154). -/
theorem staged_or (h : s.TempoInRange) {b : Bool} {e : Entry} (he : e.tempoFits s.ec) {clamped : Bool} (ht : t.TempoInRange)
    {st : Status} {q : List Byte} : (if b then Machine.stageEntry e clamped s else .done t st q).Leaves TempoInRange := by
  split
  · exact h.stageEntry he clamped
  · exact ht

theorem of_same_slots (h : s.TempoInRange) {v : Verdict} (hs : v.Leaves fun t => t.slotted = s.slotted)
    (hm : v.Leaves fun t => t.mu.paced = s.mu.paced) : v.Leaves TempoInRange := by
  cases v with
  | refuse st => trivial
  | done t st q => exact h.of_slotted hs hm

theorem ownStart (h : s.TempoInRange) (b : Bool) (p : List Byte) : (ownStart b p s).Leaves TempoInRange := by
  unfold Machine.ownStart
  split
  · exact h.of_paced rfl rfl rfl
  · exact h
  · exact h.of_paced rfl rfl rfl
  · exact Verdict.leaves_refuse _ _

theorem ownInit (s : State) (b : Bool) (p : List Byte) : (ownInit b p s).Leaves TempoInRange := by
  unfold Machine.ownInit
  (repeat' split) <;> try exact Verdict.leaves_refuse _ _
  exact initBlocks s _ _

theorem ownTempoSet (h : s.TempoInRange) (b : Bool) (p : List Byte) : (ownTempoSet b p s).Leaves TempoInRange := by
  unfold Machine.ownTempoSet
  split
  · exact h.staged_or (e := .tempoSet _) (s.ec.tempoFits_clamp _) (h.setTempo (s.ec.tempoFits_clamp _))
  · exact Verdict.leaves_refuse _ _

theorem ownBeat (h : s.TempoInRange) (b : Bool) (p : List Byte) : (ownBeat b p s).Leaves TempoInRange := by
  unfold Machine.ownBeat
  (repeat' split)
  · exact h.armTracker
  · exact h
  · exact h.acceptMark _

theorem ownOutmapSet (h : s.TempoInRange) (b : Bool) (p : List Byte) : (ownOutmapSet b p s).Leaves TempoInRange := by
  unfold Machine.ownOutmapSet
  (repeat' split) <;> try exact Verdict.leaves_refuse _ _
  · exact h.stageEntry (e := .outmapSet _ _) True.intro _
  · exact h.of_paced rfl rfl rfl

theorem ownOutmapFill (h : s.TempoInRange) (b : Bool) (p : List Byte) : (ownOutmapFill b p s).Leaves TempoInRange := by
  unfold Machine.ownOutmapFill
  (repeat' split) <;> try exact Verdict.leaves_refuse _ _
  · exact h.stageEntry (e := .outmapFill _ _ _ _) True.intro _
  · exact h.of_slotted (State.fillMap_slotted _ _ _ _ _) (by simp)

theorem ownTapSet (h : s.TempoInRange) (b : Bool) (p : List Byte) : (ownTapSet b p s).Leaves TempoInRange := by
  unfold Machine.ownTapSet
  (repeat' split) <;> try exact Verdict.leaves_refuse _ _
  · exact h.stageEntry (e := .tapSet _ _ _) True.intro _
  · exact h.of_slotted (State.applyTapSet_slotted _ _ _) (by simp)

theorem ownTapFill (h : s.TempoInRange) (b : Bool) (p : List Byte) : (ownTapFill b p s).Leaves TempoInRange := by
  unfold Machine.ownTapFill
  (repeat' split) <;> try exact Verdict.leaves_refuse _ _
  · exact h.stageEntry (e := .tapFill _ _ _ _) True.intro _
  · exact h.of_slotted (State.applyTapFill_slotted _ _ _ _ _) (by simp)

theorem owner (h : s.TempoInRange) (k : Kind) (b : Bool) (p : List Byte) : (ownerOf k b p s).Leaves TempoInRange := by
  have lists := keptByLists s.ec
  have fits : s.TempoInRange ∧ s.ec.fs = s.ec.fs := ⟨h, rfl⟩
  cases k with
  | init => exact ownInit s b p
  | start => exact h.ownStart b p
  | outmapSet => exact h.ownOutmapSet b p
  | outmapFill => exact h.ownOutmapFill b p
  | tapSet => exact h.ownTapSet b p
  | tapFill => exact h.ownTapFill b p
  | lineSet =>
    show (ownLineSet b p s).Leaves _
    unfold ownLineSet
    iterate 4 (split <;> try exact Verdict.leaves_refuse _ _)
    refine h.staged_or (e := .lineSet _ _ _) True.intro ?_
    exact h.of_paced rfl rfl rfl
  | modSet =>
    show (ownModSet b p s).Leaves _
    unfold ownModSet
    iterate 5 (split <;> try exact Verdict.leaves_refuse _ _)
    refine h.staged_or (e := .modSet _ _) True.intro ?_
    exact h.of_paced rfl rfl rfl
  | slotSet =>
    show (ownSlotSet b p s).Leaves _
    unfold ownSlotSet
    iterate 5 (split <;> try exact Verdict.leaves_refuse _ _)
    refine h.staged_or (e := .slotSet _ _) True.intro ?_
    exact h.of_paced rfl rfl rfl
  | tempoSet => exact h.ownTempoSet b p
  | beat => exact h.ownBeat b p
  | commit => exact (lists.ownCommit b p fits).imp fun _ => And.left
  | discard => exact (lists.ownDiscard b p fits).imp fun _ => And.left
  | schedCancel => exact (lists.ownSchedCancel b p fits).imp fun _ => And.left
  | _ => exact h.of_same_slots (ownerOf_slotted _ rfl b p s) (ownerOf_paced _ rfl (by nofun) b p s)

/-! ## The completion and the other events -/

/-- The completion steps the beat phase, which wraps at the tempo (R137, R142). -/
theorem finish (h : s.TempoInRange) (c : Computation) : (s.finish c).TempoInRange := by
  rw [State.finish_eq]
  generalize c.contributions (c.tapOuts s.dmc.memory) = cs
  generalize c.tapOuts s.dmc.memory = o
  refine of_tables (s := s.finishFrom c o cs) ?_ (State.alertTest_tables _)
  have hfs : (s.finishFrom c o cs).ec.fs = s.ec.fs := by
    rw [State.finishFrom_ec]
    exact Engine.faulted_fs _ _ _
  have entries : (s.finishFrom c o cs).sru.entries = s.sru.entries :=
    (congrArg Sru.entries (s.finishFrom_sru c o cs).1).trans (Sru.withSlots_entries _ _)
  have hmu := s.finishFrom_mu c o cs
  obtain ⟨htempo, htracker, hbeat, -⟩ := s.advanced_mu c o cs
  have fits := Engine.tempoFits_of_fs hfs
  refine ⟨?_, ?_, ?_, ?_, fun x hx => (Entry.tempoFits_of_fs hfs x).mpr (h.entries x (entries ▸ hx))⟩
  · rw [fits, hmu, htempo]; exact h.tempo
  · rw [hmu, htracker]; exact h.count
  · rw [fits, hmu, htracker]; exact h.intervals
  · rw [hmu, htempo, hbeat]
    have below := h.beatPhase
    split
    · exact below
    · rename_i hmark
      split
      · omega
      · rename_i hwraps
        simp only [Computation.wraps, hmark, Bool.not_false, Bool.true_and, decide_eq_true_eq] at hwraps
        omega

theorem completeComputation (h : s.TempoInRange) (l : List Strike) : (s.completeComputation l).TempoInRange := by
  have struck : TempoInRange { s with dmc := { s.dmc with memory := l.foldl Memory.strike s.dmc.memory } } := h.of_paced rfl rfl rfl
  unfold State.completeComputation
  dsimp only
  split
  · exact struck
  · exact struck.finish _

theorem pageClear (h : s.TempoInRange) (ht : execPageClearComplete s = .next t) : t.TempoInRange := by
  obtain rfl := Host.Outcome.next.inj ht
  split
  · exact h
  · refine h.of_slotted ?_ (by simp)
    rw [State.memoryClean_slotted, State.startScrub_slotted, State.serveWaitList_slotted, State.withDmc_slotted]

theorem inputSlot {n : Nat} {w : Word24} {fresh : Bool} (h : s.TempoInRange) (ht : execInputSlotReceived n w fresh s = .next t) :
    t.TempoInRange := by
  obtain rfl := Host.Outcome.next.inj ht
  split
  · exact h.of_slotted (by rw [State.checkWord_slotted, State.withPort_slotted]) (by simp)
  · exact h

/-- The measured rate and the clock leave the Modulation Unit alone (R169, R170). -/
theorem timed (h : s.TempoInRange) (ht : (∃ n, execRateMeasurementComplete n s = .next t) ∨ execRateMeasurementLoss s = .next t ∨
    execClockLost s = .next t) : t.TempoInRange := by
  have hmu : t.mu = s.mu := by
    obtain ⟨n, ht⟩ | ht | ht := ht <;> obtain rfl := Host.Outcome.next.inj ht <;> (repeat' split) <;> simp
  exact h.of_slotted (timed_slotted (ht.imp_right fun ht => ht.imp_right .inl)) (by rw [hmu])

theorem timeout (h : s.TempoInRange) (ht : execTrackerTimeout s = .next t) : t.TempoInRange := by
  obtain rfl := Host.Outcome.next.inj ht
  split
  · exact h.withTracker (k := Tracker.resetValue) (Nat.zero_le 4) nofun
  · exact h

end State.TempoInRange

/-- The ranges of the tempo, the intervals and the beat phase are kept by every owner and every event. -/
theorem State.TempoInRange.kept : KeptByTables State.TempoInRange where
  frame ht h := h.of_tables ht
  owner k b p _ h := h.owner k b p
  reset _ _ := State.reset_tempoInRange.of_paced rfl rfl rfl
  completion l _ h := h.completeComputation l
  boundary _ h := h.of_paced rfl rfl rfl
  schedule s h := ((State.TempoInRange.keptByLists s.ec).testSchedule ⟨h, rfl⟩).1
  clockBack s h := h.of_paced (by rw [Engine.fs, (s.clockBack_keeps).2.2.2.2.2.2.2.1, Engine.fs]) (by simp) (by simp)
  computation s h := ((State.TempoInRange.keptByLists s.ec).applyDueWork ⟨h, rfl⟩).1.of_paced rfl rfl rfl
  clear _ _ h ht := h.pageClear ht
  input _ _ _ _ _ h ht := h.inputSlot ht
  measured _ _ _ h ht := h.timed (.inl ⟨_, ht⟩)
  lost _ _ h ht := h.timed (.inr ht)
  timeout _ _ h ht := h.timeout ht

/-- Settles O12: what writes the tempo clamps it or averages numbers in range, and what writes the beat phase compares it with the
tempo. -/
theorem tempoStaysInRange : Obligations.TempoStaysInRange := fun _ _ => State.TempoInRange.kept.step

end Sys2Proof.Machine
end

section
/-! SUPPORT. The recall lists in their bounds (R153, R156): the operations that leave the lists alone, those that move entries from
list to list, and that every owner and every event keeps the bounds. -/

namespace Sys2Proof.Machine

/-! ## The lists -/

/-- The recall lists: the staging list, the due-now list and the queue of actions. -/
def State.recall (s : State) : List Entry × List Entry × List Action := (s.sru.staging, s.sru.dueNow, s.sru.queue)

theorem State.recall_of_sru {s t : State} (h : t.sru = s.sru) : t.recall = s.recall := by rw [State.recall, h, State.recall]

theorem State.recall_of_tables {s t : State} (h : t.tables = s.tables) : t.recall = s.recall := by
  simp only [State.tables, Prod.mk.injEq] at h
  obtain ⟨-, -, -, -, -, -, hsru⟩ := h
  exact State.recall_of_sru hsru

/-! ## The operations that leave them alone -/

section
variable (s : State)

@[simp] theorem State.countSlot_recall (i : SlotIx) (f : SlotCounters → SlotCounters) : (s.countSlot i f).recall = s.recall := rfl

@[simp] theorem State.note_recall (f : Written → Written) : (s.note f).recall = s.recall := rfl

@[simp] theorem State.mapTap_recall (t : TapIx) (f : Tap → Tap) : (s.mapTap t f).recall = s.recall := rfl

@[simp] theorem State.withMu_recall (u : ModUnit) : ({ s with mu := u } : State).recall = s.recall := rfl

@[simp] theorem State.raise_recall (d : Detail) : (s.raise d).recall = s.recall := State.recall_of_tables (by simp)

@[simp] theorem State.countDelayClamp_recall (i : SlotIx) (b : Bool) : (s.countDelayClamp i b).recall = s.recall := by
  unfold State.countDelayClamp; split <;> rfl

@[simp] theorem State.handTarget_recall (t : TapIx) (n : Nat) : (s.handTarget t n).recall = s.recall := by
  unfold State.handTarget; dsimp only; split <;> rfl

@[simp] theorem State.formTarget_recall (t : TapIx) : (s.formTarget t).recall = s.recall := by simp [State.formTarget]

@[simp] theorem State.followTempo_recall (t : TapIx) : (s.followTempo t).recall = s.recall := by
  unfold State.followTempo; split <;> simp

@[simp] theorem State.setTempo_recall (b : Nat) : (s.setTempo b).recall = s.recall := by
  have follow (l : List TapIx) (u : State) : (l.foldl State.followTempo u).recall = u.recall :=
    foldl_keeps State.recall _ State.followTempo_recall l u
  unfold State.setTempo; dsimp only; (repeat' split) <;> simp [follow]

@[simp] theorem State.acceptMark_recall (i : Nat) : (s.acceptMark i).recall = s.recall :=
  (State.recall_of_sru (State.markBeat_sru _)).trans (State.setTempo_recall _ _)

@[simp] theorem State.applyTapSet_recall (t : TapIx) (p : TapParts) : (s.applyTapSet t p).recall = s.recall := by
  unfold State.applyTapSet; dsimp only; split <;> simp

@[simp] theorem State.fillTap_recall (f : FillField) (t : TapIx) : (s.fillTap f t).recall = s.recall := by
  cases f <;> simp [State.fillTap]

@[simp] theorem State.applyTapFill_recall (i : SlotIx) (a b : TapIx) (f : FillField) :
    (s.applyTapFill i a b f).recall = s.recall :=
  foldl_keeps State.recall _ (fun u t => u.fillTap_recall f t) _ _

/-- An applied entry writes tables, never a list (R158). -/
@[simp] theorem Entry.apply_recall (e : Entry) : (e.apply s).recall = s.recall := by
  cases e with
  | tapSet t p i => exact s.applyTapSet_recall t p
  | tapFill i a b f => exact s.applyTapFill_recall i a b f
  | tempoSet b => exact s.setTempo_recall b
  | lineSet | slotSet | modSet | outmapSet => rfl
  | outmapFill i j st v => exact State.recall_of_sru (by simp [Entry.apply])

@[simp] theorem handleEntry_recall (x : State × Tallied) (e : Entry) : (handleEntry x e).1.recall = x.1.recall := by
  have counted (f : SlotCounters → SlotCounters) : (e.slot.elim x.1 fun i => x.1.countSlot i f).recall = x.1.recall := by
    cases e.slot <;> rfl
  unfold handleEntry
  split
  · exact counted _
  · split
    · exact counted _
    · exact Entry.apply_recall _ e

@[simp] theorem applyList_recall (l : List Entry) : (applyList l s).1.recall = s.recall := by
  have fold (n : Tallied) : (l.foldl handleEntry (s, n)).1.recall = s.recall :=
    foldl_keeps (fun x : State × Tallied => x.1.recall) handleEntry handleEntry_recall l (s, n)
  unfold applyList
  dsimp only
  split
  · exact fold _
  · exact (State.raise_recall _ _).trans (fold _)

@[simp] theorem State.applyAction_recall (a : Action) : (s.applyAction a).recall = s.recall := by
  unfold State.applyAction
  dsimp only
  rw [applyList_recall]
  split
  · rfl
  · exact State.raise_recall _ _

/-- The due work takes the due actions and the due-now list (R158). -/
theorem State.applyDueWork_recall :
    s.applyDueWork.recall = (s.sru.staging, [], s.sru.queue.filter fun a => !a.isDue) := by
  rw [State.applyDueWork, applyList_recall]
  exact foldl_keeps State.recall _ State.applyAction_recall _ _

theorem State.completeComputation_recall (l : List Strike) : (s.completeComputation l).recall = s.recall := by
  unfold State.completeComputation
  dsimp only
  split
  · rfl
  · rw [State.finish_eq]
    refine (State.recall_of_tables (State.alertTest_tables _)).trans ?_
    rw [State.recall, (State.finishFrom_sru ..).1]
    rfl

end

/-! ## The bounds -/

/-- Lists of as many entries, or fewer, and some of the actions keep the bounds (R153, R156). -/
theorem Sru.Bounded.of_fewer {u v : Sru} (h : u.Bounded)
    (hl : v.staging.length + v.dueNow.length ≤ u.staging.length + u.dueNow.length) (hq : v.queue.Sublist u.queue) : v.Bounded where
  entries := by
    have fewer : (v.queue.map fun a => a.entries.length).sum ≤ (u.queue.map fun a => a.entries.length).sum :=
      (hq.map _).sum_le_sum fun _ _ => Nat.zero_le _
    exact (Nat.add_le_add hl fewer).trans h.entries
  actions := hq.length_le.trans h.actions
  handles := (hq.map _).nodup h.handles

theorem Sru.Bounded.of_recall {s t : State} (h : s.sru.Bounded) (he : t.recall = s.recall) : t.sru.Bounded := by
  simp only [State.recall, Prod.mk.injEq] at he
  obtain ⟨hstaging, hdue, hqueue⟩ := he
  exact h.of_fewer (by rw [hstaging, hdue]) (hqueue ▸ List.Sublist.refl _)

theorem Sru.Bounded.of_empty {u : Sru} (hs : u.staging = []) (hd : u.dueNow = []) (hq : u.queue = []) : u.Bounded :=
  ⟨by simp [Sru.heldEntries, hs, hd, hq], by simp [hq], by simp [hq]⟩

/-- An action is placed somewhere in the queue (R156). -/
theorem placeAction_perm (c : Word32) (a : Action) (q : List Action) : (placeAction c a q).Perm (a :: q) :=
  List.perm_middle.trans (by rw [List.takeWhile_append_dropWhile])

/-- No action of the queue holds the handle that is found free (R156). -/
theorem freeHandle_fresh {q : List Action} {h : Handle} (hf : freeHandle q = some h) : h ∉ q.map Action.handle := by
  have free := List.find?_some (p := fun h => q.all fun a => a.handle != h) hf
  simp only [List.all_eq_true, bne_iff_ne] at free
  rintro hm
  obtain ⟨a, ha, rfl⟩ := List.mem_map.mp hm
  exact free a ha rfl

/-- The staged entries become one more action, where there is room for it (R156). -/
theorem Sru.Bounded.schedule {u : Sru} (h : u.Bounded) {a : Action} {q : List Action} (room : u.queue.length < 8)
    (fresh : a.handle ∉ u.queue.map Action.handle) (placed : q.Perm (a :: u.queue)) (ha : a.entries = u.staging) :
    Sru.Bounded { u with staging := [], queue := q } where
  entries := by
    have total := h.entries
    simp only [Sru.heldEntries, (placed.map _).sum_eq, List.map_cons, List.sum_cons, List.length_nil, ha] at total ⊢
    omega
  actions := placed.length_eq.trans_le room
  handles := (placed.map _).nodup_iff.mpr (List.nodup_cons.mpr ⟨fresh, h.handles⟩)

namespace State

variable {s : State} (h : s.sru.Bounded)
include h

/-! ## The requests of the lists -/

/-- An entry joins the staging list only where the pool has one free (R154). -/
theorem bounded_stageEntry (e : Entry) (clamped : Bool) : (stageEntry e clamped s).Leaves fun t => t.sru.Bounded := by
  unfold stageEntry
  split
  · trivial
  · rename_i free
    refine ⟨?_, h.actions, h.handles⟩
    simp only [Sru.freeEntries, Sru.heldEntries] at free
    simp only [Sru.heldEntries, List.length_append, List.length_singleton]
    omega

/-- A staged request joins the staging list; the direct one leaves the lists alone (R154). -/
theorem bounded_staged_or {b : Bool} {e : Entry} {clamped : Bool} {t : State} {st : Status} {q : List Byte}
    (ht : t.recall = s.recall) : (if b then stageEntry e clamped s else .done t st q).Leaves fun t => t.sru.Bounded := by
  split
  · exact bounded_stageEntry h e clamped
  · exact h.of_recall ht

/-- COMMIT NOW moves the staged entries to the due-now list, or takes both lists (R155). -/
theorem bounded_commitNow : (commitNow s).Leaves fun t => t.sru.Bounded := by
  unfold commitNow
  (repeat' split)
  · exact h
  · refine h.of_fewer ?_ (List.Sublist.refl _)
    simp only [List.length_append, List.length_nil]
    omega
  · have taken : Sru.Bounded { s.sru with staging := [], dueNow := [] } := h.of_fewer (Nat.zero_le _) (List.Sublist.refl _)
    refine Sru.Bounded.of_recall (s := { s with sru := { s.sru with staging := [], dueNow := [] } }) taken ?_
    rw [applyList_recall, applyList_recall]

/-- COMMIT AT moves the staged entries to an action with a handle of its own, where fewer than 8 wait (R156). -/
theorem bounded_commitAt (f : Word32) : (commitAt f s).Leaves fun t => t.sru.Bounded := by
  unfold commitAt
  (repeat' split) <;> try exact Verdict.leaves_refuse _ _
  rename_i room _ free
  exact h.schedule (by omega) (freeHandle_fresh free) (placeAction_perm _ _ _) rfl

theorem bounded_testSchedule : s.testSchedule.sru.Bounded := by
  refine ⟨?_, ?_, ?_⟩
  · simpa [Sru.heldEntries, Function.comp_def] using h.entries
  · simpa using h.actions
  · simpa [Function.comp_def] using h.handles

theorem bounded_ownCommit (b : Bool) (p : List Byte) : (ownCommit b p s).Leaves fun t => t.sru.Bounded := by
  unfold ownCommit
  (repeat' split) <;> try exact Verdict.leaves_refuse _ _
  · exact bounded_commitNow h
  · exact bounded_commitAt h _

theorem bounded_ownDiscard (b : Bool) (p : List Byte) : (ownDiscard b p s).Leaves fun t => t.sru.Bounded :=
  h.of_fewer (v := { s.sru with staging := [] }) (Nat.add_le_add_right (Nat.zero_le _) _) (List.Sublist.refl _)

theorem bounded_ownSchedCancel (b : Bool) (p : List Byte) : (ownSchedCancel b p s).Leaves fun t => t.sru.Bounded := by
  unfold ownSchedCancel
  (repeat' split) <;> try exact Verdict.leaves_refuse _ _
  exact h.of_fewer (Nat.le_refl _) List.filter_sublist

end State

/-! ## The owners -/

/-- The kinds that write the recall lists: INIT, those that can be staged, and those of the lists themselves. -/
def Kind.writesLists : Kind → Bool
  | .init | .outmapSet | .outmapFill | .lineSet | .tapSet | .tapFill | .modSet | .tempoSet | .slotSet | .commit | .discard
  | .schedCancel => true
  | _ => false

theorem ownerOf_recall (k : Kind) (hk : k.writesLists = false) (b : Bool) (p : List Byte) (s : State) :
    (ownerOf k b p s).Leaves fun t => t.recall = s.recall := by
  cases k with
  | init | outmapSet | outmapFill | lineSet | tapSet | tapFill | modSet | tempoSet | slotSet | commit | discard | schedCancel =>
    cases hk
  | status | reset | timeGet | outmapGet | poolGet | tempoGet | schedGet | condGet | checkRead | checkClear | probeGet => rfl
  | start | stop | halt | resume | portDrive | portBypass | checkSet | lineClose | lineReleaseTag | lineReleaseAll | lineGet
  | tapFree | tapGet | modSync | modGet | slotClear | slotGet | condEnable | alertRelease | probeSet | countersGet =>
    dsimp only [ownerOf, ownStart, ownStop, ownHalt, ownResume, ownPortDrive, ownPortBypass, ownCheckSet, ownLineClose,
      ownLineReleaseTag, ownLineReleaseAll, ownLineGet, ownTapFree, ownTapGet, ownModSync, ownModGet, ownSlotClear, ownSlotGet,
      ownCondEnable, ownAlertRelease, ownProbeSet, ownCountersGet]
    (repeat' split) <;> simp [State.recall]
  | lineOpen =>
    show (ownLineOpen b p s).Leaves _
    unfold ownLineOpen
    (repeat' split) <;> try exact Verdict.leaves_refuse _ _
    dsimp only
    split
    · exact Verdict.leaves_refuse _ _
    · unfold admitLine; split <;> simp [State.recall]
  | tapCreate =>
    show (ownTapCreate b p s).Leaves _
    unfold ownTapCreate
    (repeat' split) <;> try exact Verdict.leaves_refuse _ _
    exact (State.countDelayClamp_recall _ _ _).trans (State.recall_of_sru (by simp))
  | beat =>
    show (ownBeat b p s).Leaves _
    unfold ownBeat
    (repeat' split)
    · rfl
    · rfl
    · exact State.acceptMark_recall _ _

namespace State

variable {s : State}

theorem bounded_owner (h : s.sru.Bounded) (k : Kind) (b : Bool) (p : List Byte) :
    (ownerOf k b p s).Leaves fun t => t.sru.Bounded := by
  cases k with
  | init =>
    show (ownInit b p s).Leaves _
    unfold ownInit
    (repeat' split) <;> try exact Verdict.leaves_refuse _ _
    show Sru.Bounded _
    rw [initBlocks_eq]
    exact .of_empty rfl rfl rfl
  | outmapSet =>
    show (ownOutmapSet b p s).Leaves _
    unfold ownOutmapSet
    iterate 4 (split <;> try exact Verdict.leaves_refuse _ _)
    exact bounded_staged_or h rfl
  | outmapFill =>
    show (ownOutmapFill b p s).Leaves _
    unfold ownOutmapFill
    iterate 5 (split <;> try exact Verdict.leaves_refuse _ _)
    exact bounded_staged_or h (recall_of_sru (by simp))
  | lineSet =>
    show (ownLineSet b p s).Leaves _
    unfold ownLineSet
    iterate 4 (split <;> try exact Verdict.leaves_refuse _ _)
    exact bounded_staged_or h rfl
  | tapSet =>
    show (ownTapSet b p s).Leaves _
    unfold ownTapSet
    iterate 4 (split <;> try exact Verdict.leaves_refuse _ _)
    exact bounded_staged_or h (applyTapSet_recall _ _ _)
  | tapFill =>
    show (ownTapFill b p s).Leaves _
    unfold ownTapFill
    iterate 4 (split <;> try exact Verdict.leaves_refuse _ _)
    exact bounded_staged_or h (applyTapFill_recall _ _ _ _ _)
  | modSet =>
    show (ownModSet b p s).Leaves _
    unfold ownModSet
    iterate 5 (split <;> try exact Verdict.leaves_refuse _ _)
    exact bounded_staged_or h rfl
  | tempoSet =>
    show (ownTempoSet b p s).Leaves _
    unfold ownTempoSet
    split <;> try exact Verdict.leaves_refuse _ _
    exact bounded_staged_or h (setTempo_recall _ _)
  | slotSet =>
    show (ownSlotSet b p s).Leaves _
    unfold ownSlotSet
    iterate 5 (split <;> try exact Verdict.leaves_refuse _ _)
    exact bounded_staged_or h rfl
  | commit => exact bounded_ownCommit h b p
  | discard => exact bounded_ownDiscard h b p
  | schedCancel => exact bounded_ownSchedCancel h b p
  | _ => exact (ownerOf_recall _ rfl b p s).imp fun _ => h.of_recall

end State

/-! ## Every step -/

/-- The bounds of the recall lists are kept by every owner and every event. -/
theorem Sru.Bounded.kept : KeptByTables fun s => s.sru.Bounded where
  frame ht h := h.of_recall (State.recall_of_tables ht)
  owner k b p _ h := State.bounded_owner h k b p
  reset _ _ := .of_empty rfl rfl rfl
  completion l s h := h.of_recall (s.completeComputation_recall l)
  boundary _ h := h
  schedule _ h := State.bounded_testSchedule h
  clockBack _ h := h.of_recall (State.recall_of_sru (by simp))
  computation s h := by
    have taken := s.applyDueWork_recall
    simp only [State.recall, Prod.mk.injEq] at taken
    obtain ⟨hstaging, hdue, hqueue⟩ := taken
    exact h.of_fewer (v := s.applyDueWork.sru) (by rw [hstaging, hdue]; exact Nat.add_le_add_left (Nat.zero_le _) _)
      (hqueue ▸ List.filter_sublist)
  clear _ _ h ht := h.of_recall (State.recall_of_sru (pageClear_taps ht).2)
  input _ _ _ _ _ h ht := h.of_recall (State.recall_of_sru (input_taps ht).2)
  measured _ _ _ h ht := h.of_recall (State.recall_of_sru (timed_taps (.inl ⟨_, ht⟩)).2)
  lost _ _ h ht := h.of_recall (State.recall_of_sru (timed_taps (.inr (ht.imp_right .inl))).2)
  timeout _ _ h ht := h.of_recall (State.recall_of_sru (timed_taps (.inr (.inr (.inr ht)))).2)

/-- Settles O14: an entry joins only where one is free, an action only with a handle of its own where fewer than 8 wait; all else
moves entries or removes them. -/
theorem recallStaysBounded : Obligations.RecallStaysBounded := fun _ _ => Sru.Bounded.kept.step

end Sys2Proof.Machine
end

section
/-! SUPPORT. START and STOP by the engine state (R148, R165, R170), and the slot requests (R149, R152). -/

namespace Sys2Proof.Machine

/-! ## START and STOP -/

section
variable {s : State} {b : Bool} {p : List Byte}

/-- A START in STOPPED enters RUNNING and begins the windows, with one mark for both (R148, R165). -/
theorem State.enterRunning_beginWindows (s : State) :
    s.enterRunning.beginWindows = (({ s with
      ec := { s.ec with engine := .running, fade := 0, goal := 256, clockTimer := true },
      sru := { s.sru with slots := mapIx (fun _ x => { x with
        windowCount := 0, windowSaturated := false, windowLeft := s.ec.fs / 10 }) s.sru.slots } } : State).note fun w =>
          { w with fade := true, windows := true }) :=
  State.note_note { s with
    ec := { s.ec with engine := .running, fade := 0, goal := 256, clockTimer := true },
    sru := { s.sru with slots := mapIx (fun _ x => { x with
      windowCount := 0, windowSaturated := false, windowLeft := s.ec.fs / 10 }) s.sru.slots } } Written.setFade Written.setWindows

theorem ownStart_stopped (h : s.ec.engine = .stopped) : ownStart b p s = .done s.enterRunning.beginWindows .ok [] := by
  rw [ownStart, h]

theorem ownStart_running (h : s.ec.engine = .running) : ownStart b p s = .done s .ok [] := by rw [ownStart, h]

theorem ownStart_stopping (h : s.ec.engine = .stopping) :
    ownStart b p s = .done { s with ec := { s.ec with engine := .running, goal := 256 } } .ok [] := by rw [ownStart, h]

theorem ownStart_halted (h : s.ec.engine = .halted) : ownStart b p s = .refuse .wrongState := by rw [ownStart, h]

theorem ownStop_running (h : s.ec.engine = .running) :
    ownStop b p s = .done { s with ec := { s.ec with engine := .stopping, goal := 0 } } .ok [] := by rw [ownStop, h]

theorem ownStop_rest (h : s.ec.engine = .stopped ∨ s.ec.engine = .stopping) : ownStop b p s = .done s .ok [] := by
  rw [ownStop]
  rcases h with h | h <;> rw [h]

/-- A STOP in HALTED ends the halt at once, with its reasons (R165). -/
theorem ownStop_halted (h : s.ec.engine = .halted) :
    ownStop b p s = .done (({ s with ec := { s.ec with
      engine := .stopped, reasons := HaltReasons.none, clockAbsent := false, clockTimer := false } } : State).raise
        (.stopDone s.ec.counter)) .ok [] := by
  rw [ownStop, h]
  rfl

end

/-- Settles O23: the owner's case of each engine state, answered. -/
theorem startAndStopByState : Obligations.StartAndStopByState := by
  refine ⟨fun r s h hp => ?_, fun r s h hp => ?_⟩
  · have hl : r.payload.length = Kind.start.payloadLength := by rw [hp]; rfl
    refine ⟨fun he => congrArg Host.Outcome.next (State.take_done h hl ?_ rfl),
      fun he => congrArg Host.Outcome.next (State.take_done h hl (ownStart_running he) rfl),
      fun he => congrArg Host.Outcome.next (State.take_done h hl (ownStart_stopping he) rfl),
      fun he => congrArg Host.Outcome.next (State.take_refused h hl (ownStart_halted he))⟩
    exact (ownStart_stopped (s := s.accepted) he).trans (congrArg (Verdict.done · .ok []) s.accepted.enterRunning_beginWindows)
  · have hl : r.payload.length = Kind.stop.payloadLength := by rw [hp]; rfl
    refine ⟨fun he => congrArg Host.Outcome.next (State.take_done h hl (ownStop_running he) rfl),
      fun he => congrArg Host.Outcome.next (State.take_done h hl (ownStop_rest he) rfl),
      fun he => congrArg Host.Outcome.next ((State.take_of_applies ownStop h hl).trans ?_)⟩
    exact congrArg (State.conclude Kind.stop.code r.tag s.accepted) (ownStop_halted (s := s.accepted) he)

/-! ## SLOT_SET and SLOT_GET (R149, R152) -/

section
variable {slot mask v1 v0 mute safe limit : Byte} {s : State} {i : SlotIx}

/-- The parts that a SLOT_SET with good flags names (R149). -/
def namedSlotParts (mask v1 v0 limit : Byte) (bm bs : Bool) : SlotParts where
  level := if mask.getLsbD 0 then some (clampNat 0 16384 (natOf [v1, v0])) else none
  mute  := if mask.getLsbD 1 then some bm else none
  safe  := if mask.getLsbD 2 then some bs else none
  limit := if mask.getLsbD 3 then some (clampNat 1 255 limit.toNat) else none

/-- A limit is a byte, so that only 0 is clamped (R149). -/
theorem clampNat_limit (v : Byte) : clampNat 1 255 v.toNat = max 1 v.toNat := by
  have bound := v.isLt
  unfold clampNat
  omega

theorem Slot.write_namedSlotParts (mask v1 v0 limit : Byte) (bm bs : Bool) (x : Slot) :
    x.write (namedSlotParts mask v1 v0 limit bm bs) = { x with
      levelTarget := if mask.getLsbD 0 then min 16384 (natOf [v1, v0]) else x.levelTarget
      mute := if mask.getLsbD 1 then bm else x.mute
      safe := if mask.getLsbD 2 then bs else x.safe
      limit := if mask.getLsbD 3 then max 1 limit.toNat else x.limit } := by
  have level : clampNat 0 16384 (natOf [v1, v0]) = min 16384 (natOf [v1, v0]) := Nat.zero_max _
  simp only [Slot.write, namedSlotParts, getD_ite_named, clampNat_limit, level]

theorem ownSlotSet_badIndex (h : 7 < slot.toNat) :
    ownSlotSet false [slot, mask, v1, v0, mute, safe, limit] s = .refuse .badIndex := by
  rw [ownSlotSet, index_of_ge h]
  rfl

theorem ownSlotSet_badMute (hi : i.val = slot.toNat) (h1 : mask.getLsbD 1 = true) (h : flagOf mute = none) :
    ownSlotSet false [slot, mask, v1, v0, mute, safe, limit] s = .refuse .badValue := by
  rw [ownSlotSet, index_of_val i hi]
  exact (if_neg nofun).trans (if_pos ⟨h1, h⟩)

theorem ownSlotSet_badSafe (hi : i.val = slot.toNat) (h2 : mask.getLsbD 2 = true) (h : flagOf safe = none) :
    ownSlotSet false [slot, mask, v1, v0, mute, safe, limit] s = .refuse .badValue := by
  rw [ownSlotSet, index_of_val i hi]
  exact (if_neg nofun).trans (ite_eq_left_iff.mpr fun _ => if_pos ⟨h2, h⟩)

/-- With good flags the parts are written. -/
theorem ownSlotSet_applied {bm bs : Bool} (hi : i.val = slot.toNat) (h1 : mask.getLsbD 1 = true → flagOf mute = some bm)
    (h2 : mask.getLsbD 2 = true → flagOf safe = some bs) :
    ownSlotSet false [slot, mask, v1, v0, mute, safe, limit] s =
      .done (s.mapSlot i (Slot.write (namedSlotParts mask v1 v0 limit bm bs)))
        (okStatus ((mask.getLsbD 0 && decide (16384 < natOf [v1, v0])) || (mask.getLsbD 3 && decide (limit = 0)))) [] := by
  have given {α : Type} {c : Bool} {x : Option α} {a : α} (h : c = true → x = some a) : ¬ (c = true ∧ x = none) :=
    fun ⟨hc, hx⟩ => nomatch (h hc).symm.trans hx
  have hmute : (if mask.getLsbD 1 then flagOf mute else none) = if mask.getLsbD 1 then some bm else none :=
    ite_congr rfl h1 fun _ => rfl
  have hsafe : (if mask.getLsbD 2 then flagOf safe else none) = if mask.getLsbD 2 then some bs else none :=
    ite_congr rfl h2 fun _ => rfl
  rw [ownSlotSet, index_of_val i hi]
  dsimp only
  rw [if_neg nofun, if_neg (given h1), if_neg (given h2), hmute, hsafe]
  rfl

end

/-- Settles O44: the fields of the two requests, decoded in order, and the record that they write or report. -/
theorem slotRequests : Obligations.SlotRequests := by
  refine ⟨?_, fun r s slot clear h hp => ?_⟩
  · intro r s slot mask v1 v0 mute safe limit h hp refused
    have hl : r.payload.length = Kind.slotSet.payloadLength := by rw [hp]; rfl
    have refuses {st : Status} (ho : ownSlotSet false [slot, mask, v1, v0, mute, safe, limit] s.accepted = .refuse st) :
        refused st :=
      congrArg Host.Outcome.next (State.take_refused h hl (by rw [hp]; exact ho))
    refine ⟨fun hs => refuses (ownSlotSet_badIndex hs), fun i hi =>
      ⟨fun h1 h0 h0' => refuses (ownSlotSet_badMute hi h1 (flagOf_none h0 h0')),
      fun h2 h0 h0' => refuses (ownSlotSet_badSafe hi h2 (flagOf_none h0 h0')), ?_⟩⟩
    intro bm bs h1 h2 x asked written clamped
    have wrote : s.accepted.mapSlot i (Slot.write (namedSlotParts mask v1 v0 limit bm bs)) =
        { s.accepted with sru := { s.sru with slots := s.sru.slots.set i written } } :=
      congrArg (fun y => ({ s.accepted with sru := { s.sru with slots := s.sru.slots.set i y } } : State))
        (Slot.write_namedSlotParts mask v1 v0 limit bm bs x)
    have status : okStatus ((mask.getLsbD 0 && decide (16384 < asked)) || (mask.getLsbD 3 && decide (limit = 0))) =
        if clamped then .okClamped else .ok := okStatus_iff (by simp [clamped])
    refine congrArg Host.Outcome.next (State.take_done h hl ?_ rfl)
    rw [hp, ownSlotSet_applied hi (fun h => by rw [h1 h, flagOf_flagByte]) (fun h => by rw [h2 h, flagOf_flagByte]), wrote, status]
  · have hl : r.payload.length = Kind.slotGet.payloadLength := by rw [hp]; rfl
    refine ⟨fun hs => congrArg Host.Outcome.next (State.take_refused h hl ?_), fun i hi =>
      ⟨fun h0 h1 => congrArg Host.Outcome.next (State.take_refused h hl ?_), ?_⟩⟩
    · rw [hp, ownSlotGet, index_of_ge hs]
    · rw [hp, ownSlotGet, index_of_val i hi]
      dsimp only
      rw [flagOf_none h0 h1]
    · rintro b rfl x c payload slots
      refine congrArg Host.Outcome.next (State.take_done h hl (t := { s.accepted with sru := { s.sru with slots := slots } })
        (st := .ok) (q := payload) ?_ rfl)
      rw [hp, ownSlotGet, index_of_val i hi]
      dsimp only
      rw [flagOf_flagByte]
      cases b <;> rfl

end Sys2Proof.Machine
end

section
/-! SUPPORT. The schedule and the application of lists (R155 to R159): COMMIT, DISCARD, SCHED_CANCEL, one entry after another. -/

namespace Sys2Proof.Machine

/-! ## COMMIT AT (R156) -/

/-- The lowest handle that no action holds (R156). -/
theorem freeHandle_lowest {q : List Action} {h : Handle} (fresh : ∀ a ∈ q, a.handle ≠ h)
    (lowest : ∀ g : Handle, g < h → ∃ a ∈ q, a.handle = g) : freeHandle q = some h := by
  refine find?_finRange ?_ fun g hg => ?_
  · simpa using fresh
  · simpa using lowest g hg

section
variable {c : Word32} {a : Action} {q : List Action}

/-- The actions that a placed one stands behind have no greater lead (R156). -/
theorem lead_le_of_mem_takeWhile {x : Action} (hx : x ∈ q.takeWhile fun y => decide (y.lead c ≤ a.lead c)) :
    x.lead c ≤ a.lead c := of_decide_eq_true (List.mem_takeWhile_imp (p := fun y : Action => decide (y.lead c ≤ a.lead c)) hx)

/-- The action that a placed one stands next before has a greater lead (R156). -/
theorem lead_lt_of_head?_dropWhile {x : Action} (hx : (q.dropWhile fun y => decide (y.lead c ≤ a.lead c)).head? = some x) :
    a.lead c < x.lead c := by
  have not_le := List.head?_dropWhile_not (fun y : Action => decide (y.lead c ≤ a.lead c)) q
  rw [hx] at not_le
  simpa using not_le

end

theorem ownCommit_now (f3 f2 f1 f0 : Byte) (s : State) : ownCommit false [0, f3, f2, f1, f0] s = commitNow s := rfl

theorem ownCommit_at (f3 f2 f1 f0 : Byte) (s : State) :
    ownCommit false [1, f3, f2, f1, f0] s = commitAt (BitVec.ofNat 32 (natOf [f3, f2, f1, f0])) s := rfl

/-- Settles O47: the tests in their order; the free handle is the first that is found, and the queue is cut where the lead grows. -/
theorem commitAtSchedulesAnAction : Obligations.CommitAtSchedulesAnAction := by
  intro r s f3 f2 f1 f0 h hp
  have hl : r.payload.length = Kind.commit.payloadLength := by rw [hp]; rfl
  refine ⟨fun empty => congrArg Host.Outcome.next (State.take_refused h hl ?_),
    fun filled eight => congrArg Host.Outcome.next (State.take_refused h hl ?_), fun filled room i fresh lowest => ?_⟩
  · rw [hp, ownCommit_at, commitAt]
    exact if_pos empty
  · rw [hp, ownCommit_at, commitAt]
    exact (if_neg filled).trans (if_pos eight)
  · intro c f lead new
    refine ⟨_, _, (List.takeWhile_append_dropWhile (p := fun x => decide (x.lead c ≤ new.lead c))).symm,
      fun a => lead_le_of_mem_takeWhile, fun a => lead_lt_of_head?_dropWhile,
      congrArg Host.Outcome.next (State.take_done h hl ?_ rfl)⟩
    rw [hp, ownCommit_at, commitAt, State.accepted_sru, if_neg filled, if_neg (Nat.not_le.mpr room),
      freeHandle_lowest fresh lowest]
    rfl

/-! ## COMMIT NOW, DISCARD and SCHED_CANCEL (R155, R159) -/

section
variable {s : State}

theorem EngineState.computes_iff (e : EngineState) : e.computes = true ↔ e = .running ∨ e = .stopping := by
  cases e <;> simp [EngineState.computes]

theorem commitNow_empty (hc : s.ec.engine.computes = true) (h : s.sru.staging = []) : commitNow s = .done s .ok [0, 0] :=
  (if_pos hc).trans (if_pos h)

theorem commitNow_moved (hc : s.ec.engine.computes = true) (h : s.sru.staging ≠ []) :
    commitNow s = .done { s with sru := { s.sru with staging := [], dueNow := s.sru.dueNow ++ s.sru.staging } } .ok
      (bytesOf 2 (s.sru.dueNow.length + s.sru.staging.length)) := by
  rw [← List.length_append]
  exact (if_pos hc).trans (if_neg h)

end

/-- One action of a queue, whose handle no other holds, is found and removed (R159). -/
theorem find?_filter_handle {front back : List Action} {a : Action} (h : ∀ x ∈ front ++ back, x.handle ≠ a.handle) :
    ((front ++ a :: back).find? fun x => decide (x.handle = a.handle)) = some a ∧
      ((front ++ a :: back).filter fun x => decide (x.handle ≠ a.handle)) = front ++ back := by
  have other : ∀ x ∈ front, x.handle ≠ a.handle := fun x hx => h x (List.mem_append_left _ hx)
  constructor
  · rw [List.find?_append, List.find?_eq_none.mpr fun x hx => by simpa using other x hx]
    simp
  · rw [List.filter_append, List.filter_cons_of_neg (by simp), ← List.filter_append]
    exact List.filter_eq_self.mpr fun x hx => by simpa using h x hx

/-- Settles O46: the mode and the engine state decide a COMMIT NOW; a cancelled action is the one of its handle. -/
theorem commitsAndDiscards : Obligations.CommitsAndDiscards := by
  refine ⟨fun r s mode f3 f2 f1 f0 h hp => ?_, fun r s h hp => ?_, fun r s v h hp => ?_⟩
  · have hl : r.payload.length = Kind.commit.payloadLength := by rw [hp]; rfl
    refine ⟨fun h0 h1 => congrArg Host.Outcome.next (State.take_refused h hl ?_), ?_⟩
    · rw [hp, ownCommit, if_neg h0, if_neg h1]
    rintro rfl
    refine ⟨fun he => ?_, fun he => ?_⟩
    · have computes : s.accepted.ec.engine.computes = true := (EngineState.computes_iff _).mpr he
      refine ⟨fun empty => congrArg Host.Outcome.next (State.take_done h hl ?_ rfl),
        fun filled => congrArg Host.Outcome.next (State.take_done h hl ?_ rfl)⟩
      · rw [hp, ownCommit_now, commitNow_empty computes empty]
      · rw [hp, ownCommit_now, commitNow_moved computes filled]
        rfl
    · intro x y
      have idle : s.accepted.ec.engine.computes = false := by rcases he with he | he <;> simp [he, EngineState.computes]
      refine congrArg Host.Outcome.next ((State.take_of_applies ownCommit h hl).trans ?_)
      rw [hp, ownCommit_now, commitNow, idle]
      rfl
  · have hl : r.payload.length = Kind.discard.payloadLength := by rw [hp]; rfl
    exact congrArg Host.Outcome.next (State.take_done h hl rfl rfl)
  · have hl : r.payload.length = Kind.schedCancel.payloadLength := by rw [hp]; rfl
    refine ⟨fun hv => congrArg Host.Outcome.next (State.take_refused h hl ?_),
      fun hv unheld => congrArg Host.Outcome.next (State.take_refused h hl ?_), fun front back a hq ha distinct =>
        congrArg Host.Outcome.next (State.take_done h hl ?_ rfl)⟩
    · rw [hp, ownSchedCancel, index_of_ge hv]
    · have absent : (s.sru.queue.find? fun a => decide (a.handle = ⟨v.toNat, Nat.lt_succ_of_le hv⟩)) = none :=
        List.find?_eq_none.mpr fun a ha => by simpa [Fin.ext_iff] using unheld a ha
      rw [hp, ownSchedCancel, index_some (Nat.lt_succ_of_le hv)]
      dsimp only
      rw [State.accepted_sru, absent]
    · obtain ⟨found, removed⟩ := find?_filter_handle distinct
      rw [hp, ownSchedCancel, index_of_val a.handle ha]
      dsimp only
      rw [State.accepted_sru, hq, found, removed]

/-! ## One entry after another (R157, R158) -/

theorem Entry.isSafe_iff (e : Entry) (s : State) : e.isSafe s = true ↔ ∃ i, e.slot = some i ∧ (s.sru.slots[i]).safe = true := by
  unfold Entry.isSafe
  cases e.slot with
  | none => simp
  | some i => simp

theorem Line.not_isLive_iff (l : Line) : (!l.isLive) = true ↔ l.state = .free ∨ l.state = .closing := by
  unfold Line.isLive
  cases l.state <;> decide

/-- A LINE_SET is stale by its line or by a source part beyond S - 1 (section 8.5). -/
theorem Entry.lineSet_isStale_iff (k : LineIx) (p : LineParts) (i : SlotIx) (s : State) :
    (Entry.lineSet k p i).isStale s = true ↔
      (s.dmc.lines[k]).state = .free ∨ (s.dmc.lines[k]).state = .closing ∨ ∃ n, p.source = some (some n) ∧ s.ec.timeSlots ≤ n := by
  rw [Entry.isStale, Bool.or_eq_true, Line.not_isLive_iff, or_assoc]
  refine or_congr_right (or_congr_right ?_)
  match p.source with
  | none | some none => simp
  | some (some n) => simp

theorem Entry.tapSet_isStale_iff (t : TapIx) (p : TapParts) (i : SlotIx) (s : State) :
    (Entry.tapSet t p i).isStale s = true ↔ (s.taps[t]).state ≠ .live := bne_iff_ne

/-- How many entries of a list have been handled. -/
def Tallied.total (n : Tallied) : Nat := n.applied + n.skipped + n.stale

/-- Every entry that is handled is counted once (R158). -/
theorem handleEntry_total (x : State × Tallied) (e : Entry) : (handleEntry x e).2.total = x.2.total + 1 := by
  unfold handleEntry
  (repeat' split) <;> simp only [Tallied.total] <;> omega

theorem foldl_handleEntry_total (l : List Entry) (x : State × Tallied) :
    (l.foldl handleEntry x).2.total = x.2.total + l.length := by
  induction l generalizing x with
  | nil => rfl
  | cons e l ih => rw [List.foldl_cons, ih, handleEntry_total, List.length_cons, Nat.add_right_comm, Nat.add_assoc]

/-- Settles O48: the cases of an entry in their order, the count along the list, and the lateness that is 0 exactly on time. -/
theorem entriesAreHandledInOrder : Obligations.EntriesAreHandledInOrder := by
  refine ⟨fun s n e => ?_, fun s k p i => Entry.lineSet_isStale_iff k p i s,
    fun s t p i => Entry.tapSet_isStale_iff t p i s, fun l s => ?_, fun a s => ⟨fun on => ?_, fun late => ?_⟩⟩
  · intro safe bump
    have counted (f : SlotCounters → SlotCounters) : (e.slot.elim s fun i => s.countSlot i f) = bump f := by
      simp only [bump]
      cases e.slot <;> rfl
    refine ⟨fun hs => ?_, fun hs hstale => ?_, fun hs hvalid => ?_⟩
    · rw [handleEntry, if_pos ((e.isSafe_iff s).mpr hs), counted]
    · rw [handleEntry, if_neg (mt (e.isSafe_iff s).mp hs), if_pos hstale, counted]
    · rw [handleEntry, if_neg (mt (e.isSafe_iff s).mp hs), hvalid]
      rfl
  · intro x
    exact ⟨rfl, (foldl_handleEntry_total l _).trans (Nat.zero_add _), fun kept => if_pos kept, fun dropped => if_neg dropped⟩
  · rw [State.applyAction, on, sub_self]
    rfl
  · rw [State.applyAction]
    dsimp only
    rw [if_neg (sub_ne_zero.mpr late)]

end Sys2Proof.Machine
end

section
/-! SUPPORT. Staging (R150, R154): a staged request and the direct one, kind by kind. -/

namespace Sys2Proof.Machine

/-! ## Two verdicts, the direct request's and the staged one's -/

/-- The direct request and the staged one are refused alike, or the staged one is held as an entry that acts as the direct one
does (R154). -/
inductive Verdict.Twins (s : State) : Verdict → Verdict → Prop where
  | refused {st : Status} (h : 0x10 ≤ st.code) : Twins s (.refuse st) (.refuse st)
  | held (e : Entry) (applied staged : Bool) (q : List Byte) :
    Twins s (.done (e.apply s) (okStatus applied) q) (stageEntry e staged s)

/-- What the checks of TAP_SET answer with is a refusal (R78). -/
theorem tapPartsOf_error {dest : Dest} {mask kind v3 v2 v1 v0 modu e1 e0 g1 g0 mode l1 l0 : Byte} {st : Status}
    (h : tapPartsOf dest mask kind v3 v2 v1 v0 modu e1 e0 g1 g0 mode l1 l0 = .error st) : 0x10 ≤ st.code := by
  unfold tapPartsOf at h
  split at h
  · cases h; decide
  · split at h
    · cases h; decide
    · split at h
      · cases h; decide
      · cases h

section
variable (p : List Byte) (s : State)

theorem ownOutmapSet_twins : Verdict.Twins s (ownOutmapSet false p s) (ownOutmapSet true p s) := by
  unfold ownOutmapSet
  iterate 4 (split <;> try exact .refused (by decide))
  exact .held (.outmapSet _ _) _ _ _

theorem ownOutmapFill_twins : Verdict.Twins s (ownOutmapFill false p s) (ownOutmapFill true p s) := by
  unfold ownOutmapFill
  iterate 5 (split <;> try exact .refused (by decide))
  exact .held (.outmapFill _ _ _ _) _ _ _

theorem ownLineSet_twins : Verdict.Twins s (ownLineSet false p s) (ownLineSet true p s) := by
  unfold ownLineSet
  iterate 4 (split <;> try exact .refused (by decide))
  exact .held (.lineSet _ _ _) false _ _

theorem ownTapSet_twins : Verdict.Twins s (ownTapSet false p s) (ownTapSet true p s) := by
  unfold ownTapSet
  iterate 3 (split <;> try exact .refused (by decide))
  split
  · exact .refused (tapPartsOf_error (by assumption))
  · exact .held (.tapSet _ _ _) _ _ _

theorem ownTapFill_twins : Verdict.Twins s (ownTapFill false p s) (ownTapFill true p s) := by
  unfold ownTapFill
  iterate 4 (split <;> try exact .refused (by decide))
  exact .held (.tapFill _ _ _ _) _ _ _

theorem ownModSet_twins : Verdict.Twins s (ownModSet false p s) (ownModSet true p s) := by
  unfold ownModSet
  iterate 5 (split <;> try exact .refused (by decide))
  exact .held (.modSet _ _) _ _ _

theorem ownTempoSet_twins : Verdict.Twins s (ownTempoSet false p s) (ownTempoSet true p s) := by
  unfold ownTempoSet
  split
  · exact .held (.tempoSet _) _ _ _
  · exact .refused (by decide)

/-- A SLOT_SET without a safe part (R150). -/
theorem ownSlotSet_twins (h : ∀ m : Byte, p[1]? = some m → m.getLsbD 2 = false) :
    Verdict.Twins s (ownSlotSet false p s) (ownSlotSet true p s) := by
  unfold ownSlotSet
  split <;> try exact .refused (by decide)
  rename_i mask _ _ _ _ _
  have plain (b : Bool) : ¬ (b = true ∧ mask.getLsbD 2 = true) := fun hm => nomatch (h mask rfl).symm.trans hm.2
  rw [if_neg (plain false), if_neg (plain true)]
  iterate 3 (split <;> try exact .refused (by decide))
  exact .held (.slotSet _ _) _ _ _

end

/-- Every kind that can be staged (R154). -/
theorem ownerOf_twins {k : Kind} (hk : k.stageable = true) (p : List Byte) (s : State)
    (h : k = .slotSet → ∀ m : Byte, p[1]? = some m → m.getLsbD 2 = false) :
    Verdict.Twins s (ownerOf k false p s) (ownerOf k true p s) := by
  cases k with
  | lineSet => exact ownLineSet_twins p s
  | tapSet => exact ownTapSet_twins p s
  | tapFill => exact ownTapFill_twins p s
  | modSet => exact ownModSet_twins p s
  | tempoSet => exact ownTempoSet_twins p s
  | slotSet => exact ownSlotSet_twins p s (h rfl)
  | outmapSet => exact ownOutmapSet_twins p s
  | outmapFill => exact ownOutmapFill_twins p s
  | _ => cases hk

/-! ## The two requests, taken -/

theorem exec_commandOf_stageable {k : Kind} (hk : k.stageable = true) (r : Request) (s : State) :
    exec (commandOf k r) s = .next (s.take k r (ownerOf k)) := by
  cases k with
  | lineSet | tapSet | tapFill | modSet | tempoSet | slotSet | outmapSet | outmapFill => rfl
  | _ => cases hk

/-- With no request waiting, a request that is taken leaves the receive queue as it was (R174). -/
theorem State.accepted_of_empty {s : State} (h : s.link.rx = []) : s.accepted = s := by
  obtain ⟨⟨_, rx, _, _⟩, _⟩ := s
  obtain rfl : rx = [] := h
  rfl

/-- The direct form of a request. -/
def directForm (r : Request) : Request := { r with disposition := 0 }

section
variable {k : Kind} {r : Request} {s : State} (hk : k.stageable = true) (h : Stages k r s) (hrx : s.link.rx = [])
include hk h hrx

/-- The staged request and its direct form are judged by tests that they pass alike, but for the length (R175). -/
theorem judge_twins (hs : k = .slotSet → ∀ m : Byte, r.payload[1]? = some m → m.getLsbD 2 = false) :
    ∃ d t : Verdict, Verdict.Twins s d t ∧ s.take k (directForm r) (ownerOf k) = s.conclude k.code r.tag d ∧
      s.take k r (ownerOf k) = s.conclude k.code r.tag t := by
  obtain ⟨⟨hw, -⟩, hd, he⟩ := h
  have taken (f : Frame) : s.takeFrame f = some s :=
    (State.takeFrame_of_canTake ⟨hw, .inl hrx⟩).trans (congrArg some (State.accepted_of_empty hrx))
  refine ⟨judge k (directForm r) (ownerOf k) s, judge k r (ownerOf k) s, ?_, ?_, ?_⟩
  · by_cases hl : r.payload.length = k.payloadLength
    · simpa [judge, directForm, hd, hk, he, hl] using ownerOf_twins hk r.payload s hs
    · have long := Verdict.Twins.refused (s := s) (st := .badLength) (by decide)
      simpa [judge, directForm, hd, hk, he, hl] using long
  · rw [State.take, taken]; rfl
  · rw [State.take, taken]

end

theorem okStatus_cases (b : Bool) : okStatus b = .ok ∨ okStatus b = .okClamped := by cases b <;> simp [okStatus]

/-- Settles O45: the tests before the owner and the owner's checks decide alike for both forms of the request; what passes them is
applied, or held as the entry. -/
theorem stagedRequestsWaitAsEntries : Obligations.StagedRequestsWaitAsEntries := by
  refine ⟨?_, fun r s slot mask v1 v0 mute safe limit h hp hm => ?_⟩
  · intro k r s hk h hrx hs direct
    have hdirect : direct = .next (s.take k (directForm r) (ownerOf k)) := exec_commandOf_stageable hk (directForm r) s
    obtain ⟨d, t, twins, hd, ht⟩ := judge_twins hk h hrx hs
    rw [hdirect, exec_commandOf_stageable hk r s, hd, ht]
    cases twins with
    | refused hst => exact .inl ⟨_, hst, rfl, rfl⟩
    | held e applied staged q =>
      have link : (e.apply s).link.tx = s.link.tx := by simp
      refine .inr ⟨e, okStatus applied, q, okStatus_cases applied, ?_, fun full => ?_, fun free => ?_⟩
      · exact congrArg Host.Outcome.next (State.conclude_of_quiet _ _ _ _ _ _ link)
      · rw [stageEntry, if_pos full]; rfl
      · refine ⟨if staged then .stagedClamped else .staged, by cases staged <;> simp, ?_⟩
        rw [stageEntry, if_neg free]
        exact congrArg Host.Outcome.next (State.conclude_of_quiet _ _ _ _ _ _ rfl)
  · refine congrArg Host.Outcome.next ((State.take_of_stages ownSlotSet h rfl (by rw [hp]; rfl)).trans ?_)
    rw [hp, ownSlotSet, if_pos ⟨rfl, hm⟩]
    rfl

end Sys2Proof.Machine
end

section
/-! SUPPORT. The tests 1 to 5 of a request in their order (R174, R175), the state table (R163) and the stageable kinds (R154). -/

namespace Sys2Proof.Machine

/-! ## A request in the hands of its owner -/

/-- The command of a request of a known kind has the request judged by the kind's owner; both forms of COMMIT have one owner. -/
theorem exec_commandOf (k : Kind) (r : Request) (s : State) : exec (commandOf k r) s = .next (s.take k r (ownerOf k)) := by
  cases k with
  | commit => unfold commandOf; dsimp only; split <;> rfl
  | _ => rfl

/-! ## The tests before the owner (R175, tests 2 to 5) -/

section
variable {k : Kind} {r : Request} {s : State} {owner : Bool → List Byte → State → Verdict}

theorem judge_badDisposition (h0 : r.disposition ≠ 0) (h1 : r.disposition ≠ 1) : judge k r owner s = .refuse .badValue :=
  if_pos ⟨h0, h1⟩

theorem judge_notStageable (hd : r.disposition = 1) (hk : k.stageable = false) : judge k r owner s = .refuse .notStageable := by
  rw [judge, if_neg fun h => h.2 hd, if_pos ⟨hd, hk⟩]

/-- A disposition that the kind admits passes the tests 2 and 3. -/
theorem judge_of_disposition (hd : r.disposition = 0 ∨ r.disposition = 1 ∧ k.stageable = true) :
    judge k r owner s =
      if k.takenIn s.ec.engine = false then .refuse .wrongState
      else if r.payload.length ≠ k.payloadLength then .refuse .badLength
      else owner (r.disposition == 1) r.payload s := by
  have known : ¬ (r.disposition ≠ 0 ∧ r.disposition ≠ 1) := fun h => hd.elim h.1 fun h1 => h.2 h1.1
  have admitted : ¬ (r.disposition = 1 ∧ k.stageable = false) := by
    rintro ⟨h1, hk⟩
    rcases hd with h0 | ⟨-, hk'⟩
    · rw [h0] at h1; exact absurd h1 (by decide)
    · rw [hk] at hk'; cases hk'
  rw [judge, if_neg known, if_neg admitted]

/-- A request that is taken and fails a test before its owner changes the link alone. -/
theorem exec_commandOf_refused {st : Status} (hc : s.link.canTake (requestFrame k.code r))
    (hj : judge k r (ownerOf k) s.accepted = .refuse st) : exec (commandOf k r) s = .next (s.accepted.replied k r st []) := by
  rw [exec_commandOf, State.take, State.takeFrame_of_canTake hc]
  exact congrArg (fun v => Host.Outcome.next (s.accepted.conclude k.code r.tag v)) hj

end

/-! ## An unknown kind (R175, test 1) -/

section
variable {b : Byte} {r : Request} {s : State}

theorem exec_unknownKind_of_not_canTake (h : ¬ s.link.canTake (requestFrame b r)) :
    exec (.unknownKindRequest b r) s = .next s := by
  show execUnknownKindRequest b r s = _
  rw [execUnknownKindRequest, State.takeFrame_of_not_canTake h, ite_self]

theorem exec_unknownKind_of_canTake (hb : Kind.ofCode b = none) (h : s.link.canTake (requestFrame b r)) :
    exec (.unknownKindRequest b r) s = .next (s.accepted.send (.reply b r.tag .unknownKind [])) := by
  show execUnknownKindRequest b r s = _
  rw [execUnknownKindRequest, State.takeFrame_of_canTake h, hb]
  rfl

end

/-! ## The state table and the stageable kinds -/

theorem EngineState.portsOperate_iff (e : EngineState) :
    e.portsOperate = true ↔ e = .stopped ∨ e = .running ∨ e = .stopping ∨ e = .halted := by
  cases e <;> simp [EngineState.portsOperate]

theorem Kind.takenIn_iff (k : Kind) (e : EngineState) :
    k.takenIn e = true ↔
      if k ∈ [Kind.status, .timeGet, .poolGet, .condEnable, .condGet, .alertRelease, .countersGet, .reset] then True
      else if k = .init then e = .unconfigured ∨ e = .stopped ∨ e = .halted
      else e = .stopped ∨ e = .running ∨ e = .stopping ∨ e = .halted := by
  cases k with
  | status | timeGet | poolGet | condEnable | condGet | alertRelease | countersGet | reset =>
    rw [if_pos (by decide)]
    exact iff_of_true rfl trivial
  | init =>
    rw [if_neg (by decide), if_pos rfl]
    cases e <;> decide
  | _ =>
    rw [if_neg (by decide), if_neg (by decide)]
    exact e.portsOperate_iff

theorem Kind.stageable_iff (k : Kind) :
    k.stageable = true ↔
      k ∈ [Kind.lineSet, .tapSet, .tapFill, .modSet, .tempoSet, .slotSet, .outmapSet, .outmapFill] := by
  cases k with
  | lineSet | tapSet | tapFill | modSet | tempoSet | slotSet | outmapSet | outmapFill => exact iff_of_true rfl (by decide)
  | _ => exact iff_of_false nofun (by decide)

/-- Settles O3: a request that is not taken changes nothing; one that is taken meets the tests in their order, and the first that
fails is the verdict. -/
theorem requestTestsInOrder : Obligations.RequestTestsInOrder := by
  refine ⟨fun k r s h => ?_, fun b r s h => exec_unknownKind_of_not_canTake h,
    fun b r s hb h => exec_unknownKind_of_canTake hb h, fun k r s hc => ?_, Kind.takenIn_iff, Kind.stageable_iff⟩
  · rw [exec_commandOf, State.take_of_not_canTake _ h]
  · refine ⟨fun h0 h1 => exec_commandOf_refused hc (judge_badDisposition h0 h1),
      fun hd hk => exec_commandOf_refused hc (judge_notStageable hd hk),
      fun hd => ⟨fun he => exec_commandOf_refused hc ?_, fun he hl => exec_commandOf_refused hc ?_⟩⟩
    · rw [judge_of_disposition hd, State.accepted_ec, if_pos he]
    · rw [judge_of_disposition hd, State.accepted_ec, if_neg (by simp [he]), if_pos hl]

end Sys2Proof.Machine
end

section
/-! SUPPORT. Halt causes by the engine state (R167), HALT and RESUME (R167, R168), and the rate and clock events (R169, R170). -/

namespace Sys2Proof.Machine

/-! ## Halt causes (R167) -/

section
variable {s : State} {n : Word32} {w : HaltReason}

/-- A cause that arises while computations run halts the engine. -/
theorem State.haltCause_of_computes (h : s.ec.engine = .running ∨ s.ec.engine = .stopping) :
    s.haltCause n w = State.raiseAt n (.halted (s.ec.reasons.add w)) { s with ec := { s.ec with
      engine := .halted, reasons := s.ec.reasons.add w, clockAbsent := false, clockTimer := false } } := by
  rcases h with h | h <;> rw [State.haltCause, h]

/-- A new cause in HALTED joins the reasons. -/
theorem State.haltCause_of_new (h : s.ec.engine = .halted) (hw : s.ec.reasons.has w = false) :
    s.haltCause n w =
      State.raiseAt n (.halted (s.ec.reasons.add w)) { s with ec := { s.ec with reasons := s.ec.reasons.add w } } := by
  simp only [State.haltCause, h, hw, Bool.false_eq_true, if_false]

/-- A cause that is a reason already, or that arises in STOPPED, does nothing. -/
theorem State.haltCause_of_idle (h : s.ec.engine = .stopped ∨ s.ec.engine = .halted ∧ s.ec.reasons.has w = true) :
    s.haltCause n w = s := by
  rcases h with h | ⟨h, hw⟩
  · rw [State.haltCause, h]
  · simp only [State.haltCause, h, hw, if_true]

end

/-! ## HALT and RESUME (R167, R168) -/

section
variable {s : State} {b : Bool} {p : List Byte}

theorem ownHalt_caused (h : s.ec.engine = .running ∨ s.ec.engine = .stopping ∨ s.ec.engine = .halted) :
    ownHalt b p s = .done (s.haltCause s.ec.counter .host) .ok [] := by
  rcases h with h | h | h <;> rw [ownHalt, h]

theorem ownHalt_stopped (h : s.ec.engine = .stopped) : ownHalt b p s = .refuse .wrongState := by rw [ownHalt, h]

theorem ownResume_elsewhere (h : s.ec.engine ≠ .halted) : ownResume b p s = .refuse .wrongState := if_pos h

theorem ownResume_stillFaulted (h : s.ec.engine = .halted) (hr : s.ec.reasons.rate = true) (hd : s.ec.rateResult = .disagree) :
    ownResume b p s = .refuse .stillFaulted := by
  rw [ownResume, if_neg (not_not_intro h), if_pos ⟨hr, hd⟩]

theorem ownResume_halted (h : s.ec.engine = .halted) (hr : s.ec.reasons.rate = false ∨ s.ec.rateResult ≠ .disagree) :
    ownResume b p s = .done ({ s with ec := { s.ec with reasons := HaltReasons.none } } : State).enterRunning .ok [] := by
  have sound : ¬ (s.ec.reasons.rate = true ∧ s.ec.rateResult = .disagree) := by
    rintro ⟨hr', hd⟩
    exact hr.elim (fun hr => by rw [hr] at hr'; cases hr') fun hn => hn hd
  rw [ownResume, if_neg (not_not_intro h), if_neg sound]

end

/-- A HALT in a state in which it is taken as a halt cause is answered with what the cause formed (R167, R176). -/
theorem exec_halt_caused {r : Request} {s u : State} (h : Applies .halt r s) (hl : r.payload.length = Kind.halt.payloadLength)
    (he : s.ec.engine = .running ∨ s.ec.engine = .stopping ∨ s.ec.engine = .halted)
    (hu : s.accepted.haltCause s.ec.counter .host = u) : exec (.halt r) s = .next (s.repliedFrom .halt r .ok [] u) := by
  subst hu
  refine congrArg Host.Outcome.next ((State.take_of_applies ownHalt h hl).trans ?_)
  exact congrArg (State.conclude Kind.halt.code r.tag s.accepted) (ownHalt_caused (s := s.accepted) he)

/-- Settles O24: HALT is a halt cause, by the engine state and the reasons; RESUME by its two tests. -/
theorem haltAndResumeByState : Obligations.HaltAndResumeByState := by
  refine ⟨fun r s h hp => ?_, fun r s h hp => ?_⟩
  · have hl : r.payload.length = Kind.halt.payloadLength := by rw [hp]; rfl
    refine ⟨fun he => ?_, fun he hw => ?_, fun he hw _ => ?_,
      fun he => congrArg Host.Outcome.next (State.take_refused h hl (ownHalt_stopped he))⟩
    · exact exec_halt_caused h hl (he.imp_right .inl) (State.haltCause_of_computes (s := s.accepted) he)
    · exact exec_halt_caused h hl (.inr (.inr he)) (State.haltCause_of_new (s := s.accepted) (w := .host) he hw)
    · refine (exec_halt_caused h hl (.inr (.inr he)) (State.haltCause_of_idle (s := s.accepted) (.inr ⟨he, hw⟩))).trans ?_
      exact congrArg Host.Outcome.next (State.placeReply_of_quiet _ _ _ rfl)
  · have hl : r.payload.length = Kind.resume.payloadLength := by rw [hp]; rfl
    exact ⟨fun he => congrArg Host.Outcome.next (State.take_refused h hl (ownResume_elsewhere he)),
      fun he hr hd => congrArg Host.Outcome.next (State.take_refused h hl (ownResume_stillFaulted he hr hd)),
      fun he hr => congrArg Host.Outcome.next (State.take_done h hl (ownResume_halted he hr) rfl)⟩

/-! ## The rate measurement and the clock (R169, R170) -/

section
variable {s : State} {elapsed : Nat}

theorem exec_rateMeasurementComplete_agree (hs : s.ec.span = some 4096) (ha : spanAgrees s.ec.rate elapsed = true) :
    exec (.rateMeasurementComplete elapsed) s = .next { s with ec := { s.ec with span := some 0, rateResult := .agree } } := by
  show execRateMeasurementComplete elapsed s = _
  rw [execRateMeasurementComplete, if_neg (not_not_intro hs), if_pos ha]

/-- A span of the other class is a halt cause (R167, R169). -/
theorem exec_rateMeasurementComplete_disagree (hs : s.ec.span = some 4096) (ha : ¬ spanAgrees s.ec.rate elapsed = true) :
    exec (.rateMeasurementComplete elapsed) s =
      .next (State.haltCause s.ec.counter .rate { s with ec := { s.ec with span := some 0, rateResult := .disagree } }) := by
  show execRateMeasurementComplete elapsed s = _
  rw [execRateMeasurementComplete, if_neg (not_not_intro hs), if_neg ha]

theorem exec_rateMeasurementComplete_notDue (hs : s.ec.span ≠ some 4096) :
    exec (.rateMeasurementComplete elapsed) s = .next s := congrArg Host.Outcome.next (if_pos hs)

theorem exec_clockLost_due (h : s.ec.engine.computes = true) (ht : s.ec.clockTimer = true) :
    exec .clockLost s = .next (State.raise (.clockLost s.ec.counter) { s with ec := { s.ec with
      clockAbsent := true, clockTimer := false } }) :=
  congrArg Host.Outcome.next (if_pos (by rw [h, ht]; rfl))

theorem exec_clockLost_notDue (h : s.ec.engine.computes = false ∨ s.ec.clockTimer = false) : exec .clockLost s = .next s :=
  congrArg Host.Outcome.next (if_neg (by rcases h with h | h <;> simp [h]))

end

/-- Settles O57: the class of the span decides between a plain result and a halt cause; the other events by their one test. -/
theorem rateAndClockEvents : Obligations.RateAndClockEvents := by
  refine ⟨fun s elapsed rate hr hs => ?_, fun s => ⟨fun elapsed hs => exec_rateMeasurementComplete_notDue hs,
    fun h => congrArg Host.Outcome.next (if_pos h), fun h => congrArg Host.Outcome.next (if_neg (by simp [h])),
    fun h ht => exec_clockLost_due ((EngineState.computes_iff _).mpr h) ht, exec_clockLost_notDue⟩⟩
  intro agrees measured answers reasons
  have class_iff : spanAgrees s.ec.rate elapsed = true ↔ agrees := by
    rw [hr]
    cases rate <;> exact decide_eq_true_iff
  have caused {u : State} (ha : ¬ agrees) (hu : (measured .disagree).haltCause s.ec.counter .rate = u) : answers u :=
    hu ▸ exec_rateMeasurementComplete_disagree hs (mt class_iff.mp ha)
  exact ⟨fun ha => exec_rateMeasurementComplete_agree hs (class_iff.mpr ha),
    fun ha he => caused ha (State.haltCause_of_computes (s := measured .disagree) he),
    fun ha he hw => caused ha (State.haltCause_of_new (s := measured .disagree) (w := .rate) he hw),
    fun ha _ he => caused ha (State.haltCause_of_idle (s := measured .disagree) he)⟩

end Sys2Proof.Machine
end

section
/-! SUPPORT. What the operations announce: at most one ALERT, behind every frame that waits (R176, R179, R180). -/

namespace Sys2Proof.Machine

/-- What an alert test may write besides the condition records: the latch and the link. -/
def State.bell (s : State) : Bool × Link := (s.cu.latch, s.link)

/-- Nothing is announced on the way from `s` to `t`, or one ALERT is formed, which sets the latch that was clear (R180). -/
def State.Announces (s t : State) : Prop :=
  t.bell = s.bell ∨ s.cu.latch = false ∧ ∃ items, t.bell = (true, { s.link with tx := s.link.tx ++ [.alert items] })

namespace State.Announces
variable {s t u : State}

theorem of_bell (h : t.bell = s.bell) : s.Announces t := .inl h

theorem of_link_cu (hl : t.link = s.link) (hc : t.cu = s.cu) : s.Announces t := of_bell (by rw [bell, hl, hc, bell])

theorem refl (s : State) : s.Announces s := of_bell rfl

/-- The latch that the first ALERT sets keeps a second one from being formed (R180). -/
theorem trans (h : s.Announces t) (h' : t.Announces u) : s.Announces u := by
  obtain h | ⟨hl, items, h⟩ := h
  · obtain ⟨latch, link⟩ := Prod.mk.inj h
    rw [Announces, ← h, ← latch, ← link]
    exact h'
  · obtain h' | ⟨hl', -⟩ := h'
    · exact .inr ⟨hl, items, h'.trans h⟩
    · exact absurd (hl'.symm.trans (Prod.mk.inj h).1) Bool.false_ne_true

/-- Writing neither the latch nor the link first makes no difference. -/
theorem of_later (h : t.Announces u) (hb : t.bell = s.bell) : s.Announces u := (of_bell hb).trans h

theorem foldl {α : Type} {f : State → α → State} (hf : ∀ (u : State) (a : α), u.Announces (f u a)) (l : List α) (s : State) :
    s.Announces (l.foldl f s) :=
  List.foldlRecOn l f (refl s) fun u hu a _ => hu.trans (hf u a)

/-! ## Conditions and halts -/

theorem alertTest (s : State) : s.Announces s.alertTest := by
  obtain ⟨h, -⟩ | ⟨hl, -, h⟩ := s.alertTest_cases
  · rw [h]; exact refl s
  · rw [h]; exact .inr ⟨hl, _, rfl⟩

theorem raiseAt (n : Word32) (d : Detail) (s : State) : s.Announces (s.raiseAt n d) :=
  of_later (alertTest _) rfl

theorem raise (d : Detail) (s : State) : s.Announces (s.raise d) := raiseAt _ d s

theorem haltCause (n : Word32) (w : HaltReason) (s : State) : s.Announces (s.haltCause n w) := by
  obtain ⟨h, -⟩ | ⟨-, -, h⟩ | ⟨-, h⟩ := s.haltCause_cases n w <;> rw [h]
  · exact refl s
  · exact of_later (raiseAt _ _ _) rfl
  · exact of_later (raiseAt _ _ _) rfl

theorem clockBack (s : State) : s.Announces s.clockBack := by
  unfold State.clockBack
  split
  · exact of_later (raise _ _) rfl
  · exact refl s

/-! ## Lines and pages -/

theorem serveUpTo (n : Nat) (s : State) : s.Announces (serveUpTo n s) := by
  induction n generalizing s with
  | zero => exact refl s
  | succ n ih =>
    unfold Machine.serveUpTo
    (repeat' split)
    · exact refl s
    · dsimp only
      exact of_later ((raise _ _).trans (ih _)) rfl
    · exact refl s

theorem serveWaitList (s : State) : s.Announces s.serveWaitList := serveUpTo _ s

theorem completeCloses (s : State) : s.Announces s.completeCloses := of_link_cu (by simp) (by simp)

theorem closeWaiting (k : LineIx) (s : State) : s.Announces (s.closeWaiting k) :=
  ((of_link_cu (by simp) (by simp) : s.Announces (s.dropWaiting k)).trans (completeCloses _)).trans (serveWaitList _)

theorem closeActive (k : LineIx) (s : State) : s.Announces (s.closeActive k) := of_later (completeCloses (s.beginClose k)) rfl

theorem groupClose (p : Line → Bool) (s : State) : s.Announces (s.groupClose p) := by
  have waiting (l : List LineIx) (u : State) : u.Announces (l.foldl (fun v k => v.dropWaiting k) u) :=
    foldl (fun v k => of_link_cu (by simp) (by simp)) l u
  have active (l : List LineIx) (u : State) : u.Announces (l.foldl (fun v k => v.beginClose k) u) :=
    foldl (fun v k => of_link_cu (by simp) (by simp)) l u
  exact (((waiting _ s).trans (active _ _)).trans (completeCloses _)).trans (serveWaitList _)

/-! ## Lists -/

/-- A list announces its dropped entries alone (R158). -/
theorem applyList (l : List Entry) (s : State) : s.Announces (applyList l s).1 := by
  have entries (n : Tallied) : s.Announces (l.foldl handleEntry (s, n)).1 := by
    have keeps (p : State → Link × CondUnit) (h : ∀ (x : State × Tallied) (e : Entry), p (handleEntry x e).1 = p x.1) :
        p (l.foldl handleEntry (s, n)).1 = p s := foldl_keeps (fun x : State × Tallied => p x.1) handleEntry h l (s, n)
    have kept := keeps (fun u => (u.link, u.cu)) fun x e => by cases x; simp
    exact of_link_cu (Prod.mk.inj kept).1 (Prod.mk.inj kept).2
  unfold Machine.applyList
  dsimp only
  split
  · exact entries _
  · exact (entries _).trans (raise _ _)

theorem applyAction (a : Action) (s : State) : s.Announces (s.applyAction a) := by
  unfold State.applyAction
  dsimp only
  split
  · exact applyList _ s
  · exact of_later ((raise _ _).trans (applyList _ _)) rfl

theorem applyDueWork (s : State) : s.Announces s.applyDueWork := by
  have actions (l : List Action) (u : State) : u.Announces (l.foldl (fun v a => v.applyAction a) u) :=
    foldl (fun v a => applyAction a v) l u
  exact of_later ((actions _ _).trans (applyList _ _)) rfl

/-! ## The events -/

/-- The conditions of a completion that have their own alert tests, then the others with one (R104, R179). -/
theorem finish (c : Computation) (s : State) : s.Announces (s.finish c) := by
  have raised (l : List Detail) (u : State) : u.Announces (u.raiseEach c.stamp l) := foldl (fun v d => raiseAt c.stamp d v) l u
  have posted (l : List Detail) (u : State) : u.Announces (u.postEach c.stamp l) :=
    foldl (f := fun v d => v.post c.stamp d) (fun _ _ => of_bell rfl) l u
  have told := State.alertTest_told (s.finishFrom_told c (c.tapOuts s.dmc.memory) (c.contributions (c.tapOuts s.dmc.memory)))
  obtain ⟨-, latch, link⟩ := State.told_inj told
  rw [State.finish_eq]
  exact ((raised _ s).trans ((posted _ _).trans (alertTest _))).trans (of_bell (congrArg₂ Prod.mk latch link))

theorem completeComputation (l : List Strike) (s : State) : s.Announces (s.completeComputation l) := by
  unfold State.completeComputation
  dsimp only
  split
  · exact of_bell rfl
  · exact of_later (finish _ _) rfl

theorem frameBoundary (ht : execFrameBoundary s = .next t) : s.Announces t := by
  obtain rfl := Host.Outcome.next.inj ht
  have boundary (u : State) : u.Announces { u with port := u.port.boundary u.ec, ec := u.ec.boundary } := of_bell rfl
  have schedule (u : State) : u.Announces u.testSchedule := of_bell rfl
  have begins (u : State) : u.Announces u.beginComputation := (applyDueWork u).trans (of_bell rfl)
  have h := (completeComputation [] s).trans (boundary _)
  dsimp only
  split <;> split
  · exact h.trans ((schedule _).trans ((clockBack _).trans (begins _)))
  · exact h.trans ((clockBack _).trans (begins _))
  · exact h.trans ((schedule _).trans (clockBack _))
  · exact h.trans (clockBack _)

/-- A cleared page brings LINE_READY and INIT_DONE (R34, R48). -/
theorem pageClear (ht : execPageClearComplete s = .next t) : s.Announces t := by
  have clean (u : State) : u.Announces u.memoryClean := by
    unfold State.memoryClean
    split
    · exact of_later (raise _ _) rfl
    · exact refl u
  have scrub (u : State) : u.Announces u.startScrub := of_link_cu (by simp) (by simp)
  obtain rfl := Host.Outcome.next.inj ht
  split
  · exact refl s
  · exact of_later ((serveWaitList _).trans ((scrub _).trans (clean _))) rfl

/-- A word examined brings CHECK_LOCK alone (R19, R20). -/
theorem checkWord (n : Nat) (w : Word24) (fresh : Bool) (s : State) : s.Announces (s.checkWord n w fresh) := by
  unfold State.checkWord
  dsimp only
  (repeat' split)
  · exact refl s
  · exact of_bell rfl
  · exact of_later (raise _ _) rfl
  · exact of_bell rfl

theorem input {n : Nat} {w : Word24} {fresh : Bool} (ht : execInputSlotReceived n w fresh s = .next t) : s.Announces t := by
  obtain rfl := Host.Outcome.next.inj ht
  split
  · exact of_later (checkWord _ _ _ _) rfl
  · exact refl s

theorem measured {n : Nat} (ht : execRateMeasurementComplete n s = .next t) : s.Announces t := by
  obtain rfl := Host.Outcome.next.inj ht
  (repeat' split)
  · exact refl s
  · exact of_bell rfl
  · exact of_later (haltCause _ _ _) rfl

theorem clockLost (ht : execClockLost s = .next t) : s.Announces t := by
  obtain rfl := Host.Outcome.next.inj ht
  split
  · exact of_later (raise _ _) rfl
  · exact refl s

end State.Announces

end Sys2Proof.Machine
end

section
/-! SUPPORT. The success of a request (R175, R176): the owners answer with a success status, keep the waiting commands, and form at
most one ALERT. -/

namespace Sys2Proof.Machine

/-! ## A success -/

/-- The link of `t` is that of `s` with at most one ALERT formed (R180). -/
def Link.AlertedTo (l m : Link) : Prop :=
  ∃ alerts, (alerts = [] ∨ ∃ items, alerts = [TxFrame.alert items]) ∧ m = { l with tx := l.tx ++ alerts }

theorem State.Announces.alerted {s t : State} (h : s.Announces t) : s.link.AlertedTo t.link := by
  obtain h | ⟨-, items, h⟩ := h
  · exact ⟨[], .inl rfl, by rw [(Prod.mk.inj h).2, List.append_nil]⟩
  · exact ⟨_, .inr ⟨items, rfl⟩, (Prod.mk.inj h).2⟩

/-- A success from `s` with the state `t` and a status. -/
structure State.Succeeds (s t : State) (st : Status) : Prop where
  status  : st.code < 0x10
  pending : t.pending = s.pending
  alerted : s.link.AlertedTo t.link

/-- A verdict that is done is a success. -/
def Verdict.Succeeds (s : State) : Verdict → Prop
  | .refuse _ => True
  | .done t st _ => s.Succeeds t st

/-- A verdict that is done is a success that forms no frame. -/
def Verdict.Quiet (s : State) : Verdict → Prop
  | .refuse _ => True
  | .done t st _ => st.code < 0x10 ∧ t.pending = s.pending ∧ t.link = s.link

@[simp] theorem Verdict.succeeds_refuse (s : State) (st : Status) : (Verdict.refuse st).Succeeds s := trivial

@[simp] theorem Verdict.quiet_refuse (s : State) (st : Status) : (Verdict.refuse st).Quiet s := trivial

@[simp] theorem Verdict.quiet_done (s t : State) (st : Status) (q : List Byte) :
    (Verdict.done t st q).Quiet s ↔ st.code < 0x10 ∧ t.pending = s.pending ∧ t.link = s.link := Iff.rfl

theorem Verdict.Quiet.succeeds {s : State} {v : Verdict} (h : v.Quiet s) : v.Succeeds s := by
  cases v with
  | refuse st => trivial
  | done t st q =>
    obtain ⟨status, pending, link⟩ := h
    exact ⟨status, pending, [], .inl rfl, by rw [link, List.append_nil]⟩

/-- An operation that announces, answered OK. -/
theorem State.Announces.succeeds {s t : State} {q : List Byte} (h : s.Announces t) (hp : t.pending = s.pending) :
    (Verdict.done t .ok q).Succeeds s := ⟨by decide, hp, h.alerted⟩

@[simp] theorem Status.code_ok : Status.ok.code = 0 := rfl

@[simp] theorem okStatus_code_lt (b : Bool) : (okStatus b).code < 0x10 := by cases b <;> decide

@[simp] theorem stageEntry_quiet (e : Entry) (b : Bool) (s : State) : (stageEntry e b s).Quiet s := by
  unfold stageEntry
  split
  · trivial
  · exact ⟨by cases b <;> decide, rfl, rfl⟩

@[simp] theorem State.initBlocks_pending (s : State) (rate : Rate) (a : HaltAction) : (s.initBlocks rate a).pending = s.pending := by
  rw [State.initBlocks_eq]

@[simp] theorem State.initBlocks_link (s : State) (rate : Rate) (a : HaltAction) : (s.initBlocks rate a).link = s.link := by
  rw [State.initBlocks_eq]

/-! ## The owners -/

/-- The kinds that may raise a condition or make the alert test. -/
def Kind.announces : Kind → Bool
  | .stop | .halt | .lineOpen | .lineClose | .lineReleaseTag | .lineReleaseAll | .slotClear | .commit | .condEnable
  | .alertRelease => true
  | _ => false

theorem ownerOf_quiet (k : Kind) (hk : k.announces = false) (b : Bool) (p : List Byte) (s : State) :
    (ownerOf k b p s).Quiet s := by
  cases k with
  | stop | halt | lineOpen | lineClose | lineReleaseTag | lineReleaseAll | slotClear | commit | condEnable | alertRelease => cases hk
  | status | reset | timeGet | outmapGet | poolGet | tempoGet | schedGet | condGet | checkRead | checkClear | probeGet | discard =>
    exact ⟨by decide, rfl, rfl⟩
  | init | start | resume | portDrive | portBypass | outmapSet | outmapFill | checkSet | lineSet | lineGet | tapCreate | tapSet
  | tapFill | tapFree | tapGet | modSet | modSync | modGet | tempoSet | beat | slotSet | slotGet | schedCancel
  | probeSet | countersGet =>
    dsimp only [ownerOf, ownInit, ownStart, ownResume, ownPortDrive, ownPortBypass, ownOutmapSet, ownOutmapFill, ownCheckSet,
      ownLineSet, ownLineGet, ownTapCreate, ownTapSet, ownTapFill, ownTapFree, ownTapGet, ownModSet, ownModSync, ownModGet,
      ownTempoSet, ownBeat, ownSlotSet, ownSlotGet, ownSchedCancel, ownProbeSet, ownCountersGet]
    (repeat' split) <;> simp

section
variable (b : Bool) (p : List Byte) (s : State)

/-- A STOP in HALTED raises STOP_DONE (R166). -/
theorem ownStop_succeeds : (ownStop b p s).Succeeds s := by
  unfold ownStop
  dsimp only
  split
  · exact (State.Announces.refl s).succeeds rfl
  · exact (State.Announces.refl s).succeeds rfl
  · exact State.Announces.succeeds (.of_bell rfl) rfl
  · exact State.Announces.succeeds (.of_later (.raise _ _) rfl) (by simp)
  · exact Verdict.succeeds_refuse _ _

theorem ownHalt_succeeds : (ownHalt b p s).Succeeds s := by
  unfold ownHalt
  split <;> try exact Verdict.succeeds_refuse _ _
  all_goals exact (State.Announces.haltCause _ _ s).succeeds (by simp)

/-- An open that waits raises POOL_WAIT (R46). -/
theorem ownLineOpen_succeeds : (ownLineOpen b p s).Succeeds s := by
  unfold ownLineOpen
  iterate 4 (split <;> try exact Verdict.succeeds_refuse _ _)
  dsimp only
  iterate 3 (split <;> try exact Verdict.succeeds_refuse _ _)
  unfold admitLine
  dsimp only
  split
  · exact Verdict.Quiet.succeeds ⟨okStatus_code_lt _, rfl, rfl⟩
  · refine ⟨?_, by simp, (State.Announces.of_later (.raise _ _) rfl).alerted⟩
    split <;> decide

theorem ownLineClose_succeeds : (ownLineClose b p s).Succeeds s := by
  unfold ownLineClose
  (repeat' split) <;> try exact Verdict.succeeds_refuse _ _
  · exact (State.Announces.closeWaiting _ s).succeeds (by simp)
  · exact (State.Announces.closeActive _ s).succeeds (by simp)
  · exact (State.Announces.refl s).succeeds rfl

/-- COMMIT NOW applies the lists at once where no computations run (R155); the rest of COMMIT moves entries. -/
theorem ownCommit_succeeds : (ownCommit b p s).Succeeds s := by
  unfold ownCommit
  (repeat' split) <;> try exact Verdict.succeeds_refuse _ _
  · unfold commitNow
    dsimp only
    (repeat' split)
    · exact (State.Announces.refl s).succeeds rfl
    · exact State.Announces.succeeds (.of_bell rfl) rfl
    · exact State.Announces.succeeds (.of_later ((State.Announces.applyList _ _).trans (.applyList _ _)) rfl) (by simp)
  · unfold commitAt
    dsimp only
    (repeat' split) <;> try exact Verdict.succeeds_refuse _ _
    exact State.Announces.succeeds (.of_bell rfl) rfl

/-- ALERT_RELEASE clears the latch, and one ALERT more may follow (R181). -/
theorem ownAlertRelease_succeeds : (ownAlertRelease b p s).Succeeds s := by
  unfold ownAlertRelease
  split
  · exact (State.Announces.refl s).succeeds rfl
  · exact ⟨by decide, by simp, (State.Announces.alertTest { s with cu := { s.cu with
      conditions := mapIx (fun _ c => c.release) s.cu.conditions, latch := false } }).alerted⟩

/-- Every owner refuses, or succeeds. -/
theorem ownerOf_succeeds (k : Kind) : (ownerOf k b p s).Succeeds s := by
  have closes (g : Line → Bool) (q : List Byte) : (Verdict.done (s.groupClose g) .ok q).Succeeds s :=
    (State.Announces.groupClose g s).succeeds (by simp)
  cases k with
  | stop => exact ownStop_succeeds b p s
  | halt => exact ownHalt_succeeds b p s
  | lineOpen => exact ownLineOpen_succeeds b p s
  | lineClose => exact ownLineClose_succeeds b p s
  | lineReleaseTag =>
    show (ownLineReleaseTag b p s).Succeeds s
    unfold ownLineReleaseTag
    split
    · exact closes _ _
    · exact Verdict.succeeds_refuse _ _
  | lineReleaseAll =>
    have pointed (u : State) : u.Announces (u.pointTo 0) := .of_bell rfl
    show (Verdict.done ((s.groupClose Line.isNotFree).pointTo 0) .ok _).Succeeds s
    exact ((State.Announces.groupClose _ s).trans (pointed _)).succeeds (by simp)
  | slotClear =>
    show (ownSlotClear b p s).Succeeds s
    unfold ownSlotClear
    (repeat' split) <;> try exact Verdict.succeeds_refuse _ _
    exact closes _ _
  | commit => exact ownCommit_succeeds b p s
  | condEnable =>
    show (ownCondEnable b p s).Succeeds s
    unfold ownCondEnable
    split
    · exact State.Announces.succeeds (.of_later (.alertTest _) rfl) (by simp)
    · exact Verdict.succeeds_refuse _ _
  | alertRelease => exact ownAlertRelease_succeeds b p s
  | _ => exact (ownerOf_quiet _ rfl b p s).succeeds

end

/-! ## The reply -/

/-- The state `t` is `s` with the request taken and answered once: the reply and at most one ALERT behind every frame that waited,
the receiver and the waiting commands as they were, and after a refusal everything else too (R174 to R176). -/
structure State.Answers (s : State) (b tag : Byte) (t : State) (status : Status) (payload : List Byte)
    (alerts : List TxFrame) : Prop where
  alerted : alerts = [] ∨ ∃ items, alerts = [TxFrame.alert items]
  pending : t.pending = s.pending
  link    : t.link = { s.link with rx := s.link.rx.tail, tx := t.link.tx }
  sent    : t.link.tx = s.link.tx ++ .reply b tag status payload :: alerts ∨
    t.link.tx = s.link.tx ++ alerts ++ [.reply b tag status payload]
  refused : 0x10 ≤ status.code → t = s.accepted.send (.reply b tag status [])

section
variable {s : State}

/-- A refusal forms one reply and writes the link alone (R175). -/
theorem State.answers_refused (s : State) (b tag : Byte) (st : Status) :
    s.Answers b tag (s.accepted.send (.reply b tag st [])) st [] [] where
  alerted := .inl rfl
  pending := rfl
  link := rfl
  sent := .inl rfl
  refused _ := rfl

theorem State.placeReply_rest (f : TxFrame) (before after : State) :
    (State.placeReply f before after).pending = after.pending ∧
      (State.placeReply f before after).link = { after.link with tx := (State.placeReply f before after).link.tx } := by
  unfold State.placeReply
  dsimp only
  split <;> exact ⟨rfl, rfl⟩

/-- A success forms one reply, beside what the request announced (R176). -/
theorem State.Succeeds.answers {t : State} {st : Status} (h : s.accepted.Succeeds t st) (b tag : Byte) (q : List Byte) :
    ∃ alerts, s.Answers b tag (State.placeReply (.reply b tag st q) s.accepted t) st q alerts := by
  obtain ⟨status, pending, alerts, halerts, hlink⟩ := h
  obtain ⟨hp, hl⟩ := State.placeReply_rest (.reply b tag st q) s.accepted t
  exact ⟨alerts, halerts, hp.trans pending, hl.trans (by rw [hlink]; rfl),
    State.placeReply_tx _ s.accepted t alerts (by rw [hlink]), fun hr => absurd status (Nat.not_lt.mpr hr)⟩

/-- A judged request is refused, or succeeds (R175). -/
theorem judge_succeeds (k : Kind) (r : Request) (s : State) : (judge k r (ownerOf k) s).Succeeds s := by
  cases hv : judge k r (ownerOf k) s with
  | refuse st => trivial
  | done t st q =>
    rw [← (judge_done hv).2]
    exact ownerOf_succeeds _ _ s k

/-- A request that is taken is answered once (R174 to R176). -/
theorem State.take_answers (k : Kind) (r : Request) (h : s.link.canTake (requestFrame k.code r)) :
    ∃ st q alerts, s.Answers k.code r.tag (s.take k r (ownerOf k)) st q alerts := by
  have succeeds := judge_succeeds k r s.accepted
  rw [State.take, State.takeFrame_of_canTake h]
  dsimp only
  cases hv : judge k r (ownerOf k) s.accepted with
  | refuse st => exact ⟨st, [], [], s.answers_refused _ _ st⟩
  | done t st q =>
    rw [hv] at succeeds
    exact ⟨st, q, succeeds.answers _ _ q⟩

end

end Sys2Proof.Machine
end

section
/-! SUPPORT. The commands and the link: the front command (R174), the frame that spells a command, the next state that every command
has, and one reply for each request taken (R175, R176). -/

namespace Sys2Proof.Machine

open Laws.FrameRoundTrip in
/-- Every well-formed command that a frame carries is what that frame decodes to (R174, R175). -/
theorem decodeFrame_encodeFrame : ∀ c : Instr, Statement c
  | .status r => status r
  | .init r => init r
  | .start r => start r
  | .stop r => stop r
  | .halt r => halt r
  | .resume r => resume r
  | .reset r => reset r
  | .resetTake => resetTake
  | .powerOnReset => powerOnReset
  | .timeGet r => timeGet r
  | .portDrive r => portDrive r
  | .portBypass r => portBypass r
  | .outmapSet r => outmapSet r
  | .outmapFill r => outmapFill r
  | .outmapGet r => outmapGet r
  | .checkSet r => checkSet r
  | .checkRead r => checkRead r
  | .checkClear r => checkClear r
  | .lineOpen r => lineOpen r
  | .lineSet r => lineSet r
  | .lineClose r => lineClose r
  | .lineReleaseTag r => lineReleaseTag r
  | .lineReleaseAll r => lineReleaseAll r
  | .lineGet r => lineGet r
  | .poolGet r => poolGet r
  | .tapCreate r => tapCreate r
  | .tapSet r => tapSet r
  | .tapFill r => tapFill r
  | .tapFree r => tapFree r
  | .tapGet r => tapGet r
  | .modSet r => modSet r
  | .modSync r => modSync r
  | .modGet r => modGet r
  | .tempoSet r => tempoSet r
  | .beat r => beat r
  | .tempoGet r => tempoGet r
  | .slotSet r => slotSet r
  | .slotClear r => slotClear r
  | .slotGet r => slotGet r
  | .commitNow r => Laws.FrameRoundTrip.commitNow r
  | .commitAt r => Laws.FrameRoundTrip.commitAt r
  | .discard r => discard r
  | .schedCancel r => schedCancel r
  | .schedGet r => schedGet r
  | .condEnable r => condEnable r
  | .condGet r => condGet r
  | .alertRelease r => alertRelease r
  | .probeSet r => probeSet r
  | .probeGet r => probeGet r
  | .countersGet r => countersGet r
  | .unknownKindRequest kind r => unknownKindRequest kind r
  | .frameClose stopLow => frameClose stopLow
  | .frameTransmitDone => frameTransmitDone
  | .frameBoundary => frameBoundary
  | .frameComputationComplete strikes => frameComputationComplete strikes
  | .pageClearComplete => pageClearComplete
  | .inputSlotReceived slot word fresh => inputSlotReceived slot word fresh
  | .rateMeasurementComplete elapsed => rateMeasurementComplete elapsed
  | .rateMeasurementLoss => rateMeasurementLoss
  | .clockLost => clockLost
  | .trackerTimeout => trackerTimeout
  | .characterReceived c stopLow => characterReceived c stopLow

/-! ## The front command -/

/-- Settles O1: the two cases of the queue. -/
theorem stepRunsTheFrontCommand : Obligations.StepRunsTheFrontCommand :=
  ⟨fun _ _ _ h => by rw [step, h], fun _ h => by rw [step, h]⟩

/-- A request leaves the waiting commands, taken or not. -/
theorem State.take_pending (k : Kind) (r : Request) (s : State) : (s.take k r (ownerOf k)).pending = s.pending := by
  by_cases h : s.link.canTake (requestFrame k.code r)
  · obtain ⟨_, _, _, answered⟩ := State.take_answers k r h
    exact answered.pending
  · rw [State.take_of_not_canTake _ h]

/-- A request of an unknown kind is refused when it is taken; otherwise nothing happens (R175, test 1). -/
theorem exec_unknownKind_cases (b : Byte) (r : Request) (s : State) :
    exec (.unknownKindRequest b r) s = .next s ∨
      exec (.unknownKindRequest b r) s = .next (s.accepted.send (.reply b r.tag .unknownKind [])) := by
  by_cases h : s.link.canTake (requestFrame b r)
  · cases hb : Kind.ofCode b with
    | some k => exact .inl (congrArg Host.Outcome.next (if_pos (by rw [hb]; rfl)))
    | none => exact .inr (exec_unknownKind_of_canTake hb h)
  · exact .inl (exec_unknownKind_of_not_canTake h)

/-- An event leaves the waiting commands. -/
theorem exec_event_pending {c : Instr} {s t : State} (hc : kindAndRequest c = none) (ht : exec c s = .next t) :
    t.pending = s.pending := by
  cases c with
  | resetTake | frameTransmitDone | inputSlotReceived | rateMeasurementComplete | rateMeasurementLoss | clockLost | trackerTimeout
  | pageClearComplete =>
    obtain rfl := Host.Outcome.next.inj ht
    (repeat' split) <;> simp [State.resetBlocks]
  | frameBoundary =>
    obtain rfl := Host.Outcome.next.inj ht
    dsimp only
    (repeat' split) <;> simp
  | powerOnReset => obtain rfl := Host.Outcome.next.inj ht; rfl
  | frameClose | characterReceived => obtain rfl := Host.Outcome.next.inj ht; simp
  | frameComputationComplete l => obtain rfl := Host.Outcome.next.inj ht; exact (s.completeComputation_keeps l).2
  | _ => cases hc

theorem exec_event_completes {c : Instr} (hc : kindAndRequest c = none) (s : State) : ∃ t, exec c s = .next t := by
  cases c with
  | resetTake | powerOnReset | frameClose | frameTransmitDone | frameBoundary | frameComputationComplete | pageClearComplete
  | inputSlotReceived | rateMeasurementComplete | rateMeasurementLoss | clockLost | trackerTimeout | characterReceived =>
    exact ⟨_, rfl⟩
  | _ => cases hc

/-- Settles O2: a request is answered or left alone, and each event ends in a next state; none of them writes the queue. -/
theorem everyCommandCompletes : Obligations.EveryCommandCompletes := by
  intro c s
  obtain ⟨k, r, h⟩ | ⟨b, r, rfl⟩ | hc := exec_cases c s
  · exact ⟨_, h, State.take_pending k r s⟩
  · obtain h | h := exec_unknownKind_cases b r s
    · exact ⟨_, h, rfl⟩
    · exact ⟨_, h, rfl⟩
  · obtain ⟨t, ht⟩ := exec_event_completes hc s
    exact ⟨t, ht, exec_event_pending hc ht⟩

/-! ## One reply -/

theorem Kind.code_of_ofCode {b : Byte} {k : Kind} (h : Kind.ofCode b = some k) : k.code = b := by
  simpa using List.find?_some h

/-- A well-formed request command is that of its kind, or the request of an unknown kind (R175). -/
theorem request_cases {c : Instr} {b : Byte} {r : Request} (hw : c.wellFormed = true) (hc : kindAndRequest c = some (b, r)) :
    (∃ k : Kind, k.code = b ∧ c = commandOf k r) ∨ Kind.ofCode b = none ∧ c = .unknownKindRequest b r := by
  have decoded : decodeFrame (requestFrame b r) = c := decodeFrame_encodeFrame c hw _ (by rw [encodeFrame, hc]; rfl)
  subst decoded
  cases hb : Kind.ofCode b with
  | some k =>
    obtain rfl := Kind.code_of_ofCode hb
    exact .inl ⟨k, rfl, decodeFrame_known k r⟩
  | none => exact .inr ⟨rfl, decodeFrame_unknown b r hb⟩

/-- A well-formed request command that is taken is answered once (R175, R176). -/
theorem exec_answers {c : Instr} {b : Byte} {r : Request} {s : State} (hw : c.wellFormed = true)
    (hc : kindAndRequest c = some (b, r)) (h : s.link.canTake (requestFrame b r)) :
    ∃ t st q alerts, exec c s = .next t ∧ s.Answers b r.tag t st q alerts := by
  obtain ⟨k, rfl, rfl⟩ | ⟨hb, rfl⟩ := request_cases hw hc
  · obtain ⟨st, q, alerts, answered⟩ := State.take_answers k r h
    exact ⟨_, st, q, alerts, exec_commandOf k r s, answered⟩
  · exact ⟨_, _, _, _, exec_unknownKind_of_canTake hb h, s.answers_refused b r.tag .unknownKind⟩

/-- Settles O4: the owner of the kind refuses or succeeds, and an unknown kind is refused; either is answered once. -/
theorem exactlyOneReply : Obligations.ExactlyOneReply := by
  intro c b r s hw hc h
  obtain ⟨t, st, q, alerts, ht, answered⟩ := exec_answers hw hc h
  exact ⟨t, st, q, alerts, ht, by rw [answered.link], answered.alerted, answered.sent, answered.refused⟩

end Sys2Proof.Machine
end

section
/-! SUPPORT. The receiver, character by character (R172, R173, R174); a frame that is put on the wire and received (R172 to R175);
the bounds of the queues and of the receiver (R173, R174, R176). -/

namespace Sys2Proof.Machine

/-! ## One character (R172) -/

section
variable {s : State} {bytes : List Byte} {escape damaged : Bool}

theorem State.receiveCharacter_hunt (h : s.link.receiver = .hunt) (c : Byte) (low : Bool) :
    s.receiveCharacter c low = if c = 0xF5 ∧ low = false then s.setReceiver (.collect [] false false) else s := by
  rw [State.receiveCharacter, h]

theorem State.receiveCharacter_marker (h : s.link.receiver = .collect bytes escape damaged) (low : Bool) :
    s.receiveCharacter 0xF5 low = s.closeFrame bytes escape (damaged || low) := by
  rw [State.receiveCharacter, h]
  exact if_pos rfl

theorem State.receiveCharacter_escape (h : s.link.receiver = .collect bytes escape damaged) (low : Bool) :
    s.receiveCharacter 0xF4 low = s.setReceiver (.collect bytes true (damaged || low)) := by
  rw [State.receiveCharacter, h]
  exact (if_neg (by decide)).trans (if_pos rfl)

/-- The byte that a character other than the marker and the escape stands for (R172). -/
def unescape (escape : Bool) (c : Byte) : Byte :=
  if escape = true ∧ c = 0xE5 then 0xF5 else if escape = true ∧ c = 0xE4 then 0xF4 else c

/-- Any other character is gathered as the byte it stands for; after an escape it damages the frame unless it is 0xE5 or 0xE4
(R172). -/
theorem State.receiveCharacter_byte (h : s.link.receiver = .collect bytes escape damaged) {c : Byte} (h4 : c ≠ 0xF4)
    (h5 : c ≠ 0xF5) (low : Bool) :
    s.receiveCharacter c low =
      s.gather bytes ((damaged || low) || (escape && c != 0xE5 && c != 0xE4)) (unescape escape c) := by
  simp only [State.receiveCharacter, h, unescape, if_neg h4, if_neg h5]
  cases escape with
  | false => simp
  | true =>
    by_cases h1 : c = 0xE5
    · simp [h1]
    · by_cases h2 : c = 0xE4
      · simp [h2]
      · have e1 : (c != 0xE5) = true := bne_iff_ne.mpr h1
        have e2 : (c != 0xE4) = true := bne_iff_ne.mpr h2
        simp only [if_true, true_and, if_neg h1, if_neg h2, e1, e2, Bool.and_true, Bool.or_true]

/-! ## The close (R173, R174) -/

theorem State.closeFrame_nil (s : State) (escape damaged : Bool) :
    s.closeFrame [] escape damaged = s.setReceiver (.collect [] false false) := by
  simp only [State.closeFrame, if_true]

theorem State.closeFrame_short (hn : bytes ≠ [])
    (hs : escape = true ∨ bytes.length < 2 ∨ bytes.length < 2 + claimedLength bytes + 2) :
    s.closeFrame bytes escape damaged = (s.setReceiver (.collect [] false false)).rejectFrame .truncated :=
  (if_neg hn).trans (if_pos hs)

/-- A frame that is whole is judged by its damage and its check. -/
theorem State.closeFrame_whole (h2 : 2 ≤ bytes.length) (hl : 2 + claimedLength bytes + 2 ≤ bytes.length) :
    s.closeFrame bytes false damaged =
      if damaged = true then (s.setReceiver (.collect [] false false)).rejectFrame .checkBad
      else (completeFrame bytes).elim ((s.setReceiver (.collect [] false false)).rejectFrame .checkBad) fun f =>
        (s.setReceiver (.collect [] false false)).enqueue f := by
  have some : bytes ≠ [] := by rintro rfl; exact absurd h2 (by decide)
  have whole : ¬ (false = true ∨ bytes.length < 2 ∨ bytes.length < 2 + claimedLength bytes + 2) := by
    simp only [Bool.false_eq_true, false_or]; omega
  rw [State.closeFrame, if_neg some, if_neg whole]
  cases completeFrame bytes <;> rfl

theorem completeFrame_badCheck (h : natOf (bytes.drop (bytes.length - 2)) ≠ checkSum (bytes.take (bytes.length - 2))) :
    completeFrame bytes = none := if_neg h

theorem completeFrame_goodCheck (h : natOf (bytes.drop (bytes.length - 2)) = checkSum (bytes.take (bytes.length - 2))) :
    completeFrame bytes = Frame.ofBody ((bytes.take (bytes.length - 2)).drop 2) := if_pos h

end

/-- A rejection forms its REJECT frame where fewer than four wait, is counted, and raises LINK_REJECT (R173, R176). -/
theorem State.rejectFrame_eq (why : RejectReason) (s : State) :
    let sent : State := if (s.link.tx.filter TxFrame.isReject).length < 4 then s.send (.reject why) else s
    s.rejectFrame why = ({ sent with cu := { s.cu with counters := { s.cu.counters with
      linkRejects := s.cu.counters.linkRejects + 1 } } } : State).raise (.linkReject why) := by
  by_cases h : (s.link.tx.filter TxFrame.isReject).length < 4
  · simp only [State.rejectFrame, if_pos h, State.send_cu]
  · simp only [State.rejectFrame, if_neg h]

/-- Settles O50: the character decides between marker, escape and byte; the gathered bytes decide at each byte and at the close. -/
theorem receiverByCharacter : Obligations.ReceiverByCharacter := by
  refine ⟨fun _ _ => rfl, fun s c low h => congrArg Host.Outcome.next (State.receiveCharacter_hunt h c low),
    State.rejectFrame_eq, fun s bytes escape damaged low h => ?_⟩
  intro now bad
  refine ⟨congrArg Host.Outcome.next (State.receiveCharacter_escape h low),
    fun c h4 h5 => congrArg Host.Outcome.next (State.receiveCharacter_byte h h4 h5 low), ?_⟩
  intro length opened check covered closed
  have close : closed = .next (s.closeFrame bytes escape bad) := congrArg Host.Outcome.next (State.receiveCharacter_marker h low)
  refine ⟨fun hn => ?_, fun hn hs => close.trans (congrArg Host.Outcome.next (State.closeFrame_short hn hs)),
    fun he h2 hl => ⟨fun hb => ?_, fun k t d p hb hc hd => ?_⟩⟩
  · subst hn
    exact close.trans (congrArg Host.Outcome.next (State.closeFrame_nil s escape bad))
  · subst he
    rw [close, State.closeFrame_whole h2 hl]
    refine congrArg Host.Outcome.next ?_
    by_cases hbad : bad = true
    · exact if_pos hbad
    · rw [if_neg hbad, completeFrame_badCheck (hb.resolve_left hbad)]
      rfl
  · subst he
    rw [close, State.closeFrame_whole h2 hl, if_neg (by simp [hb]), completeFrame_goodCheck hc, hd]
    rfl

/-! ## A byte gathered within the bounds (R172, R173) -/

section
variable {s : State} {bytes : List Byte} {b : Byte} {damaged : Bool}

/-- A byte within the bounds is gathered. -/
theorem State.gather_of_bounded (h : (Receiver.collect (bytes ++ [b]) false damaged).bounded) :
    s.gather bytes damaged b = s.setReceiver (.collect (bytes ++ [b]) false damaged) := by
  simp only [Receiver.bounded] at h
  unfold State.gather
  dsimp only
  rw [if_neg (by omega), if_neg (by omega), if_neg (by omega)]

/-- Once both length bytes are there, a further byte leaves the length. -/
theorem claimedLength_append (h : 2 ≤ bytes.length) (l : List Byte) : claimedLength (bytes ++ l) = claimedLength bytes := by
  rw [claimedLength, List.take_append_of_le_length h, claimedLength]

theorem State.gather_setReceiver (r : Receiver) : (s.setReceiver r).gather bytes damaged b = s.gather bytes damaged b := rfl

end

/-- The body of a frame of at most 1,031 bytes is a request's (R173, R175). -/
theorem completeFrame_fits {bytes : List Byte} {f : Frame} (h : completeFrame bytes = some f) (hb : bytes.length ≤ 1031) :
    f.fits := by
  unfold completeFrame at h
  dsimp only at h
  split at h
  · unfold Frame.ofBody at h
    split at h
    · rename_i body
      have length := congrArg List.length body
      simp only [List.length_drop, List.length_take, List.length_cons] at length
      obtain rfl := Option.some.inj h
      unfold Frame.fits
      dsimp only
      omega
    · cases h
  · cases h

/-! ## A frame on the wire -/

/-- Characters received one after another, each with a good stop bit. -/
def State.receiveAll (l : List Byte) (s : State) : State := l.foldl (fun t b => t.receiveCharacter b false) s

theorem State.receiveAll_cons (b : Byte) (l : List Byte) (s : State) :
    s.receiveAll (b :: l) = (s.receiveCharacter b false).receiveAll l := rfl

theorem State.receiveAll_append (l m : List Byte) (s : State) : s.receiveAll (l ++ m) = (s.receiveAll l).receiveAll m :=
  List.foldl_append

/-- A run of commands that each end in the next state ends in the last. -/
theorem foldl_next {σ φ ρ α : Type} {g : Host.Outcome σ φ ρ → α → Host.Outcome σ φ ρ} {f : σ → α → σ}
    (h : ∀ t a, g (.next t) a = .next (f t a)) (l : List α) (s : σ) : l.foldl g (.next s) = .next (l.foldl f s) := by
  induction l generalizing s with
  | nil => rfl
  | cons a l ih => rw [List.foldl_cons, h, ih, List.foldl_cons]

section
variable {s : State} {bytes : List Byte}

/-- A byte put on the wire is gathered, escaped or not (R172). -/
theorem State.receiveAll_escapeByte (h : s.link.receiver = .collect bytes false false) (b : Byte) :
    s.receiveAll (escapeByte b) = s.gather bytes false b := by
  have escaped (c : Byte) (h4 : c ≠ 0xF4) (h5 : c ≠ 0xF5) (hv : unescape true c = b)
      (hd : (true && c != 0xE5 && c != 0xE4) = false) : s.receiveAll [0xF4, c] = s.gather bytes false b := by
    have waits : s.receiveCharacter 0xF4 false = s.setReceiver (.collect bytes true false) := State.receiveCharacter_escape h false
    rw [State.receiveAll_cons, waits]
    refine (State.receiveCharacter_byte (s := s.setReceiver (.collect bytes true false)) rfl h4 h5 false).trans ?_
    rw [hd, hv]
    rfl
  unfold escapeByte
  split
  · subst b; exact escaped 0xE5 (by decide) (by decide) rfl rfl
  · split
    · subst b; exact escaped 0xE4 (by decide) (by decide) rfl rfl
    · rename_i h5 h4
      refine (State.receiveCharacter_byte h h4 h5 false).trans ?_
      simp [unescape]

/-- Bytes that stay in the bounds are gathered one after another. -/
theorem State.receiveAll_escaped (rest : List Byte)
    (hb : ∀ n, (Receiver.collect ((bytes ++ rest).take n) false false).bounded)
    (h : s.link.receiver = .collect bytes false false) :
    s.receiveAll (rest.flatMap escapeByte) = s.setReceiver (.collect (bytes ++ rest) false false) := by
  induction rest generalizing s bytes with
  | nil =>
    rw [List.append_nil, ← h]
    rfl
  | cons b rest ih =>
    have split : bytes ++ b :: rest = (bytes ++ [b]) ++ rest := List.append_cons ..
    rw [split] at hb ⊢
    have next : (Receiver.collect (bytes ++ [b]) false false).bounded := by
      have := hb (bytes ++ [b]).length
      rwa [List.take_left] at this
    rw [List.flatMap_cons, State.receiveAll_append, State.receiveAll_escapeByte h, State.gather_of_bounded next, ih hb rfl]
    rfl

/-- Two bytes spell the number that they were formed from. -/
theorem natOf_bytesOf_two {n : Nat} (h : n < 65536) : natOf (bytesOf 2 n) = n := by
  show natOf [BitVec.ofNat 8 (n / 256 ^ 1), BitVec.ofNat 8 (n / 256 ^ 0)] = n
  rw [natOf_pair, BitVec.toNat_ofNat, BitVec.toNat_ofNat]
  omega

theorem checkSum_lt (l : List Byte) : checkSum l < 65536 := Nat.mod_lt _ (by decide)

variable {body : List Byte}

theorem unescaped_length (body : List Byte) : (unescaped body).length = body.length + 4 := by
  simp only [unescaped, List.length_append, bytesOf_length]
  omega

theorem unescaped_claimedLength (h : body.length < 65536) : claimedLength (unescaped body) = body.length := by
  rw [claimedLength, unescaped, List.append_assoc, List.take_left' (bytesOf_length 2 _), natOf_bytesOf_two h]

/-- A frame of a body of 3 to 1,027 bytes never leaves the bounds (R172, R173). -/
theorem unescaped_bounded (h3 : 3 ≤ body.length) (h1027 : body.length ≤ 1027) (n : Nat) :
    (Receiver.collect ((unescaped body).take n) false false).bounded := by
  intro h2
  have taken : 2 ≤ n := (List.length_take_le ..).trans' h2
  have claimed : claimedLength ((unescaped body).take n) = body.length := by
    rw [claimedLength, List.take_take, Nat.min_eq_left taken]
    exact unescaped_claimedLength (by omega)
  have length := unescaped_length body
  rw [claimed, List.length_take]
  omega

/-- The bytes of a frame spell the frame (R172, R173, R175). -/
theorem completeFrame_unescaped (f : Frame) : completeFrame (unescaped f.body) = some f := by
  have checked : (unescaped f.body).length - 2 = (bytesOf 2 f.body.length ++ f.body).length := by
    simp only [unescaped_length, List.length_append, bytesOf_length]
    omega
  have covered : (unescaped f.body).take ((unescaped f.body).length - 2) = bytesOf 2 f.body.length ++ f.body := by
    rw [checked, unescaped, List.take_left]
  have check : (unescaped f.body).drop ((unescaped f.body).length - 2) =
      bytesOf 2 (checkSum (bytesOf 2 f.body.length ++ f.body)) := by
    rw [checked, unescaped, List.drop_left]
  rw [completeFrame_goodCheck (by rw [covered, check, natOf_bytesOf_two (checkSum_lt _)]), covered,
    List.drop_left' (bytesOf_length 2 _)]
  rfl

end

/-- A frame that is put on the wire joins a receive queue that has room (R172 to R174). -/
theorem State.receiveAll_wire {s : State} {f : Frame} (hf : f.payload.length ≤ 1024) (hh : s.link.receiver = .hunt)
    (hr : s.link.rx.length < 4) :
    s.receiveAll (wire f.body) =
      { s with link := { s.link with receiver := .collect [] false false, rx := s.link.rx ++ [f] } } := by
  have body : f.body.length = f.payload.length + 3 := rfl
  have length := unescaped_length f.body
  have claimed := unescaped_claimedLength (body := f.body) (by omega)
  have opened : s.receiveCharacter 0xF5 false = s.setReceiver (.collect [] false false) :=
    (State.receiveCharacter_hunt hh _ _).trans (if_pos ⟨rfl, rfl⟩)
  have gathered := State.receiveAll_escaped (s := s.setReceiver (.collect [] false false)) (unescaped f.body)
    (unescaped_bounded (by omega) (by omega)) rfl
  have closed := State.receiveCharacter_marker (s := s.setReceiver (.collect (unescaped f.body) false false)) rfl false
  rw [wire, List.cons_append, State.receiveAll_cons, opened, State.receiveAll_append, gathered]
  refine closed.trans ?_
  rw [State.closeFrame_whole (by omega) (by omega), completeFrame_unescaped]
  exact if_pos hr

/-- A well-formed request command carries at most 1,024 bytes of payload (R175). -/
theorem payload_of_wellFormed {c : Instr} {b : Byte} {r : Request} (hw : c.wellFormed = true)
    (hc : kindAndRequest c = some (b, r)) : r.payload.length ≤ 1024 := by
  cases c with
  | commitNow | commitAt | unknownKindRequest => cases hc; exact of_decide_eq_true (Bool.and_elim_left hw)
  | resetTake | powerOnReset | frameClose | frameTransmitDone | frameBoundary | frameComputationComplete | pageClearComplete
  | inputSlotReceived | rateMeasurementComplete | rateMeasurementLoss | clockLost | trackerTimeout | characterReceived => cases hc
  | _ => cases hc; exact of_decide_eq_true hw

/-- Settles O51: every byte of the frame is escaped, received and gathered within the bounds, and the frame spells its command. -/
theorem wireRoundTrip : Obligations.WireRoundTrip := by
  intro c f s hw hf hh hr
  obtain ⟨⟨b, r⟩, hc, rfl⟩ := Option.map_eq_some_iff.mp hf
  refine ⟨(foldl_next (fun _ _ => rfl) _ s).trans ?_, decodeFrame_encodeFrame c hw _ hf⟩
  exact congrArg Host.Outcome.next (State.receiveAll_wire (payload_of_wellFormed hw hc) hh hr)

/-! ## The bounds (R173, R174, R176) -/

namespace Link.Bounded
variable {l m : Link}

/-- Frames that are no REJECT leave the bounds of a link alone. -/
theorem of_sent (h : l.Bounded) (hx : m.tx.filter TxFrame.isReject = l.tx.filter TxFrame.isReject)
    (hr : m.rx.Sublist l.rx) (hc : m.receiver = l.receiver) : m.Bounded where
  requests := hr.length_le.trans h.requests
  rejects := hx ▸ h.rejects
  frames f hf := h.frames f (hr.subset hf)
  receiver := hc ▸ h.receiver

theorem of_alerted (h : l.Bounded) (ha : l.AlertedTo m) : m.Bounded := by
  obtain ⟨alerts, rfl | ⟨items, rfl⟩, rfl⟩ := ha
  · exact h.of_sent (by simp) (List.Sublist.refl _) rfl
  · exact h.of_sent (by simp [TxFrame.isReject]) (List.Sublist.refl _) rfl

theorem of_answers {s t : State} {b tag : Byte} {st : Status} {q : List Byte} {alerts : List TxFrame} (h : s.link.Bounded)
    (ha : s.Answers b tag t st q alerts) : t.link.Bounded := by
  have quiet : alerts.filter TxFrame.isReject = [] := by
    obtain rfl | ⟨items, rfl⟩ := ha.alerted <;> rfl
  have link := ha.link
  refine h.of_sent ?_ (by rw [link]; exact List.tail_sublist _) (by rw [link])
  obtain sent | sent := ha.sent <;> rw [sent] <;> simp [TxFrame.isReject, quiet]

theorem withReceiver (h : l.Bounded) {r : Receiver} (hr : r.bounded) : Link.Bounded { l with receiver := r } :=
  ⟨h.requests, h.rejects, h.frames, hr⟩

variable {s : State} {bytes : List Byte}

/-- A REJECT frame joins only where fewer than four wait (R176). -/
theorem rejectFrame (h : s.link.Bounded) (w : RejectReason) : (s.rejectFrame w).link.Bounded := by
  have sent : ((if (s.link.tx.filter TxFrame.isReject).length < 4 then s.send (.reject w) else s) : State).link.Bounded := by
    split
    · rename_i room
      refine ⟨h.requests, ?_, h.frames, h.receiver⟩
      simp only [State.send_link, List.filter_append, List.length_append]
      exact room
    · exact h
  exact sent.of_alerted (State.Announces.of_later (.raise _ _) rfl).alerted

/-- A gathered byte meets the tests of the length (R173). -/
theorem gather (h : s.link.Bounded) (hb : ∀ e d, (Receiver.collect bytes e d).bounded) (damaged : Bool) (b : Byte) :
    (s.gather bytes damaged b).link.Bounded := by
  have hunt (w : RejectReason) : ((s.setReceiver .hunt).rejectFrame w).link.Bounded :=
    rejectFrame (s := s.setReceiver .hunt) (h.withReceiver trivial) w
  unfold State.gather
  dsimp only
  (repeat' split)
  · exact hunt _
  · exact hunt _
  · exact hunt _
  · rename_i tooLong tooShort beyond
    refine h.withReceiver fun h2 => ?_
    simp only [List.length_append, List.length_singleton] at *
    by_cases hl : 2 ≤ bytes.length
    · have inside := hb false false hl
      rw [claimedLength_append hl] at beyond ⊢
      omega
    · omega

/-- A complete frame joins only where fewer than four requests wait (R174). -/
theorem enqueue (h : s.link.Bounded) {f : Frame} (hf : f.fits) : (s.enqueue f).link.Bounded := by
  unfold State.enqueue
  split
  · rename_i room
    refine ⟨?_, h.rejects, fun g hg => ?_, h.receiver⟩
    · simpa using room
    · obtain hg | hg := List.mem_append.mp hg
      · exact h.frames g hg
      · exact List.mem_singleton.mp hg ▸ hf
  · exact h.rejectFrame _

/-- A frame that closes had its length tested (R173). -/
theorem closeFrame (h : s.link.Bounded) (hb : ∀ e d, (Receiver.collect bytes e d).bounded) (escape damaged : Bool) :
    (s.closeFrame bytes escape damaged).link.Bounded := by
  have opened : (s.setReceiver (.collect [] false false)).link.Bounded := h.withReceiver nofun
  by_cases hn : bytes = []
  · subst hn
    rw [State.closeFrame_nil]
    exact opened
  by_cases hs : escape = true ∨ bytes.length < 2 ∨ bytes.length < 2 + claimedLength bytes + 2
  · rw [State.closeFrame_short hn hs]
    exact opened.rejectFrame _
  · simp only [not_or, Bool.not_eq_true, Nat.not_lt] at hs
    obtain ⟨rfl, h2, hl⟩ := hs
    have inside := hb false false h2
    rw [State.closeFrame_whole h2 hl]
    split
    · exact opened.rejectFrame _
    · cases hf : completeFrame bytes with
      | none => exact opened.rejectFrame _
      | some f => exact opened.enqueue (completeFrame_fits hf (by omega))

/-- A character keeps the bounds of the receiver and of both queues (R172 to R174). -/
theorem receiveCharacter (h : s.link.Bounded) (c : Byte) (low : Bool) : (s.receiveCharacter c low).link.Bounded := by
  cases hr : s.link.receiver with
  | hunt =>
    rw [State.receiveCharacter_hunt hr]
    split
    · exact h.withReceiver nofun
    · exact h
  | collect bytes escape damaged =>
    have hb (e d : Bool) : (Receiver.collect bytes e d).bounded := by
      have inside := h.receiver
      rw [hr] at inside
      exact inside
    by_cases h5 : c = 0xF5
    · subst h5
      rw [State.receiveCharacter_marker hr]
      exact h.closeFrame hb _ _
    · by_cases h4 : c = 0xF4
      · subst h4
        rw [State.receiveCharacter_escape hr]
        exact h.withReceiver (hb _ _)
      · rw [State.receiveCharacter_byte hr h4 h5]
        exact h.gather hb _ _

/-- The events (R171 to R174, R176): a reset, a character, a frame sent, and those that reach the link through the alert test. -/
theorem event {c : Instr} {t : State} (hc : kindAndRequest c = none) (h : s.link.Bounded) (ht : exec c s = .next t) :
    t.link.Bounded := by
  have announced (ha : s.Announces t) : t.link.Bounded := h.of_alerted ha.alerted
  cases c with
  | resetTake =>
    obtain rfl := Host.Outcome.next.inj ht
    split
    · exact State.reset_linkBounded
    · exact h
  | powerOnReset => obtain rfl := Host.Outcome.next.inj ht; exact State.reset_linkBounded
  | frameClose low => obtain rfl := Host.Outcome.next.inj ht; exact h.receiveCharacter _ _
  | characterReceived b low => obtain rfl := Host.Outcome.next.inj ht; exact h.receiveCharacter _ _
  | frameTransmitDone =>
    obtain rfl := Host.Outcome.next.inj ht
    split
    · exact h
    · split
      · exact h
      · rename_i f rest htx
        have fewer : (rest.filter TxFrame.isReject).Sublist (s.link.tx.filter TxFrame.isReject) :=
          (htx ▸ List.sublist_cons_self f rest).filter _
        exact ⟨h.requests, fewer.length_le.trans h.rejects, h.frames, h.receiver⟩
  | frameBoundary => exact announced (.frameBoundary ht)
  | frameComputationComplete l =>
    obtain rfl := Host.Outcome.next.inj ht
    exact announced (.completeComputation l s)
  | pageClearComplete => exact announced (.pageClear ht)
  | inputSlotReceived => exact announced (.input ht)
  | rateMeasurementComplete => exact announced (.measured ht)
  | rateMeasurementLoss =>
    obtain rfl := Host.Outcome.next.inj ht
    split <;> exact h
  | clockLost => exact announced (.clockLost ht)
  | trackerTimeout =>
    obtain rfl := Host.Outcome.next.inj ht
    split <;> exact h
  | _ => cases hc

/-- Every command keeps the bounds of the link. -/
theorem exec {c : Instr} {t : State} (h : s.link.Bounded) (ht : exec c s = .next t) : t.link.Bounded := by
  obtain ⟨k, r, he⟩ | ⟨b, r, rfl⟩ | hc := exec_cases c s
  · obtain rfl := Host.Outcome.next.inj (he.symm.trans ht)
    by_cases hk : s.link.canTake (requestFrame k.code r)
    · obtain ⟨_, _, _, answered⟩ := State.take_answers k r hk
      exact h.of_answers answered
    · rw [State.take_of_not_canTake _ hk]
      exact h
  · obtain he | he := exec_unknownKind_cases b r s <;> obtain rfl := Host.Outcome.next.inj (he.symm.trans ht)
    · exact h
    · exact h.of_answers (s.answers_refused b r.tag .unknownKind)
  · exact event hc h ht

end Link.Bounded

/-- Settles O7: a frame joins a queue only where there is room for it, a byte only within the length, and all else sends no REJECT. -/
theorem linkStaysBounded : Obligations.LinkStaysBounded := by
  intro s t h ht
  cases hp : s.pending with
  | nil =>
    rw [stepRunsTheFrontCommand.2 s hp] at ht
    cases ht
    exact h
  | cons c rest =>
    rw [stepRunsTheFrontCommand.1 c rest s hp] at ht
    exact Link.Bounded.exec (s := { s with pending := rest }) h ht

end Sys2Proof.Machine
end

section
/-! SUPPORT. The condition records and the alert test (R179, R180), and the reporting requests (R181 to R186). -/

namespace Sys2Proof.Machine

/-! ## The alert test -/

/-- The ALERT lists the announceable conditions in ascending code order (R180). -/
theorem CondUnit.announcements_eq (u : CondUnit) :
    u.announcements = ((List.finRange 15).filter fun i : Fin 15 => (u.conditions[i]).announceable).filterMap fun i : Fin 15 =>
      (u.conditions[i]).first := by
  rw [CondUnit.announcements, toList_eq_map_finRange, List.filter_map, List.filterMap_map]
  rfl

section
variable {s : State}

/-- With the latch set, or nothing announceable, the alert test does nothing (R180). -/
theorem State.alertTest_of_quiet (h : s.cu.latch = true ∨ ∀ i : Fin 15, (s.cu.conditions[i]).announceable = false) :
    s.alertTest = s := by
  obtain ⟨he, -⟩ | ⟨hl, ⟨c, hc, ha⟩, -⟩ := s.alertTest_cases
  · exact he
  · obtain h | h := h
    · exact absurd (hl.symm.trans h) Bool.false_ne_true
    · have quiet := (forall_mem_toList s.cu.conditions fun c => c.announceable = false).mpr h c hc
      exact absurd (quiet.symm.trans ha) Bool.false_ne_true

/-- With the latch clear and a condition announceable, the alert test forms its ALERT (R180). -/
theorem State.alertTest_of_announceable (hl : s.cu.latch = false) {j : Fin 15} (hj : (s.cu.conditions[j]).announceable = true) :
    s.alertTest = State.send (.alert s.cu.announcements)
      { s with cu := { s.cu with conditions := mapIx (fun _ c => c.announce) s.cu.conditions, latch := true } } := by
  obtain ⟨-, h⟩ | ⟨-, -, he⟩ := s.alertTest_cases
  · obtain h | h := h
    · exact absurd (hl.symm.trans h) Bool.false_ne_true
    · have quiet := (forall_mem_toList s.cu.conditions fun c => c.announceable = false).mp h j
      exact absurd (quiet.symm.trans hj) Bool.false_ne_true
  · exact he

end

/-- Settles O19: the record of the condition is written by its flags, and the alert test does nothing or forms its one ALERT. -/
theorem conditionsAreRaisedAndAnnounced : Obligations.ConditionsAreRaisedAndAnnounced := by
  refine ⟨fun n d s i => ?_, fun s => State.alertTest_of_quiet, fun s j hl hj => ?_, fun d s => rfl⟩
  · dsimp only
    rw [State.post_condition]
    by_cases hi : d.code = i
    · rw [if_pos hi, if_neg (not_not.mpr hi.symm)]
      rfl
    · rw [if_neg hi, if_pos (Ne.symm hi)]
  · rw [State.alertTest_of_announceable hl hj]
    exact ⟨rfl, by rw [← CondUnit.announcements_eq]; rfl, fun i => mapIx_get _ _ i⟩

/-! ## The probe (R183, R185) -/

/-- OFF is named by the kind byte alone, every other point by both bytes (R183). -/
theorem pointOf_bytes {kind ix : Byte} {point : Point}
    (h : kind = 0 ∧ point = .off ∨ kind ≠ 0 ∧ [kind, ix] = point.bytes) : pointOf kind ix = .ok point := by
  have named {c n : Byte} (hb : [kind, ix] = [c, n]) : kind = c ∧ ix = n := by simpa using hb
  obtain ⟨rfl, rfl⟩ | ⟨h0, hb⟩ := h
  · rfl
  · cases point with
    | off => exact absurd (List.cons.inj hb).1 h0
    | tap t =>
      obtain ⟨rfl, rfl⟩ := named hb
      rw [pointOf, index_byteOf (by decide)]
      rfl
    | line k =>
      obtain ⟨rfl, rfl⟩ := named hb
      rw [pointOf, index_byteOf (n := 64) (by decide)]
      rfl
    | bus b =>
      obtain ⟨rfl, rfl⟩ := named hb
      rw [pointOf, index_byteOf (n := 16) (by decide)]
      rfl

/-- A kind above 3 is a bad value, an index beyond its table a bad index (R183). -/
theorem pointOf_refused {kind ix : Byte} (h : 3 < kind.toNat ∨ kind = 2 ∧ 63 < ix.toNat ∨ kind = 3 ∧ 15 < ix.toNat) :
    pointOf kind ix = .error (if 3 < kind.toNat then .badValue else .badIndex) := by
  obtain h | ⟨rfl, h⟩ | ⟨rfl, h⟩ := h
  · have other (n : Byte) (hn : n.toNat ≤ 3) : kind ≠ n := by rintro rfl; omega
    rw [if_pos h, pointOf, if_neg (other 0 (by decide)), if_neg (other 1 (by decide)), if_neg (other 2 (by decide)),
      if_neg (other 3 (by decide))]
  · rw [pointOf, index_none (n := 64) (by omega)]; rfl
  · rw [pointOf, index_none (n := 16) (by omega)]; rfl

/-- The status says whether the trip level was clamped (R183). -/
theorem okStatus_decide_ne (m n : Nat) : okStatus (decide (m ≠ n)) = if m = n then .ok else .okClamped := by
  by_cases h : m = n <;> simp [okStatus, h]

/-! ## The reporting requests -/

/-- Settles O49: the owner of each request decodes its payload, writes the Condition Unit, and answers. -/
theorem reportingRequests : Obligations.ReportingRequests := by
  refine fun r s => ⟨fun m1 m0 h hp => ?_, fun h hp hl => ?_, fun h hp hl => ?_, fun kind ix v3 v2 v1 v0 h hp => ⟨fun hb => ?_,
    fun point hpt => ?_⟩, fun h hp => ?_, fun v h hp => ⟨fun h0 h1 => ?_, fun hv => ?_⟩⟩ <;> refine congrArg Host.Outcome.next ?_
  · rw [State.take_of_applies _ h (by rw [hp]; rfl), hp]
    rfl
  · refine State.take_done h (by rw [hp]; rfl) ?_ rfl
    rw [ownAlertRelease, State.accepted_cu, if_pos hl]
  · rw [State.take_of_applies _ h (by rw [hp]; rfl), ownAlertRelease, State.accepted_cu, if_neg (by rw [hl]; decide)]
    have released : Condition.release = fun c => if c.reported = false then c
        else if c.again = true then { c with reported := false, again := false, first := c.latest }
        else { c with pending := false, reported := false } := by
      funext c
      unfold Condition.release
      cases c.reported <;> rfl
    rw [released]
    rfl
  · refine State.take_refused h (by rw [hp]; rfl) ?_
    simp only [hp, ownProbeSet, pointOf_refused hb]
  · refine State.take_done h (by rw [hp]; rfl) ?_ rfl
    simp only [hp, ownProbeSet, pointOf_bytes hpt, okStatus_decide_ne]
    rfl
  · refine State.take_done h (by rw [hp]; rfl) (congrArg (Verdict.done _ .ok) ?_) rfl
    show probePayload s.cu.probe = _
    unfold probePayload
    cases s.cu.probe.snapshot <;> rfl
  · exact State.take_refused h (by rw [hp]; rfl) (by rw [hp, ownCountersGet, flagOf_none h0 h1])
  · refine State.take_done h (by rw [hp]; rfl) ?_ rfl
    obtain rfl | rfl := hv
    · rw [hp]; rfl
    · rw [hp]; rfl

end Sys2Proof.Machine
end

section
/-! SUPPORT. The condition records and the alert latch stay consistent (R179 to R181): one record, the alert test, every operation that
raises a condition, every command. Where a hypothesis stands as `(by exact h)`, the goal fixes the state first: the operation starts from a
state that differs from that of `h` outside the Condition Unit. -/

namespace Sys2Proof.Machine

/-! ## One record -/

namespace Condition.Ordered
variable {i : Fin 15} {c : Condition}

/-- A raised condition is pending with a detail of its own, and marked again only where it was reported (R179). -/
theorem record (h : c.Ordered i) {o : Occurrence} (ho : o.detail.code = i) : (c.record o).Ordered i := by
  unfold Condition.record
  split
  · rename_i hr
    exact ⟨h.reported, fun _ => hr, fun hp => ⟨(h.present hp).1, rfl⟩, h.first, fun _ he => Option.some.inj he ▸ ho⟩
  · split
    · exact ⟨h.reported, h.again, fun hp => ⟨(h.present hp).1, rfl⟩, h.first, fun _ he => Option.some.inj he ▸ ho⟩
    · exact ⟨fun _ => rfl, h.again, fun _ => ⟨rfl, rfl⟩, fun _ he => Option.some.inj he ▸ ho, fun _ he => Option.some.inj he ▸ ho⟩

/-- An announced condition was pending (R180). -/
theorem announce (h : c.Ordered i) : c.announce.Ordered i := by
  unfold Condition.announce
  split
  · rename_i ha
    have hp : c.pending = true := by
      simp only [Condition.announceable, Bool.and_eq_true] at ha
      obtain ⟨⟨-, hp⟩, -⟩ := ha
      exact hp
    exact ⟨fun _ => hp, fun _ => rfl, h.present, h.first, h.latest⟩
  · exact h

/-- A released condition that came again is pending with its latest detail (R181). -/
theorem release (h : c.Ordered i) : c.release.Ordered i := by
  unfold Condition.release
  split
  · split
    ·       exact ⟨nofun, nofun, fun hp => ⟨(h.present hp).2, (h.present hp).2⟩, h.latest, h.latest⟩
    · rename_i ha
      exact ⟨nofun, fun hg => absurd hg ha, nofun, h.first, h.latest⟩
  · exact h

theorem enable (h : c.Ordered i) (b : Bool) : Condition.Ordered i { c with enabled := b } :=
  ⟨h.reported, h.again, h.present, h.first, h.latest⟩

end Condition.Ordered

theorem Condition.record_reported (o : Occurrence) (c : Condition) : (c.record o).reported = c.reported := by
  unfold Condition.record
  (repeat' split) <;> rfl

theorem Condition.announce_reported (c : Condition) : c.announce.reported = (c.reported || c.announceable) := by
  unfold Condition.announce
  split
  · rename_i h; simp [h]
  · rename_i h; simp [h]

theorem Condition.release_reported (c : Condition) : c.release.reported = false := by
  unfold Condition.release
  (repeat' split)
  · rfl
  · rfl
  · rename_i hr; exact Bool.eq_false_iff.mpr hr

/-! ## Before the alert test -/

/-- The records and the latch where the alert test has still to be made: a condition announceable may wait though the latch is clear. -/
structure CondUnit.Untested (u : CondUnit) : Prop where
  ordered : ∀ i : Fin 15, (u.conditions[i]).Ordered i
  clear   : u.latch = false → ∀ i : Fin 15, (u.conditions[i]).reported = false
  set     : u.latch = true → ∃ i : Fin 15, (u.conditions[i]).reported = true

/-- Consistency is untested consistency with nothing announceable behind a clear latch. -/
theorem CondUnit.consistent_iff {u : CondUnit} :
    u.Consistent ↔ u.Untested ∧ (u.latch = false → ∀ i : Fin 15, (u.conditions[i]).announceable = false) :=
  ⟨fun h => ⟨⟨h.ordered, fun hl i => (h.clear hl i).1, h.set⟩, fun hl i => (h.clear hl i).2⟩,
    fun ⟨h, ha⟩ => ⟨h.ordered, fun hl i => ⟨h.clear hl i, ha hl i⟩, h.set⟩⟩

namespace CondUnit.Untested
variable {s : State}

/-- A condition raised leaves what is reported (R179). -/
theorem post (h : s.cu.Untested) (n : Word32) (d : Detail) : (s.post n d).cu.Untested where
  ordered i := by
    rw [State.post_condition]
    split
    · rename_i hi; exact (h.ordered i).record hi
    · exact h.ordered i
  clear hl i := by
    rw [State.post_condition]
    split
    · rw [Condition.record_reported]; exact h.clear hl i
    · exact h.clear hl i
  set hl := by
    obtain ⟨i, hi⟩ := h.set hl
    refine ⟨i, ?_⟩
    rw [State.post_condition]
    split
    · rw [Condition.record_reported]; exact hi
    · exact hi

/-- The alert test announces what is announceable, or there is nothing to announce (R180). -/
theorem alertTest (h : s.cu.Untested) : s.alertTest.cu.Consistent := by
  obtain ⟨he, hq⟩ | ⟨hl, ⟨c, hc, ha⟩, he⟩ := s.alertTest_cases
  · rw [he]
    refine CondUnit.consistent_iff.mpr ⟨h, fun hl => ?_⟩
    obtain hq | hq := hq
    · exact absurd (hl.symm.trans hq) Bool.false_ne_true
    · exact (forall_mem_toList s.cu.conditions fun c => c.announceable = false).mp hq
  · obtain ⟨i, hi, rfl⟩ := List.mem_iff_getElem.mp hc
    rw [he]
    refine ⟨fun j => ?_, nofun, fun _ => ⟨⟨i, by simpa using hi⟩, ?_⟩⟩
    · show ((mapIx (fun _ => Condition.announce) s.cu.conditions)[j]).Ordered j
      rw [mapIx_get]
      exact (h.ordered j).announce
    · show ((mapIx (fun _ => Condition.announce) s.cu.conditions)[(⟨i, by simpa using hi⟩ : Fin 15)]).reported = true
      rw [mapIx_get, Condition.announce_reported, Bool.or_eq_true]
      exact .inr (by simpa using ha)

end CondUnit.Untested

namespace CondUnit.Consistent

/-- The records and the latch alone are what consistency is about. -/
theorem of_eq {u v : CondUnit} (h : u.Consistent) (hc : v.conditions = u.conditions) (hl : v.latch = u.latch) : v.Consistent where
  ordered := hc ▸ h.ordered
  clear := hc ▸ hl ▸ h.clear
  set := hc ▸ hl ▸ h.set

variable {s t : State}

theorem untested {u : CondUnit} (h : u.Consistent) : u.Untested := (CondUnit.consistent_iff.mp h).1

theorem of_cu (h : s.cu.Consistent) (he : t.cu = s.cu) : t.cu.Consistent := he ▸ h

theorem of_told (h : s.cu.Consistent) (he : t.told = s.told) : t.cu.Consistent := by
  obtain ⟨hc, hl, -⟩ := State.told_inj he
  exact h.of_eq hc hl

theorem foldl {α : Type} {f : State → α → State} (h : s.cu.Consistent)
    (hf : ∀ (u : State) (a : α), u.cu.Consistent → (f u a).cu.Consistent) (l : List α) : (l.foldl f s).cu.Consistent :=
  List.foldlRecOn (motive := fun u : State => u.cu.Consistent) l f h fun u hu a _ => hf u a hu

/-! ## Conditions and halts -/

theorem raiseAt (h : s.cu.Consistent) (n : Word32) (d : Detail) : (s.raiseAt n d).cu.Consistent :=
  (h.untested.post n d).alertTest

theorem raise (h : s.cu.Consistent) (d : Detail) : (s.raise d).cu.Consistent := h.raiseAt _ d

theorem haltCause (h : s.cu.Consistent) (n : Word32) (w : HaltReason) : (s.haltCause n w).cu.Consistent := by
  obtain ⟨he, -⟩ | ⟨-, -, he⟩ | ⟨-, he⟩ := s.haltCause_cases n w <;> rw [he]
  · exact h
  · exact raiseAt (by exact h) _ _
  · exact raiseAt (by exact h) _ _

theorem clockBack (h : s.cu.Consistent) : s.clockBack.cu.Consistent := by
  unfold State.clockBack
  split
  · exact raise (by exact h) _
  · exact h

/-! ## Lines and pages -/

theorem serveUpTo (h : s.cu.Consistent) (n : Nat) : (serveUpTo n s).cu.Consistent := by
  induction n generalizing s with
  | zero => exact h
  | succ n ih =>
    unfold Machine.serveUpTo
    (repeat' split)
    · exact h
    · exact ih (raise (by exact h) _)
    · exact h

theorem serveWaitList (h : s.cu.Consistent) : s.serveWaitList.cu.Consistent := h.serveUpTo _

theorem closeWaiting (h : s.cu.Consistent) (k : LineIx) : (s.closeWaiting k).cu.Consistent :=
  (h.of_cu (t := (s.dropWaiting k).completeCloses) (by simp)).serveWaitList

theorem groupClose (h : s.cu.Consistent) (p : Line → Bool) : (s.groupClose p).cu.Consistent := by
  have waiting (l : List LineIx) (u : State) : (l.foldl (fun v k => v.dropWaiting k) u).cu = u.cu :=
    foldl_keeps State.cu _ (fun v k => by simp) l u
  have active (l : List LineIx) (u : State) : (l.foldl (fun v k => v.beginClose k) u).cu = u.cu :=
    foldl_keeps State.cu _ (fun v k => by simp) l u
  exact (h.of_cu (by simp [active, waiting])).serveWaitList

/-! ## Lists -/

theorem applyList (h : s.cu.Consistent) (l : List Entry) : (applyList l s).1.cu.Consistent := by
  have entries (n : Tallied) : (l.foldl handleEntry (s, n)).1.cu = s.cu :=
    foldl_keeps (fun x : State × Tallied => x.1.cu) handleEntry (fun x e => by cases x; simp) l (s, n)
  unfold Machine.applyList
  dsimp only
  split
  · exact h.of_cu (entries _)
  · exact (h.of_cu (entries _)).raise _

theorem applyAction (h : s.cu.Consistent) (a : Action) : (s.applyAction a).cu.Consistent := by
  unfold State.applyAction
  dsimp only
  split
  · exact h.applyList _
  · exact (raise (by exact h.of_eq rfl rfl) _).applyList _

theorem applyDueWork (h : s.cu.Consistent) : s.applyDueWork.cu.Consistent :=
  (foldl (by exact h) (fun _ a hu => hu.applyAction a) _).applyList _

/-! ## The link -/

theorem rejectFrame (h : s.cu.Consistent) (w : RejectReason) : (s.rejectFrame w).cu.Consistent := by
  unfold State.rejectFrame
  dsimp only
  split
  · exact raise (by exact h.of_eq rfl rfl) _
  · exact raise (by exact h.of_eq rfl rfl) _

theorem receiveCharacter (h : s.cu.Consistent) (c : Byte) (low : Bool) : (s.receiveCharacter c low).cu.Consistent := by
  have rejected (r : Receiver) (w : RejectReason) : ((s.setReceiver r).rejectFrame w).cu.Consistent := rejectFrame (by exact h) w
  have gathered (bytes : List Byte) (damaged : Bool) (b : Byte) : (s.gather bytes damaged b).cu.Consistent := by
    unfold State.gather
    dsimp only
    (repeat' split) <;> first | exact rejected _ _ | exact h
  have closed (bytes : List Byte) (escape damaged : Bool) : (s.closeFrame bytes escape damaged).cu.Consistent := by
    unfold State.closeFrame State.enqueue
    dsimp only
    (repeat' split) <;> first | exact rejected _ _ | exact h
  cases hr : s.link.receiver with
  | hunt =>
    rw [State.receiveCharacter_hunt hr]
    split <;> exact h
  | collect bytes escape damaged =>
    by_cases h5 : c = 0xF5
    · subst h5
      rw [State.receiveCharacter_marker hr]
      exact closed _ _ _
    · by_cases h4 : c = 0xF4
      · subst h4
        rw [State.receiveCharacter_escape hr]
        exact h
      · rw [State.receiveCharacter_byte hr h4 h5]
        exact gathered _ _ _

/-! ## The frame -/

/-- The conditions of a completion that have their own alert tests, then the others with one (R104, R179). -/
theorem finish (h : s.cu.Consistent) (c : Computation) : (s.finish c).cu.Consistent := by
  have raised (l : List Detail) : (s.raiseEach c.stamp l).cu.Consistent := h.foldl (fun _ d hu => hu.raiseAt c.stamp d) l
  have posted (l : List Detail) {u : State} (hu : u.cu.Untested) : (u.postEach c.stamp l).cu.Untested :=
    List.foldlRecOn (motive := fun v : State => v.cu.Untested) l _ hu fun _ hv d _ => hv.post c.stamp d
  rw [State.finish_eq]
  exact (posted _ (raised _).untested).alertTest.of_told (State.alertTest_told (s.finishFrom_told c _ _))

theorem completeComputation (h : s.cu.Consistent) (l : List Strike) : (s.completeComputation l).cu.Consistent := by
  unfold State.completeComputation
  dsimp only
  split
  · exact h
  · exact finish (by exact h) _

theorem frameBoundary (h : s.cu.Consistent) (ht : execFrameBoundary s = .next t) : t.cu.Consistent := by
  obtain rfl := Host.Outcome.next.inj ht
  have h1 := h.completeComputation []
  dsimp only
  split <;> split
  · exact applyDueWork (clockBack (by exact h1))
  · exact applyDueWork (clockBack (by exact h1))
  · exact clockBack (by exact h1)
  · exact clockBack (by exact h1)

/-- A cleared page brings LINE_READY and INIT_DONE (R34, R48). -/
theorem pageClear (h : s.cu.Consistent) (ht : execPageClearComplete s = .next t) : t.cu.Consistent := by
  have clean {u : State} (hu : u.cu.Consistent) : u.memoryClean.cu.Consistent := by
    unfold State.memoryClean
    split
    · exact raise (by exact hu) _
    · exact hu
  have scrub {u : State} (hu : u.cu.Consistent) : u.startScrub.cu.Consistent := hu.of_cu (by simp)
  obtain rfl := Host.Outcome.next.inj ht
  split
  · exact h
  · exact clean (scrub (serveWaitList (by exact h)))

/-- A word examined brings CHECK_LOCK alone (R19, R20). -/
theorem input {n : Nat} {w : Word24} {fresh : Bool} (h : s.cu.Consistent) (ht : execInputSlotReceived n w fresh s = .next t) :
    t.cu.Consistent := by
  obtain rfl := Host.Outcome.next.inj ht
  unfold State.checkWord
  dsimp only
  (repeat' split)
  · exact h
  · exact h
  · exact raise (by exact h) _
  · exact h
  · exact h

end CondUnit.Consistent

/-! ## The owners -/

/-- A kind that announces nothing leaves the condition records, the latch and the link (R179, R180). -/
theorem ownerOf_told (k : Kind) (hk : k.announces = false) (b : Bool) (p : List Byte) (s : State) :
    (ownerOf k b p s).Leaves fun t => t.told = s.told := by
  cases k with
  | stop | halt | lineOpen | lineClose | lineReleaseTag | lineReleaseAll | slotClear | commit | condEnable | alertRelease => cases hk
  | status | reset | timeGet | outmapGet | poolGet | tempoGet | schedGet | condGet | checkRead | checkClear | probeGet | discard =>
    rfl
  | init | start | resume | portDrive | portBypass | outmapSet | outmapFill | checkSet | lineSet | lineGet | tapCreate | tapSet
  | tapFill | tapFree | tapGet | modSet | modSync | modGet | tempoSet | beat | slotSet | slotGet | schedCancel
  | probeSet | countersGet =>
    dsimp only [ownerOf, ownInit, ownStart, ownResume, ownPortDrive, ownPortBypass, ownOutmapSet, ownOutmapFill, ownCheckSet,
      ownLineSet, ownLineGet, ownTapCreate, ownTapSet, ownTapFill, ownTapFree, ownTapGet, ownModSet, ownModSync, ownModGet,
      ownTempoSet, ownBeat, ownSlotSet, ownSlotGet, ownSchedCancel, ownProbeSet, ownCountersGet, stageEntry]
    (repeat' split) <;> simp [State.told, State.initBlocks_eq]

namespace CondUnit.Consistent
variable {s t : State}

theorem ownStop (h : s.cu.Consistent) (b : Bool) (p : List Byte) : (ownStop b p s).Leaves fun t => t.cu.Consistent := by
  unfold Machine.ownStop
  dsimp only
  split
  · exact h
  · exact h
  · exact h
  · exact raise (by exact h) _
  · trivial

theorem ownHalt (h : s.cu.Consistent) (b : Bool) (p : List Byte) : (ownHalt b p s).Leaves fun t => t.cu.Consistent := by
  unfold Machine.ownHalt
  split <;> try exact Verdict.leaves_refuse _ _
  all_goals exact h.haltCause _ _

theorem ownLineOpen (h : s.cu.Consistent) (b : Bool) (p : List Byte) : (ownLineOpen b p s).Leaves fun t => t.cu.Consistent := by
  unfold Machine.ownLineOpen
  iterate 4 (split <;> try exact Verdict.leaves_refuse _ _)
  dsimp only
  iterate 3 (split <;> try exact Verdict.leaves_refuse _ _)
  unfold admitLine
  dsimp only
  split
  · exact h
  · exact raise (by exact h) _

theorem ownLineClose (h : s.cu.Consistent) (b : Bool) (p : List Byte) : (ownLineClose b p s).Leaves fun t => t.cu.Consistent := by
  unfold Machine.ownLineClose
  (repeat' split) <;> try exact Verdict.leaves_refuse _ _
  · exact h.closeWaiting _
  · exact h.of_cu (by simp)
  · exact h

theorem ownCommit (h : s.cu.Consistent) (b : Bool) (p : List Byte) : (ownCommit b p s).Leaves fun t => t.cu.Consistent := by
  unfold Machine.ownCommit
  (repeat' split) <;> try exact Verdict.leaves_refuse _ _
  · unfold commitNow
    dsimp only
    (repeat' split)
    · exact h
    · exact h
    · exact applyList (applyList (by exact h) _) _
  · unfold commitAt
    dsimp only
    (repeat' split) <;> try exact Verdict.leaves_refuse _ _
    exact h

theorem ownCondEnable (h : s.cu.Consistent) (b : Bool) (p : List Byte) :
    (ownCondEnable b p s).Leaves fun t => t.cu.Consistent := by
  unfold Machine.ownCondEnable
  split <;> try exact Verdict.leaves_refuse _ _
  refine CondUnit.Untested.alertTest ⟨fun i => ?_, fun hl i => ?_, fun hl => ?_⟩
  · rw [mapIx_get]; exact (h.ordered i).enable _
  · rw [mapIx_get]; exact (h.clear hl i).1
  · obtain ⟨i, hi⟩ := h.set hl
    exact ⟨i, by rw [mapIx_get]; exact hi⟩

theorem ownAlertRelease (h : s.cu.Consistent) (b : Bool) (p : List Byte) :
    (ownAlertRelease b p s).Leaves fun t => t.cu.Consistent := by
  unfold Machine.ownAlertRelease
  split
  · exact h
  · refine CondUnit.Untested.alertTest ⟨fun i => ?_, fun hl i => ?_, nofun⟩
    · rw [mapIx_get]; exact (h.ordered i).release
    · rw [mapIx_get]; exact Condition.release_reported _

theorem owner (h : s.cu.Consistent) (k : Kind) (b : Bool) (p : List Byte) :
    (ownerOf k b p s).Leaves fun t => t.cu.Consistent := by
  cases k with
  | stop => exact h.ownStop b p
  | halt => exact h.ownHalt b p
  | lineOpen => exact h.ownLineOpen b p
  | lineClose => exact h.ownLineClose b p
  | lineReleaseTag =>
    show (ownLineReleaseTag b p s).Leaves _
    unfold ownLineReleaseTag
    split
    · exact h.groupClose _
    · trivial
  | lineReleaseAll =>
    have pointed (u : State) : (u.pointTo 0).cu = u.cu := rfl
    show ((s.groupClose Line.isNotFree).pointTo 0).cu.Consistent
    exact (h.groupClose _).of_cu (pointed _)
  | slotClear =>
    show (ownSlotClear b p s).Leaves _
    unfold ownSlotClear
    (repeat' split) <;> try exact Verdict.leaves_refuse _ _
    exact h.groupClose _
  | commit => exact h.ownCommit b p
  | condEnable => exact h.ownCondEnable b p
  | alertRelease => exact h.ownAlertRelease b p
  | _ => exact (ownerOf_told _ rfl b p s).imp fun _ => h.of_told

/-! ## Every step -/

theorem placeReply_cu (f : TxFrame) (before after : State) : (State.placeReply f before after).cu = after.cu := by
  unfold State.placeReply
  dsimp only
  split <;> rfl

/-- A request that is taken keeps what its owner keeps: the reply writes the link alone (R174, R175). -/
theorem take (h : s.cu.Consistent) (k : Kind) (r : Request) : (s.take k r (ownerOf k)).cu.Consistent := by
  by_cases hk : s.link.canTake (requestFrame k.code r)
  · have judged := judge_leaves k r (ownerOf k) s.accepted (owner (by exact h) k _ _)
    rw [State.take, State.takeFrame_of_canTake hk]
    dsimp only
    cases hv : judge k r (ownerOf k) s.accepted with
    | refuse st => exact h
    | done t st q =>
      rw [hv] at judged
      exact of_cu (s := t) judged (placeReply_cu _ _ _)
  · rw [State.take_of_not_canTake _ hk]
    exact h

/-- The events: a reset, a character, a frame sent, and those that raise conditions (R171 to R173, R176, R179). -/
theorem event {c : Instr} (hc : kindAndRequest c = none) (h : s.cu.Consistent) (ht : exec c s = .next t) : t.cu.Consistent := by
  cases c with
  | resetTake =>
    obtain rfl := Host.Outcome.next.inj ht
    split
    · exact State.reset_conditionsConsistent
    · exact h
  | powerOnReset => obtain rfl := Host.Outcome.next.inj ht; exact State.reset_conditionsConsistent
  | frameClose low => obtain rfl := Host.Outcome.next.inj ht; exact h.receiveCharacter _ _
  | characterReceived b low => obtain rfl := Host.Outcome.next.inj ht; exact h.receiveCharacter _ _
  | frameBoundary => exact h.frameBoundary ht
  | frameComputationComplete l => obtain rfl := Host.Outcome.next.inj ht; exact h.completeComputation l
  | pageClearComplete => exact h.pageClear ht
  | inputSlotReceived => exact h.input ht
  | rateMeasurementComplete =>
    obtain rfl := Host.Outcome.next.inj ht
    (repeat' split)
    · exact h
    · exact h
    · exact haltCause (by exact h) _ _
  | clockLost =>
    obtain rfl := Host.Outcome.next.inj ht
    split
    · exact raise (by exact h) _
    · exact h
  | frameTransmitDone | rateMeasurementLoss | trackerTimeout =>
    obtain rfl := Host.Outcome.next.inj ht
    (repeat' split) <;> exact h
  | _ => cases hc

/-- Every command keeps the condition records and the latch consistent. -/
theorem exec {c : Instr} (h : s.cu.Consistent) (ht : exec c s = .next t) : t.cu.Consistent := by
  obtain ⟨k, r, he⟩ | ⟨b, r, rfl⟩ | hc := exec_cases c s
  · obtain rfl := Host.Outcome.next.inj (he.symm.trans ht)
    exact h.take k r
  · obtain he | he := exec_unknownKind_cases b r s <;> obtain rfl := Host.Outcome.next.inj (he.symm.trans ht)
    · exact h
    · exact h
  · exact event hc h ht

end CondUnit.Consistent

/-- Settles O8: what is raised keeps the order of the flags and what is reported, and every batch of conditions ends with an alert
test, which leaves nothing announceable behind a clear latch. -/
theorem alertsStayConsistent : Obligations.AlertsStayConsistent := by
  intro s t h ht
  cases hp : s.pending with
  | nil =>
    rw [stepRunsTheFrontCommand.2 s hp] at ht
    cases ht
    exact h
  | cons c rest =>
    rw [stepRunsTheFrontCommand.1 c rest s hp] at ht
    exact CondUnit.Consistent.exec (s := { s with pending := rest }) h ht

end Sys2Proof.Machine
end
